-- ==== Sys2Proof/Word.lean ====
section
/-! DEFINITION. Words and bytes: the 64 data bits, the check byte and the 72-bit stored word of R1
(01_memory_geometry_and_the_check_code.md), and the one operation on stored words that is not the Check Unit's. -/

namespace Sys2Proof

/-- Eight bits: a check byte, a byte of the management port, the byte enables of one word. -/
abbrev Byte := BitVec 8

/-- The 64 data bits of a word (R1), bit 0 the least significant. -/
abbrev Word := BitVec 64

/-- A stored word: 64 data bits and 8 check bits, the 72 bits the array keeps (R1). -/
structure StoredWord where
  data : Word
  check : Byte
  deriving DecidableEq, Repr

/-- The stored word whose bits are those of `w`, inverted where `flips` has a one. -/
def StoredWord.flip (w flips : StoredWord) : StoredWord :=
  ⟨w.data ^^^ flips.data, w.check ^^^ flips.check⟩

/-- No bit set: as a set of changed cells, "no cell has changed". -/
def StoredWord.zero : StoredWord := ⟨0, 0⟩

end Sys2Proof
end

