-- ==== Sys2Proof/Config.lean ====
section
/-! DEFINITION. What one part fixes: capacities, identification values, the timer scale, and the value an array word
that nothing has written yet reads as. The part's rules leave no instruction result open, so there is no opaque free value: what the array holds and
which cells change come in with the commands (log entries 1, 2 and 9). -/

namespace Sys2Proof.Config

/-- Lines of a segment (R2). -/
abbrev linesPerSegment : Nat := 4096
/-- Words of a line (R1). -/
abbrev wordsPerLine : Nat := 8
/-- Words of a segment (R2). -/
abbrev wordsPerSegment : Nat := 32768
/-- Bytes of a segment, 40000h (R32). -/
abbrev bytesPerSegment : Nat := 0x40000
/-- Request Queue slots (R47). -/
abbrev requestQueueSlots : Nat := 16
/-- Retire Queue entries (R146). -/
abbrev retireQueueEntries : Nat := 8
/-- Repair Queue entries (R79). -/
abbrev repairQueueEntries : Nat := 8
/-- Remap Table entries (R16). -/
abbrev remapEntries : Nat := 32
/-- The fairness count's greatest value (R71). -/
abbrev fairnessLimit : Nat := 8
/-- REFCLK periods to the ms (R73, R110): REFCLK is 1 MHz. -/
abbrev periodsPerMs : Nat := 1000
/-- INIT lasts at most this many REFCLK periods (R188). -/
abbrev initBound : Nat := 200

/-- What an array word reads as that no LINE_WRITE has reached and in which no cell change has been seen. DESIGN CHOICE (log entry 1), unsafe alone:
the spec leaves the array's power-up contents open (R5, R9). The cell changes a read completion carries (log entry 2) put any contents in its place. -/
def unwrittenWord : StoredWord := StoredWord.zero

end Sys2Proof.Config
end

