-- ==== Sys2Proof/Syntax.lean ====
section
/-! DEFINITION. The commands: one constructor of `Instr` for each row of spec/opcode_table.json, with the operands its event brings from outside the part. -/

namespace Sys2Proof

/-- The requester class a request carries (R44). -/
inductive ReqClass
  | a
  | b
  deriving DecidableEq, Repr

/-- One word of a WRITE: its data and its eight byte enables (R44). -/
structure WriteWord where
  data : Word
  enables : Byte
  deriving DecidableEq, Repr

/-- The kind of a request, with what only a WRITE carries (R44). -/
inductive ReqKind
  | read
  | write (words : List WriteWord)
  deriving DecidableEq, Repr

/-- A request on the line link (R44). The count is kept as carried, whatever its value. -/
structure Request where
  kind : ReqKind
  tag : BitVec 6
  cls : ReqClass
  address : BitVec 28
  count : Nat
  deriving DecidableEq, Repr

/-- The cell changes of one line: for each of its 8 words, the bits of the stored word that have changed in the array since its last operation,
as found by the LINE_READ (log entry 2). A word left out has none. -/
abbrev LineFlips := List StoredWord

/-- A write transfer on the two-wire bus: the 7-bit target address, and its data bytes in order, the index byte first (R183). -/
structure Transfer where
  address : BitVec 7
  bytes : List Byte
  deriving DecidableEq, Repr

/-- A read transfer on the two-wire bus: the 7-bit target address, and how many bytes the host clocks (R183, R184). -/
structure ReadTransfer where
  address : BitVec 7
  count : Nat
  deriving DecidableEq, Repr

/-- The two intervals a patrol timer can have as its pace (R89). -/
inductive PaceInterval
  | patrol
  | calibration
  deriving DecidableEq, Repr

/-- The commands of the block: the rows of spec/opcode_table.json in their order. -/
inductive Instr
  /-- POWER_ON_RESET (R188): `asel` is the level of ASEL1 and ASEL0 from now on; `kept` names the words of an outstanding LINE_WRITE that the
  array stored all the same (R64). -/
  | powerOnReset (asel : BitVec 2) (kept : Byte)
  /-- INIT_COMPLETE (R188). -/
  | initComplete
  /-- REQUEST_TAKEN (R47): the link partner presents `r`. -/
  | requestTaken (r : Request)
  /-- RESPONSE_TAKEN (R49). -/
  | responseTaken
  /-- REQUEST_EXECUTE (R48). -/
  | requestExecute
  /-- ARRAY_GRANT (R70). -/
  | arrayGrant
  /-- DEMAND_READ_COMPLETE (R51). -/
  | demandReadComplete (flips : LineFlips)
  /-- DEMAND_MERGE_READ_COMPLETE (R56). -/
  | demandMergeReadComplete (flips : LineFlips)
  /-- DEMAND_WRITE_COMPLETE (R55). -/
  | demandWriteComplete
  /-- DUAL_WRITE_COMPLETE (R72). -/
  | dualWriteComplete
  /-- REPAIR_WRITE_COMPLETE (R82). -/
  | repairWriteComplete
  /-- PATROL_READ_COMPLETE (R92). -/
  | patrolReadComplete (flips : LineFlips)
  /-- FILL_WRITE_COMPLETE (R98). -/
  | fillWriteComplete
  /-- VERIFY_SWEEP_READ_COMPLETE (R102). -/
  | verifySweepReadComplete (flips : LineFlips)
  /-- COPY_READ_COMPLETE (R153). -/
  | copyReadComplete (flips : LineFlips)
  /-- COPY_WRITE_COMPLETE (R155). -/
  | copyWriteComplete
  /-- VERIFY_READ_COMPLETE (R156). -/
  | verifyReadComplete (flips : LineFlips)
  /-- DISCARDED_COMPLETION (R76). -/
  | discardedCompletion
  /-- PATROL_TICK (R91). -/
  | patrolTick
  /-- EPOCH_END (R111). -/
  | epochEnd
  /-- HOLD_OFF_END (R73). -/
  | holdOffEnd
  /-- MIGRATION_START (R151). -/
  | migrationStart
  /-- QUIESCE_COMPLETE (R166). -/
  | quiesceComplete
  /-- SETTINGS_WRITE (R185): the end of write transfer `t`, for its settings and parameters. -/
  | settingsWrite (t : Transfer)
  /-- EPOCH_EXPONENT_WRITE (R110): a write transfer that writes `k` to the epoch exponent. -/
  | epochExponentWrite (k : Byte)
  /-- PATROL_INTERVAL_WRITE (R89): a write transfer that writes `v` to the interval named. -/
  | patrolIntervalWrite (which : PaceInterval) (v : BitVec 16)
  /-- ENABLE_WRITE (R179): the end of write transfer `t`, for its enables and master enable. -/
  | enableWrite (t : Transfer)
  /-- ACKNOWLEDGE_MASK_WRITE (R180): the end of write transfer `t`, for its acknowledge mask. -/
  | acknowledgeMaskWrite (t : Transfer)
  /-- UNKNOWN_COMMAND (R190): a command code that names no command. -/
  | unknownCommand (code : Byte)
  /-- GO_ONLINE (R189). -/
  | goOnline
  /-- ENGINE_RESET (R194). -/
  | engineReset
  /-- FILL (R96), with parameters 0 and 1 as they stand. -/
  | fill
  /-- VERIFY (R101), with parameters 0 and 1 as they stand. -/
  | verify
  /-- RETIRE (R148), with parameter 0 as it stands. -/
  | retire
  /-- CANCEL_MIGRATION (R164). -/
  | cancelMigration
  /-- QUIESCE (R166). -/
  | quiesce
  /-- RESUME (R167). -/
  | resume
  /-- RESTORE (R28), with parameters 0 and 1 as they stand. -/
  | restore
  /-- TRANSLATE (R30), with parameter 0 as it stands. -/
  | translate
  /-- READ_REMAP (R31), with parameter 0 as it stands. -/
  | readRemap
  /-- SET_ROLE (R128), with parameters 0 to 3 as they stand. -/
  | setRole
  /-- RESEED (R129), with parameter 0 as it stands. -/
  | reseed
  /-- READ_HEALTH (R130), with parameter 0 as it stands. -/
  | readHealth
  /-- CALIBRATE (R135). -/
  | calibrate
  /-- CLEAR_CAPTURE (R176). -/
  | clearCapture
  /-- READ_CAPTURE (R177). -/
  | readCapture
  /-- READ_TRANSFER (R184): a read transfer. -/
  | readTransfer (t : ReadTransfer)
  deriving DecidableEq, Repr

end Sys2Proof
end

