-- ==== Sys2Proof/WellFormed.lean ====
section
/-! DEFINITION. Which commands the world outside the part can send. A WRITE has data and enables for each of its words (R44), a line has 8 words (R1),
a write transfer's first byte is its index (R183), an unknown command's code is not 00h and names no command (R190, R192). -/

namespace Sys2Proof

/-- The command codes of R192's table. -/
def commandCodes : List Byte :=
  [0x01, 0x02, 0x10, 0x11, 0x20, 0x21, 0x22, 0x23, 0x30, 0x31, 0x32, 0x40, 0x41, 0x42, 0x43, 0x50, 0x51]

/-- A WRITE carries one data word, with its enables, for each word of the request; a READ carries none (R44). -/
def Request.wf (r : Request) : Bool :=
  match r.kind with
  | .read => true
  | .write words => words.length == r.count

/-- Cell changes are given for the 8 words of the line (R1). -/
def LineFlips.wf (f : LineFlips) : Bool := f.length == Config.wordsPerLine

/-- A write transfer carries at least its index byte (R183). -/
def Transfer.wf (t : Transfer) : Bool := !t.bytes.isEmpty

/-- The commands the outside can send. -/
def Instr.wf (i : Instr) : Bool :=
  match i with
  | .requestTaken r => r.wf
  | .demandReadComplete f => LineFlips.wf f
  | .demandMergeReadComplete f => LineFlips.wf f
  | .patrolReadComplete f => LineFlips.wf f
  | .verifySweepReadComplete f => LineFlips.wf f
  | .copyReadComplete f => LineFlips.wf f
  | .verifyReadComplete f => LineFlips.wf f
  | .settingsWrite t => Transfer.wf t
  | .enableWrite t => Transfer.wf t
  | .acknowledgeMaskWrite t => Transfer.wf t
  | .unknownCommand code => code != 0 && !commandCodes.contains code
  | .powerOnReset _ _ => true
  | .initComplete => true
  | .responseTaken => true
  | .requestExecute => true
  | .arrayGrant => true
  | .demandWriteComplete => true
  | .dualWriteComplete => true
  | .repairWriteComplete => true
  | .fillWriteComplete => true
  | .copyWriteComplete => true
  | .discardedCompletion => true
  | .patrolTick => true
  | .epochEnd => true
  | .holdOffEnd => true
  | .migrationStart => true
  | .quiesceComplete => true
  | .epochExponentWrite _ => true
  | .patrolIntervalWrite _ _ => true
  | .goOnline => true
  | .engineReset => true
  | .fill => true
  | .verify => true
  | .retire => true
  | .cancelMigration => true
  | .quiesce => true
  | .resume => true
  | .restore => true
  | .translate => true
  | .readRemap => true
  | .setRole => true
  | .reseed => true
  | .readHealth => true
  | .calibrate => true
  | .clearCapture => true
  | .readCapture => true
  | .readTransfer _ => true

end Sys2Proof
end

