-- ==== Sys2Proof/Decode.lean ====
section
/-! DEFINITION. The words of the opcode table. The part is a block: no row of spec/opcode_table.json gives bits, so no word spells a command. -/

namespace Sys2Proof

/-- The command that a word spells by the table's bits: none, since the table gives no row any bits (log entry 20). -/
def decodeTableWord (_nbits _w : Nat) : Option Instr := none

end Sys2Proof
end

