-- ==== Sys2Proof/Machine/State.lean ====
section
/-! DEFINITION. Everything the spec gives the part, block by block as 00_scope.md lists the blocks, and the state right after power-on reset. -/

namespace Sys2Proof.Machine

/-! ## Part mode, roles and tables (01, 02) -/

/-- Part modes (R188). -/
inductive PartMode
  | init
  | config
  | online
  deriving DecidableEq, Repr

/-- Roles of a physical segment (R6). -/
inductive SegRole
  | inUse
  | spareFree
  | spareBound
  | retired
  | spareBad
  deriving DecidableEq, Repr

/-- One record of the Segment Status Table (R5). -/
structure SegRecord where
  role : SegRole
  filled : Bool
  deriving DecidableEq, Repr

/-- The geometry the part runs with: P and S as stored when GO_ONLINE was taken (R3). L is computed (R4). -/
structure Geometry where
  p : Nat
  s : Nat
  deriving DecidableEq, Repr

/-- How a logical segment was moved (R16). -/
inductive RemapOrigin
  | auto
  | manual
  | restored
  deriving DecidableEq, Repr

/-- The state an entry had when the migration in progress started (R16). -/
inductive Previous
  | free
  | active
  deriving DecidableEq, Repr

/-- The fields of a COPYING entry (R16). -/
structure CopyingEntry where
  logical : Nat
  current : Nat
  target : Nat
  cursor : Nat
  origin : RemapOrigin
  poisoned : Nat
  restarts : Nat
  previous : Previous
  deriving DecidableEq, Repr

/-- The fields of an ACTIVE entry (R16). -/
structure ActiveEntry where
  logical : Nat
  current : Nat
  origin : RemapOrigin
  poisoned : Nat
  restarts : Nat
  deriving DecidableEq, Repr

/-- An entry of the Remap Table with the fields its state has (R16). -/
inductive RemapEntry
  | free
  | copying (e : CopyingEntry)
  | active (e : ActiveEntry)
  deriving DecidableEq, Repr

/-- The Remap Controller's state. -/
structure RemapCtl where
  geometry : Option Geometry
  segs : List SegRecord
  remap : List RemapEntry
  deriving DecidableEq, Repr

/-! ## Words handed to a LINE_WRITE, and word classes (01) -/

/-- The CU's verdict on a word (R12). -/
inductive WordClass
  | clean
  | corrected
  | uncorrectable
  | poison
  deriving DecidableEq, Repr

/-- The two classes a word has that cannot be delivered (R46). -/
inductive BadClass
  | uncorrectable
  | poison
  deriving DecidableEq, Repr

/-- A word handed to a LINE_WRITE: data to be encoded, or the poison pattern (R11). -/
inductive StoreWord
  | data (d : Word)
  | poison
  deriving DecidableEq, Repr

/-- The words of one LINE_WRITE, by word number: `none` where the mask leaves the word out (R66). -/
abbrev LineStore := List (Option StoreWord)

/-! ## The line link (04) -/

/-- The status of a response with the fields that status has (R46). -/
inductive RespBody
  | okayRead (data : List Word)
  | okayWrite
  | fixed (data : List Word) (corrected : Nat)
  | fault (word : Nat) (cls : BadClass)
  | noaddr
  | badreq
  | offline
  deriving DecidableEq, Repr

/-- A response: its request's tag, and its status with its fields (R46). -/
structure Response where
  tag : BitVec 6
  body : RespBody
  deriving DecidableEq, Repr

/-- A request as the line link carries it, its enumerated fields as codes of one bit (R44, R197). -/
structure LinkRequest where
  kind : BitVec 1
  tag : BitVec 6
  cls : BitVec 1
  address : BitVec 28
  count : Nat
  words : List WriteWord
  deriving DecidableEq, Repr

/-- A response as the line link carries it, its enumerated fields as codes, a field its status does not have absent (R46, R197). -/
structure LinkResponse where
  tag : BitVec 6
  status : Nat
  data : Option (List Word)
  corrected : Option Nat
  faultWord : Option Nat
  faultClass : Option Nat
  deriving DecidableEq, Repr

/-- The step the executing request has reached (R48): which line operation is next or outstanding. `write` carries the words to be stored and the
lowest failed merge; `dual` is the dual write of a request with that failed merge (R59). -/
inductive DemandPhase
  | read
  | mergeRead
  | write (store : LineStore) (failed : Option (Nat × BadClass))
  | dual (failed : Option (Nat × BadClass))
  deriving DecidableEq, Repr

/-- Where that operation stands: held by the fill hold (R61), raised as DEMAND, or outstanding. An outstanding one keeps the logical segment
its translation yielded (R54), and the target of the dual write that R59 found due at its issue. -/
inductive DemandStep
  | held
  | raised
  | outstanding (logical : Nat) (dual : Option Nat)
  deriving DecidableEq, Repr

/-- A slot of the Request Queue (R47). -/
inductive Slot
  | waiting (r : Request)
  | executing (r : Request) (phase : DemandPhase) (step : DemandStep)
  | answered (resp : Response)
  deriving DecidableEq, Repr

/-- The Line Link Interface's state: the Request Queue, oldest slot first, and the requests it holds off on the link, oldest first (log entry 11). -/
structure LineLink where
  queue : List Slot
  heldOff : List Request
  deriving DecidableEq, Repr

/-! ## The migration engine (10) -/

/-- The origin of a Retire Queue entry (R146). -/
inductive RetireOrigin
  | auto
  | manual
  deriving DecidableEq, Repr

/-- An entry of the Retire Queue (R146). -/
structure RetireEntry where
  logical : Nat
  origin : RetireOrigin
  deriving DecidableEq, Repr

/-- Whether an engine's next array operation waits at the arbiter or is issued (R88, R149). -/
inductive OpStep
  | none
  | raised
  | outstanding
  deriving DecidableEq, Repr

/-- The Migration Engine's state with the line buffer and redo mark of the states that have them (R149). -/
inductive MigState
  | idle
  | copyRead (redo : Bool)
  | copyWrite (buffer : List StoreWord) (redo : Bool)
  | verifyRead (buffer : List StoreWord) (redo : Bool)
  | cancelling
  deriving DecidableEq, Repr

/-- The Migration Engine: Retire Queue (oldest first), state, step, quiesced (R146, R149). -/
structure MigEngine where
  queue : List RetireEntry
  state : MigState
  step : OpStep
  quiesced : Bool
  deriving DecidableEq, Repr

/-! ## The sweep engine (07) -/

/-- The sweep position (R88). -/
structure SweepPos where
  logical : Nat
  physical : Nat
  line : Nat
  deriving DecidableEq, Repr

/-- A running FILL or VERIFY: its range, its count, its position once it has one, and where its operation stands (R88, R97, R101). -/
structure SweepRun where
  first : Nat
  last : Nat
  count : Nat
  pos : Option SweepPos
  step : OpStep
  deriving DecidableEq, Repr

/-- The Sweep Engine's mode, with the running command in FILL and VERIFY (R88). -/
inductive SweepMode
  | patrol
  | fill (run : SweepRun)
  | verify (run : SweepRun)
  deriving DecidableEq, Repr

/-- The Sweep Engine: mode, patrol cursor, patrol pending, patrol timer (R88, R89). -/
structure SweepEngine where
  mode : SweepMode
  cursorSegment : Nat
  cursorLine : Nat
  patrolPending : OpStep
  patrolTimer : Option Nat
  deriving DecidableEq, Repr

/-! ## The repair unit (06) and the array arbiter (05) -/

/-- A physical word address: segment, line, word (R2). -/
structure WordAddr where
  segment : Nat
  line : Nat
  word : Nat
  deriving DecidableEq, Repr

/-- A Repair Queue entry (R79). -/
structure RepairEntry where
  addr : WordAddr
  data : Word
  deriving DecidableEq, Repr

/-- The Repair Unit: the queue, head first, and the word address of the outstanding repair write (R79, R82). -/
structure RepairUnit where
  queue : List RepairEntry
  record : Option WordAddr
  deriving DecidableEq, Repr

/-- The four requesters of the array port (R69). -/
inductive Requester
  | demand
  | repair
  | migration
  | sweep
  deriving DecidableEq, Repr

/-- The record of the outstanding operation (R67). A LINE_WRITE carries its words as stored, `none` where the mask leaves a word out;
a LINE_READ carries none. `deliver` is the delivery mark. -/
structure PortOp where
  requester : Requester
  segment : Nat
  line : Nat
  write : Option (List (Option StoredWord))
  deliver : Bool
  deriving DecidableEq, Repr

/-- The Array Arbiter: grant state (`none` is FREE), fairness count, hold-off timer (R67, R71, R73). -/
structure Arbiter where
  grant : Option PortOp
  fairness : Nat
  holdOff : Option Nat
  deriving DecidableEq, Repr

/-! ## The health monitor (08, 09) -/

/-- Why a record entered ALARM (R107). -/
inductive AlarmReason
  | threshold
  | uncorrectable
  | calibration
  deriving DecidableEq, Repr

/-- The state of a health record with the fields that state has (R107): calibration epochs left, activation baseline and snapshot, alarm reason. -/
inductive HealthState
  | untracked
  | baseline (left : Nat)
  | quiet
  | watch (a : Nat) (snapshot : Option Nat)
  | alarm (reason : AlarmReason)
  deriving DecidableEq, Repr

/-- The role of a health record, with a FOLLOWER's reference and weight (R107). -/
inductive HealthRole
  | independent
  | reference
  | follower (ref weight : Nat)
  deriving DecidableEq, Repr

/-- The condition the run count counts (R107). -/
inductive RunKind
  | none
  | watch
  | alarm
  | exit
  deriving DecidableEq, Repr

/-- A record of the Health Table (R107). `f` is the filtered count F, `l` the baseline L. -/
structure HealthRecord where
  state : HealthState
  role : HealthRole
  raw : Nat
  f : Nat
  l : Nat
  runCount : Nat
  runKind : RunKind
  settle : Nat
  deriving DecidableEq, Repr

/-- The calibration state (R134). -/
structure CalState where
  active : Bool
  baselineCount : Nat
  taken : Nat
  returnedQuiet : Nat
  calAlarms : Nat
  uncAlarms : Nat
  retired : Nat
  deriving DecidableEq, Repr

/-- The Health Monitor: Health Table, epoch timer, calibration state. -/
structure HealthMonitor where
  table : List HealthRecord
  epochTimer : Option Nat
  cal : CalState
  deriving DecidableEq, Repr

/-! ## Fault capture and alerts (11) -/

/-- The kind of a fault report (R170). -/
inductive FaultKind
  | corrected
  | uncorrectable
  | poison
  | noaddr
  deriving DecidableEq, Repr

/-- The origin of a fault report (R170). -/
inductive FaultOrigin
  | demandRead
  | demandMerge
  | patrol
  | verify
  | migrationCopy
  | migrationVerify
  deriving DecidableEq, Repr

/-- A fault report with its absent fields absent (R170): the location with its syndrome, the logical segment, the upstream address with its class. -/
structure FaultReport where
  kind : FaultKind
  origin : FaultOrigin
  location : Option (WordAddr × Byte)
  logical : Option Nat
  upstream : Option (BitVec 28 × ReqClass)
  deriving DecidableEq, Repr

/-- A seen flag and an again flag (R172). -/
structure SeenAgain where
  seen : Bool
  again : Bool
  deriving DecidableEq, Repr

/-- The Fault Capture Unit: the Capture Record (`none` is empty) and the eight flags (R172). -/
structure FaultCapture where
  record : Option FaultReport
  corrected : SeenAgain
  uncorrectable : SeenAgain
  poison : SeenAgain
  noaddr : SeenAgain
  deriving DecidableEq, Repr

/-- The twelve cause flags, in summary priority order (R178). -/
inductive Cause
  | resetSeen
  | uncorrectableSeen
  | sparesExhausted
  | migrationFailed
  | alarmEntered
  | calError
  | noaddrSeen
  | watchEntered
  | correctedCaptured
  | repairOverflow
  | migrationDone
  | commandDone
  deriving DecidableEq, Repr

/-- The Alert Unit: cause flags and enables, bit n-1 for the flag numbered n, and the master enable (R178, R179). -/
structure AlertUnit where
  causes : BitVec 12
  enables : BitVec 12
  master : Bool
  deriving DecidableEq, Repr

/-! ## The management port (12) -/

/-- The outcome codes (R192). -/
inductive CmdOutcome
  | none
  | ok
  | badParameter
  | notOnline
  | notConfig
  | segmentBusy
  | queueFull
  | noSpare
  | notFound
  | notFilled
  | uncorrectable
  | aborted
  deriving DecidableEq, Repr

/-- The settings block, each setting as stored (R195). -/
structure Settings where
  geomP : Nat
  geomS : Nat
  epochExp : Nat
  patrolInterval : Nat
  calInterval : Nat
  betaF : Nat
  betaL : Nat
  betaFast : Nat
  betaA : Nat
  band : Nat
  watchThreshold : Nat
  alarmThreshold : Nat
  hysteresis : Nat
  watchDebounce : Nat
  alarmDebounce : Nat
  exitDebounce : Nat
  settleThreshold : Nat
  settleEpochs : Nat
  releasePct : Nat
  calEpochs : Nat
  calBoundary : Nat
  autoRetire : Bool
  holdOffLength : Nat
  captureCorrected : Bool
  split : Bool
  window : Nat
  baseA : Nat
  lenA : Nat
  baseB : Nat
  lenB : Nat
  deriving DecidableEq, Repr

/-- The command block and the transfer state of the Management Port (R183, R184, R186). -/
structure MgmtPort where
  index : Byte
  param0 : BitVec 16
  param1 : BitVec 16
  param2 : BitVec 16
  param3 : BitVec 16
  busy : Bool
  refusedBusy : Bool
  lastCommand : Byte
  lastOutcome : CmdOutcome
  longCommand : Byte
  longOutcome : CmdOutcome
  refusedCommand : Byte
  results : List (BitVec 16)
  readCopy : List Byte
  readBytes : List Byte
  deriving DecidableEq, Repr

/-! ## The whole part -/

/-- The part, its queue of commands, and the array behind its array port. The array lists (array word number, stored word), numbers rising, and lists no
word equal to what an unlisted one reads as (log entry 1). -/
structure State where
  pending : List Instr
  mode : PartMode
  aselPins : BitVec 2
  aselLatch : BitVec 2
  initElapsed : Nat
  settings : Settings
  mp : MgmtPort
  lli : LineLink
  rc : RemapCtl
  me : MigEngine
  se : SweepEngine
  ru : RepairUnit
  aa : Arbiter
  hm : HealthMonitor
  fcu : FaultCapture
  alu : AlertUnit
  array : List (Nat × StoredWord)
  deriving DecidableEq, Repr

/-- The part stops on no command: the array port reports no error (R66), and what goes wrong is answered in responses, fault reports, cause flags and
command outcomes. No constructor. -/
inductive Fault
  deriving DecidableEq, Repr

/-- Why a command has no meaning in the model. -/
inductive Refusal
  /-- Raised by an arm of `exec` whose row is not modelled yet, with the row's mnemonic (safe). No arm raises it now. -/
  | notModelled (mnemonic : String)
  deriving DecidableEq, Repr

/-- Every setting at its default (R195). -/
def Settings.reset : Settings :=
  { geomP := 1024, geomS := 16, epochExp := 10, patrolInterval := 100, calInterval := 10,
    betaF := 2, betaL := 6, betaFast := 3, betaA := 3, band := 64, watchThreshold := 48, alarmThreshold := 256,
    hysteresis := 16, watchDebounce := 3, alarmDebounce := 4, exitDebounce := 3, settleThreshold := 8, settleEpochs := 8,
    releasePct := 64, calEpochs := 8, calBoundary := 128, autoRetire := false, holdOffLength := 10,
    captureCorrected := false, split := false, window := 0, baseA := 0, lenA := 1024, baseB := 0, lenB := 0 }

/-- The fields of the MP after power-on reset (R186). -/
def MgmtPort.reset : MgmtPort :=
  { index := 0, param0 := 0, param1 := 0, param2 := 0, param3 := 0, busy := false, refusedBusy := false,
    lastCommand := 0, lastOutcome := .none, longCommand := 0, longOutcome := .none, refusedCommand := 0,
    results := List.replicate 8 0xFFFF, readCopy := [], readBytes := [] }

/-- Seen and again clear (R172). -/
def SeenAgain.clear : SeenAgain := ⟨false, false⟩

/-- Capture Record empty, all eight flags clear (R172). -/
def FaultCapture.reset : FaultCapture := ⟨none, .clear, .clear, .clear, .clear⟩

/-- Not calibrating, every count 0 (R134). -/
def CalState.reset : CalState := ⟨false, 0, 0, 0, 0, 0, 0⟩

/-- The part right after power-on reset: INIT, every table and queue empty, every setting at its default, RESET_SEEN the one flag set (R188, R182).
The pins and their latch are 0 (log entry 10), the array lists nothing (log entry 1), the queue of commands is empty. -/
def State.reset : State :=
  { pending := [], mode := .init, aselPins := 0, aselLatch := 0, initElapsed := 0,
    settings := .reset, mp := .reset, lli := ⟨[], []⟩,
    rc := ⟨none, [], List.replicate Config.remapEntries .free⟩,
    me := ⟨[], .idle, .none, false⟩, se := ⟨.patrol, 0, 0, .none, none⟩, ru := ⟨[], none⟩, aa := ⟨none, 0, none⟩,
    hm := ⟨[], none, .reset⟩, fcu := .reset, alu := ⟨1, 0, false⟩, array := [] }

end Sys2Proof.Machine
end

