-- ==== Sys2Proof/Machine/Flags.lean ====
section
/-! DEFINITION. Everything the part computes about a word or about its flags: the check code of the Check Unit (R10 to R14),
the cause flags, the summary code and the ALERT line of the Alert Unit (R178, R181). -/

namespace Sys2Proof.Machine

/-! ## The check code (R10) -/

/-- The code position of data bit `k` (the table of R10). -/
def dataPosition (k : Nat) : Nat :=
  if k = 0 then 3
  else if k ≤ 3 then k + 4
  else if k ≤ 10 then k + 5
  else if k ≤ 25 then k + 6
  else if k ≤ 56 then k + 7
  else k + 8

/-- The exclusive-or of the bits of `d` that `ks` numbers. -/
def xorBits (ks : List Nat) {n : Nat} (d : BitVec n) : Bool :=
  ks.foldr (fun k acc => Bool.xor (d.getLsbD k) acc) false

/-- The data bits whose position number has bit `i` set. -/
def coveredBits (i : Nat) : List Nat :=
  (List.range 64).filter fun k => (dataPosition k).testBit i

/-- Check bit ci of `d`, i from 0 to 6 (R10). -/
def checkBit (i : Nat) (d : Word) : Bool := xorBits (coveredBits i) d

/-- The number whose bits are `bs`, bit 0 first. -/
def bitsToNat : List Bool → Nat
  | [] => 0
  | b :: bs => b.toNat + 2 * bitsToNat bs

/-- The bits of `d`, all exclusive-ored. -/
def parity {n : Nat} (d : BitVec n) : Bool := xorBits (List.range n) d

/-- c0 to c6 of `d`. -/
def lowCheckBits (d : Word) : List Bool := (List.range 7).map fun i => checkBit i d

/-- Check bit c7 of `d`: all data bits and c0 to c6 exclusive-ored (R10). -/
def checkBit7 (d : Word) : Bool := (lowCheckBits d).foldr Bool.xor (parity d)

/-- The check byte of `d` (R10). -/
def checkByte (d : Word) : Byte := BitVec.ofNat 8 (bitsToNat (lowCheckBits d ++ [checkBit7 d]))

/-- The word as encoded for a LINE_WRITE (R11). -/
def encodeWord (d : Word) : StoredWord := ⟨d, checkByte d⟩

/-- The poison pattern: data all ones, the check byte of that data with bits 0 and 1 inverted (R14). -/
def poisonPattern : StoredWord := ⟨0xFFFFFFFFFFFFFFFF, 0xFC⟩

/-- The 72 bits a LINE_WRITE carries for a word handed to it (R11). -/
def StoreWord.encode : StoreWord → StoredWord
  | .data d => encodeWord d
  | .poison => poisonPattern

/-- The 7-bit syndrome s of a stored word (R12). -/
def syndrome (w : StoredWord) : Nat :=
  bitsToNat ((List.range 7).map fun i => Bool.xor (w.check.getLsbD i) (checkBit i w.data))

/-- The overall parity p of a stored word (R12). -/
def wordParity (w : StoredWord) : Bool := Bool.xor (parity w.data) (parity w.check)

/-- The class of a stored word: the first line of R12's table that holds. -/
def classify (w : StoredWord) : WordClass :=
  if w = poisonPattern then .poison
  else if wordParity w then
    if syndrome w ≤ 71 then .corrected else .uncorrectable
  else if syndrome w = 0 then .clean else .uncorrectable

/-- The data bit at code position `s`, if one sits there (R10). -/
def bitAtPosition (s : Nat) : Option Nat := (List.range 64).find? fun k => dataPosition k == s

/-- The data delivered for a CLEAN or CORRECTED word (R12): the stored data, with the data bit at position s inverted where p = 1 and s is a data position. -/
def deliveredData (w : StoredWord) : Word :=
  if wordParity w then
    match bitAtPosition (syndrome w) with
    | some k => w.data ^^^ (1#64 <<< k)
    | none => w.data
  else w.data

/-- The 8-bit syndrome of fault reports: s in bits 0 to 6, p in bit 7 (R13). -/
def syndromeByte (w : StoredWord) : Byte :=
  BitVec.ofNat 8 (syndrome w + 128 * (wordParity w).toNat)

/-- The class of a word that cannot be delivered. -/
def badClass (w : StoredWord) : Option BadClass :=
  match classify w with
  | .uncorrectable => some .uncorrectable
  | .poison => some .poison
  | .clean => none
  | .corrected => none

/-- The fault kind of a word that cannot be delivered (R53). -/
def BadClass.kind : BadClass → FaultKind
  | .uncorrectable => .uncorrectable
  | .poison => .poison

/-! ## Cause flags (R178, R181) -/

/-- The bit of a cause flag: its number less one (R178, R186). -/
def Cause.bit : Cause → Nat
  | .resetSeen => 0
  | .uncorrectableSeen => 1
  | .sparesExhausted => 2
  | .migrationFailed => 3
  | .alarmEntered => 4
  | .calError => 5
  | .noaddrSeen => 6
  | .watchEntered => 7
  | .correctedCaptured => 8
  | .repairOverflow => 9
  | .migrationDone => 10
  | .commandDone => 11

/-- The mask of one cause flag. -/
def Cause.mask (c : Cause) : BitVec 12 := 1#12 <<< c.bit

/-- The Alert Unit with flag `c` set (R178). -/
def AlertUnit.set (a : AlertUnit) (c : Cause) : AlertUnit := { a with causes := a.causes ||| c.mask }

/-- Whether flag `c` is set. -/
def AlertUnit.isSet (a : AlertUnit) (c : Cause) : Bool := a.causes.getLsbD c.bit

/-- The summary code: 0, or the number of the highest-priority flag both set and enabled (R181). -/
def AlertUnit.summary (a : AlertUnit) : Nat :=
  match (List.range 12).find? fun b => (a.causes &&& a.enables).getLsbD b with
  | some b => b + 1
  | none => 0

/-- The ALERT line is asserted: master enable on and a flag both set and enabled (R181). -/
def AlertUnit.asserted (a : AlertUnit) : Bool := a.master && a.causes &&& a.enables != 0

/-- The summary code of the part (R181). -/
def State.summaryCode (s : State) : Nat := s.alu.summary

/-- The ALERT line of the part (R181). -/
def State.alert (s : State) : Bool := s.alu.asserted

/-! ## Codes of the enumerated fields (R192, R196) -/

/-- The outcome codes of R192. -/
def CmdOutcome.code : CmdOutcome → Byte
  | .none => 0x00
  | .ok => 0x01
  | .badParameter => 0x02
  | .notOnline => 0x03
  | .notConfig => 0x04
  | .segmentBusy => 0x05
  | .queueFull => 0x06
  | .noSpare => 0x07
  | .notFound => 0x08
  | .notFilled => 0x09
  | .uncorrectable => 0x0A
  | .aborted => 0x0B

/-- Remap entry state codes (R196). -/
def RemapEntry.code : RemapEntry → Nat
  | .free => 0
  | .copying _ => 1
  | .active _ => 2

/-- Origin codes of a Remap entry (R196). -/
def RemapOrigin.code : RemapOrigin → Nat
  | .auto => 0
  | .manual => 1
  | .restored => 2

/-- Codes of previous (R196). -/
def Previous.code : Previous → Nat
  | .free => 0
  | .active => 2

/-- Health state codes (R196). -/
def HealthState.code : HealthState → Nat
  | .untracked => 0
  | .baseline _ => 1
  | .quiet => 2
  | .watch _ _ => 3
  | .alarm _ => 4

/-- Alarm reason codes, 3 where absent (R196). -/
def HealthState.reasonCode : HealthState → Nat
  | .alarm .threshold => 0
  | .alarm .uncorrectable => 1
  | .alarm .calibration => 2
  | .untracked => 3
  | .baseline _ => 3
  | .quiet => 3
  | .watch _ _ => 3

/-- Role codes (R196). -/
def HealthRole.code : HealthRole → Nat
  | .independent => 0
  | .reference => 1
  | .follower _ _ => 2

/-- Run kind codes (R196). -/
def RunKind.code : RunKind → Nat
  | .none => 0
  | .watch => 1
  | .alarm => 2
  | .exit => 3

/-- Fault kind codes (R196). -/
def FaultKind.code : FaultKind → Nat
  | .corrected => 0
  | .uncorrectable => 1
  | .poison => 2
  | .noaddr => 3

/-- Fault origin codes (R196). -/
def FaultOrigin.code : FaultOrigin → Nat
  | .demandRead => 0
  | .demandMerge => 1
  | .patrol => 2
  | .verify => 3
  | .migrationCopy => 4
  | .migrationVerify => 5

/-- Word class codes (R196, R197). -/
def BadClass.code : BadClass → Nat
  | .uncorrectable => 1
  | .poison => 2

/-- Part mode codes: 01h CONFIG, 02h ONLINE; INIT is never read (R186, R188). -/
def PartMode.code : PartMode → Byte
  | .init => 0x00
  | .config => 0x01
  | .online => 0x02

/-- Requester class codes (R197). -/
def reqClassCode : ReqClass → Nat
  | .a => 0
  | .b => 1

/-- The class a code of one bit names (R197). -/
def reqClassOfCode (c : BitVec 1) : ReqClass := if c = 0 then .a else .b

/-- Request kind codes (R197). -/
def reqKindCode : ReqKind → Nat
  | .read => 0
  | .write _ => 1

/-- The kind a code of one bit names, with the words a WRITE carries (R44, R197). -/
def reqKindOfCode (c : BitVec 1) (words : List WriteWord) : ReqKind := if c = 0 then .read else .write words

/-- Response status codes (R197). -/
def RespBody.statusCode : RespBody → Nat
  | .okayRead _ => 0
  | .okayWrite => 0
  | .fixed _ _ => 1
  | .fault _ _ => 2
  | .noaddr => 3
  | .badreq => 4
  | .offline => 5

end Sys2Proof.Machine
end

