-- ==== Sys2Proof/Machine/Operands.lean ====
section
/-! DEFINITION. The operand forms: the words and enables of a request (R32, R44, R55, R56), the bytes of a write transfer (R183, R185), the settings block
and its clamping (R195), and the command a code byte stands for (R190, R192). -/

namespace Sys2Proof.Machine

/-! ## Requests (R32, R44) -/

/-- The upstream segment of an address (R32). -/
abbrev upstreamSegment (a : BitVec 28) : Nat := a.toNat / Config.bytesPerSegment

/-- The line of a request (R32). -/
abbrev requestLine (a : BitVec 28) : Nat := a.toNat % Config.bytesPerSegment / 64

/-- The first word of a request within its line (R44). -/
abbrev requestFirst (a : BitVec 28) : Nat := a.toNat % 64 / 8

/-- The 8 word numbers of a line. -/
def lineWords : List Nat := List.range Config.wordsPerLine

/-- The bits of a word that `en` enables: 8 bits for each enabled byte (R1). -/
def enableMask (en : Byte) : Word :=
  (List.range 8).foldr (fun k m => if en.getLsbD k then m ||| (0xFF#64 <<< (8 * k)) else m) 0

/-- The enabled bytes of `new` in place of the same bytes of `old` (R56). -/
def mergeBytes (old new : Word) (en : Byte) : Word :=
  (old &&& ~~~ enableMask en) ||| (new &&& enableMask en)

/-- What a partial word is written as, by the class of the word read (R56). -/
def mergeWord (x : WriteWord) (old : StoredWord) : StoreWord :=
  match badClass old with
  | some _ => .poison
  | none => .data (mergeBytes (deliveredData old) x.data x.enables)

end Sys2Proof.Machine

namespace Sys2Proof

open Sys2Proof.Machine

/-- Word `w` of the line is one of the request's words. -/
def Request.names (r : Request) (w : Nat) : Bool :=
  requestFirst r.address ≤ w && w < requestFirst r.address + r.count

/-- The words of a WRITE; none for a READ. -/
def Request.writeWords (r : Request) : List WriteWord :=
  match r.kind with
  | .read => []
  | .write ws => ws

/-- What a WRITE carries for word `w` of its line: a word outside the request, or one for which nothing was carried, has no byte enabled. -/
def Request.wordAt (r : Request) (w : Nat) : WriteWord :=
  if r.names w then r.writeWords.getD (w - requestFirst r.address) ⟨0, 0⟩ else ⟨0, 0⟩

/-- Word `w` of the line is fully enabled by the request (R44). -/
def Request.fullWord (r : Request) (w : Nat) : Bool := (r.wordAt w).enables == 0xFF

/-- Word `w` of the line is partly enabled by the request (R44). -/
def Request.partialWord (r : Request) (w : Nat) : Bool :=
  (r.wordAt w).enables != 0 && (r.wordAt w).enables != 0xFF

/-- The request is a WRITE. -/
def Request.isWrite (r : Request) : Bool :=
  match r.kind with
  | .read => false
  | .write _ => true

/-- The request is a read-modify-write: a WRITE with at least one partial word (R44). -/
def Request.isMerge (r : Request) : Bool := r.isWrite && lineWords.any r.partialWord

/-- The request as the link carries it (R44, R197). -/
def Request.link (r : Request) : LinkRequest :=
  ⟨BitVec.ofNat 1 (reqKindCode r.kind), r.tag, BitVec.ofNat 1 (reqClassCode r.cls), r.address, r.count, r.writeWords⟩

/-- The shape check of R45 refuses the request. -/
def Request.badShape (r : Request) : Bool :=
  r.count == 0 || 8 < r.count || 8 < requestFirst r.address + r.count ||
    (r.isWrite && r.writeWords.all fun x => x.enables == 0)

/-- The words a full write stores: its fully enabled words (R55). -/
def Request.fullStore (r : Request) : LineStore :=
  lineWords.map fun w => if r.fullWord w then some (.data (r.wordAt w).data) else none

/-- The words the LINE_WRITE of a read-modify-write stores, from the line its LINE_READ returned (R56 to R58). -/
def Request.mergedStore (r : Request) (line : List StoredWord) : LineStore :=
  lineWords.map fun w =>
    if r.fullWord w then some (.data (r.wordAt w).data)
    else if r.partialWord w then some (mergeWord (r.wordAt w) (line.getD w StoredWord.zero))
    else none

end Sys2Proof

namespace Sys2Proof.Machine

/-! ## The line link's codes (R197) -/

/-- The request that the link partner presents with these codes and fields (R44, R197). -/
def LinkRequest.request (x : LinkRequest) : Request :=
  ⟨reqKindOfCode x.kind x.words, x.tag, reqClassOfCode x.cls, x.address, x.count⟩

/-- The response as the link partner receives it: the fields each status has, by R46's table, and the others absent (R46, R197). -/
def Response.link (x : Response) : LinkResponse :=
  let out := fun data corrected word cls => (⟨x.tag, x.body.statusCode, data, corrected, word, cls⟩ : LinkResponse)
  match x.body with
  | .okayRead data => out (some data) none none none
  | .okayWrite => out none none none none
  | .fixed data n => out (some data) (some n) none none
  | .fault w c => out none none (some w) (some c.code)
  | .noaddr => out none none none none
  | .badreq => out none none none none
  | .offline => out none none none none

/-! ## Selected words of a line -/

/-- The words of a line that `p` selects, with their numbers, in ascending order. -/
def selectWords (p : Nat → Bool) (line : List StoredWord) : List (Nat × StoredWord) :=
  (lineWords.filter p).map fun w => (w, line.getD w StoredWord.zero)

/-- The lowest-numbered word that cannot be delivered, with its class. -/
def firstBad : List (Nat × StoredWord) → Option (Nat × StoredWord × BadClass)
  | [] => none
  | (w, x) :: rest =>
    match badClass x with
    | some c => some (w, x, c)
    | none => firstBad rest

/-- The lowest-numbered word of class `c`. -/
def firstOfClass (c : WordClass) : List (Nat × StoredWord) → Option (Nat × StoredWord)
  | [] => none
  | (w, x) :: rest => if classify x = c then some (w, x) else firstOfClass c rest

/-- How many of the words are of class `c`. -/
def countOfClass (c : WordClass) (ws : List (Nat × StoredWord)) : Nat :=
  (ws.filter fun x => classify x.2 == c).length

/-! ## The bytes of a write transfer (R183, R185) -/

/-- The value last written to index `k` by data bytes written from index `i` on, the index rising by one after each and wrapping from FFh to 00h (R183). -/
def lastWritten (k : Nat) : List Byte → Nat → Option Byte → Option Byte
  | [], _, acc => acc
  | b :: bs, i, acc => lastWritten k bs ((i + 1) % 256) (if i = k then some b else acc)

/-- The byte a write transfer holds for index `k`, if it wrote one. -/
def heldByte (t : Transfer) (k : Nat) : Option Byte :=
  match t.bytes with
  | [] => none
  | i :: bs => lastWritten k bs i.toNat none

/-- The last value written whole to the 16-bit field at `k`: its low byte, and then its high byte as the next byte of the transfer (R34, R185; log entry 21). -/
def lastPair (k : Nat) : List Byte → Nat → Option (BitVec 16) → Option (BitVec 16)
  | lo :: hi :: rest, i, acc => lastPair k (hi :: rest) ((i + 1) % 256) (if i = k then some (hi ++ lo) else acc)
  | [_], _, acc => acc
  | [], _, acc => acc

/-- The value a write transfer holds for a 16-bit field at `k`: none unless both bytes were written, low byte first (R34, R185). -/
def heldWord (t : Transfer) (k : Nat) : Option (BitVec 16) :=
  match t.bytes with
  | [] => none
  | i :: bs => lastPair k bs i.toNat none

/-- The current index after a write transfer: its index byte, raised by one for each further byte (R183). -/
def indexAfter (t : Transfer) (before : Byte) : Byte :=
  match t.bytes with
  | [] => before
  | i :: bs => i + BitVec.ofNat 8 bs.length

/-! ## The settings block (R195) -/

/-- The settings, in the order of R195's table. -/
inductive Setting
  | geomP
  | geomS
  | epochExp
  | patrolInterval
  | calInterval
  | betaF
  | betaL
  | betaFast
  | betaA
  | band
  | watchThreshold
  | alarmThreshold
  | hysteresis
  | watchDebounce
  | alarmDebounce
  | exitDebounce
  | settleThreshold
  | settleEpochs
  | releasePct
  | calEpochs
  | calBoundary
  | autoRetire
  | holdOffLength
  | captureCorrected
  | split
  | window
  | baseA
  | lenA
  | baseB
  | lenB
  deriving DecidableEq, Repr

/-- Every setting. -/
def Setting.all : List Setting :=
  [.geomP, .geomS, .epochExp, .patrolInterval, .calInterval, .betaF, .betaL, .betaFast, .betaA, .band, .watchThreshold,
   .alarmThreshold, .hysteresis, .watchDebounce, .alarmDebounce] ++
  [.exitDebounce, .settleThreshold, .settleEpochs, .releasePct, .calEpochs, .calBoundary, .autoRetire, .holdOffLength,
   .captureCorrected, .split, .window, .baseA, .lenA, .baseB, .lenB]

/-- The (first) index of a setting (R195). -/
def Setting.index : Setting → Nat
  | .geomP => 0x40
  | .geomS => 0x42
  | .epochExp => 0x43
  | .patrolInterval => 0x44
  | .calInterval => 0x46
  | .betaF => 0x48
  | .betaL => 0x49
  | .betaFast => 0x4A
  | .betaA => 0x4B
  | .band => 0x4C
  | .watchThreshold => 0x4E
  | .alarmThreshold => 0x50
  | .hysteresis => 0x52
  | .watchDebounce => 0x54
  | .alarmDebounce => 0x55
  | .exitDebounce => 0x56
  | .settleThreshold => 0x57
  | .settleEpochs => 0x59
  | .releasePct => 0x5A
  | .calEpochs => 0x5B
  | .calBoundary => 0x5C
  | .autoRetire => 0x5E
  | .holdOffLength => 0x5F
  | .captureCorrected => 0x60
  | .split => 0x64
  | .window => 0x65
  | .baseA => 0x67
  | .lenA => 0x69
  | .baseB => 0x6B
  | .lenB => 0x6D

/-- Whether a setting is a 16-bit field (R195). -/
def Setting.wide : Setting → Bool
  | .geomP => true
  | .geomS => false
  | .epochExp => false
  | .patrolInterval => true
  | .calInterval => true
  | .betaF => false
  | .betaL => false
  | .betaFast => false
  | .betaA => false
  | .band => true
  | .watchThreshold => true
  | .alarmThreshold => true
  | .hysteresis => true
  | .watchDebounce => false
  | .alarmDebounce => false
  | .exitDebounce => false
  | .settleThreshold => true
  | .settleEpochs => false
  | .releasePct => false
  | .calEpochs => false
  | .calBoundary => true
  | .autoRetire => false
  | .holdOffLength => false
  | .captureCorrected => false
  | .split => false
  | .window => true
  | .baseA => true
  | .lenA => true
  | .baseB => true
  | .lenB => true

/-- The range a written value is clamped to (R195). -/
def Setting.range : Setting → Nat × Nat
  | .geomP => (256, 1024)
  | .geomS => (0, 32)
  | .epochExp => (0, 15)
  | .patrolInterval => (0, 65535)
  | .calInterval => (1, 65535)
  | .betaF => (0, 7)
  | .betaL => (0, 7)
  | .betaFast => (0, 7)
  | .betaA => (0, 7)
  | .band => (0, 4095)
  | .watchThreshold => (0, 4095)
  | .alarmThreshold => (0, 4095)
  | .hysteresis => (0, 4095)
  | .watchDebounce => (1, 15)
  | .alarmDebounce => (1, 15)
  | .exitDebounce => (1, 15)
  | .settleThreshold => (0, 4095)
  | .settleEpochs => (1, 255)
  | .releasePct => (0, 127)
  | .calEpochs => (1, 64)
  | .calBoundary => (0, 4095)
  | .autoRetire => (0, 1)
  | .holdOffLength => (0, 255)
  | .captureCorrected => (0, 1)
  | .split => (0, 1)
  | .window => (0, 1024)
  | .baseA => (0, 1024)
  | .lenA => (0, 1024)
  | .baseB => (0, 1024)
  | .lenB => (0, 1024)

/-- The value stored for a written one: the nearest value of the range (R195). For a flag, 0 is off and any other value 1. -/
def Setting.clamp (x : Setting) (v : Nat) : Nat := max x.range.1 (min v x.range.2)

/-- The stored value of a setting as a number; a flag reads back as 0 or 1 (R195). -/
def Settings.get (st : Settings) : Setting → Nat
  | .geomP => st.geomP
  | .geomS => st.geomS
  | .epochExp => st.epochExp
  | .patrolInterval => st.patrolInterval
  | .calInterval => st.calInterval
  | .betaF => st.betaF
  | .betaL => st.betaL
  | .betaFast => st.betaFast
  | .betaA => st.betaA
  | .band => st.band
  | .watchThreshold => st.watchThreshold
  | .alarmThreshold => st.alarmThreshold
  | .hysteresis => st.hysteresis
  | .watchDebounce => st.watchDebounce
  | .alarmDebounce => st.alarmDebounce
  | .exitDebounce => st.exitDebounce
  | .settleThreshold => st.settleThreshold
  | .settleEpochs => st.settleEpochs
  | .releasePct => st.releasePct
  | .calEpochs => st.calEpochs
  | .calBoundary => st.calBoundary
  | .autoRetire => st.autoRetire.toNat
  | .holdOffLength => st.holdOffLength
  | .captureCorrected => st.captureCorrected.toNat
  | .split => st.split.toNat
  | .window => st.window
  | .baseA => st.baseA
  | .lenA => st.lenA
  | .baseB => st.baseB
  | .lenB => st.lenB

/-- The settings with `x` stored as `v`, already clamped. -/
def Settings.put (st : Settings) (x : Setting) (v : Nat) : Settings :=
  match x with
  | .geomP => { st with geomP := v }
  | .geomS => { st with geomS := v }
  | .epochExp => { st with epochExp := v }
  | .patrolInterval => { st with patrolInterval := v }
  | .calInterval => { st with calInterval := v }
  | .betaF => { st with betaF := v }
  | .betaL => { st with betaL := v }
  | .betaFast => { st with betaFast := v }
  | .betaA => { st with betaA := v }
  | .band => { st with band := v }
  | .watchThreshold => { st with watchThreshold := v }
  | .alarmThreshold => { st with alarmThreshold := v }
  | .hysteresis => { st with hysteresis := v }
  | .watchDebounce => { st with watchDebounce := v }
  | .alarmDebounce => { st with alarmDebounce := v }
  | .exitDebounce => { st with exitDebounce := v }
  | .settleThreshold => { st with settleThreshold := v }
  | .settleEpochs => { st with settleEpochs := v }
  | .releasePct => { st with releasePct := v }
  | .calEpochs => { st with calEpochs := v }
  | .calBoundary => { st with calBoundary := v }
  | .autoRetire => { st with autoRetire := v != 0 }
  | .holdOffLength => { st with holdOffLength := v }
  | .captureCorrected => { st with captureCorrected := v != 0 }
  | .split => { st with split := v != 0 }
  | .window => { st with window := v }
  | .baseA => { st with baseA := v }
  | .lenA => { st with lenA := v }
  | .baseB => { st with baseB := v }
  | .lenB => { st with lenB := v }

/-- The geometry settings, whose writes in ONLINE are ignored (R3). -/
def Setting.isGeometry : Setting → Bool
  | .geomP => true
  | .geomS => true
  | _ => false

/-- The complete value a write transfer holds for setting `x` (R185). -/
def heldSetting (t : Transfer) (x : Setting) : Option Nat :=
  if x.wide then (heldWord t x.index).map BitVec.toNat else (heldByte t x.index).map BitVec.toNat

/-- The settings after the end of a write transfer: each complete held value stored clamped, the geometry's only where it may be written (R3, R185, R195). -/
def applySettings (online : Bool) (t : Transfer) (st : Settings) : Settings :=
  Setting.all.foldl
    (fun acc x =>
      if online && x.isGeometry then acc
      else match heldSetting t x with
        | some v => acc.put x (x.clamp v)
        | none => acc)
    st

/-- The write transfer to target address `a` that writes value `v` to setting `x` and nothing else, low byte first (R183). -/
def settingTransfer (a : BitVec 7) (x : Setting) (v : BitVec 16) : Transfer :=
  if x.wide then ⟨a, [BitVec.ofNat 8 x.index, v.setWidth 8, (v >>> 8).setWidth 8]⟩
  else ⟨a, [BitVec.ofNat 8 x.index, v.setWidth 8]⟩

/-! ## Command codes (R190, R192) -/

/-- The command row a code byte stands for; none for 00h, which is no command. -/
def commandOfCode (code : Byte) : Option Instr :=
  match code.toNat with
  | 0x00 => none
  | 0x01 => some .goOnline
  | 0x02 => some .engineReset
  | 0x10 => some .fill
  | 0x11 => some .verify
  | 0x20 => some .retire
  | 0x21 => some .cancelMigration
  | 0x22 => some .quiesce
  | 0x23 => some .resume
  | 0x30 => some .restore
  | 0x31 => some .translate
  | 0x32 => some .readRemap
  | 0x40 => some .setRole
  | 0x41 => some .reseed
  | 0x42 => some .readHealth
  | 0x43 => some .calibrate
  | 0x50 => some .clearCapture
  | 0x51 => some .readCapture
  | _ => some (.unknownCommand code)

/-- The rows a whole write transfer stands for to a part whose target address is `own`, in the order R185 applies its held writes: settings and parameters,
enables, acknowledge mask, command code (log entry 12). A transfer to another address is none of this part's (R183). -/
def transferCommands (own : BitVec 7) (t : Transfer) : List Instr :=
  if t.address ≠ own then []
  else
    [.settingsWrite t] ++
    (if [0x72, 0x73, 0x74].any fun k => (heldByte t k).isSome then [.enableWrite t] else []) ++
    (if [0x75, 0x76].any fun k => (heldByte t k).isSome then [.acknowledgeMaskWrite t] else []) ++
    ((heldByte t 0x20).bind commandOfCode).toList

end Sys2Proof.Machine
end

