-- ==== Sys2Proof/Machine/Ops.lean ====
section
/-! DEFINITION. The operations the commands share: the array, the Alert and Fault Capture Units, the Remap Controller, the command protocol, the patrol timer,
the Health Monitor's reports and offers, the Repair Queue, the hold-off, translation and the executing request. -/

namespace Sys2Proof.Machine

/-! ## The array (R1, R2, R68) -/

/-- The array's words, each with its array word number. -/
abbrev Memory := List (Nat × StoredWord)

/-- The stored word at array word `a` (R68). -/
def Memory.read : Memory → Nat → StoredWord
  | [], _ => Config.unwrittenWord
  | (k, v) :: rest, a => if k = a then v else Memory.read rest a

/-- `v` stored at array word `a`, in canonical form. -/
def Memory.write : Memory → Nat → StoredWord → Memory
  | [], a, v => if v = Config.unwrittenWord then [] else [(a, v)]
  | (k, x) :: rest, a, v =>
    if a < k then (if v = Config.unwrittenWord then (k, x) :: rest else (a, v) :: (k, x) :: rest)
    else if a = k then (if v = Config.unwrittenWord then rest else (a, v) :: rest)
    else (k, x) :: Memory.write rest a v

/-- The canonical form: numbers strictly rising, no word equal to what an unlisted one reads as. -/
abbrev Memory.wf (m : Memory) : Prop :=
  m.Pairwise (fun x y => x.1 < y.1) ∧ ∀ c ∈ m, c.2 ≠ Config.unwrittenWord

/-- The array word number of a physical word address (R2). -/
def wordNumber (segment line word : Nat) : Nat :=
  segment * Config.wordsPerSegment + line * Config.wordsPerLine + word

/-- The 8 stored words of a line (R66). -/
def Memory.line (m : Memory) (segment line : Nat) : List StoredWord :=
  lineWords.map fun w => m.read (wordNumber segment line w)

/-- The words of `ws` that are given stored in a line; the others keep their stored data and check byte (R1). -/
def Memory.storeLine (m : Memory) (segment line : Nat) (ws : List (Option StoredWord)) : Memory :=
  lineWords.foldl
    (fun acc w =>
      match ws.getD w none with
      | some v => acc.write (wordNumber segment line w) v
      | none => acc)
    m

/-- The array with the cell changes of one line in it (log entry 2). -/
def Memory.flipLine (m : Memory) (segment line : Nat) (flips : LineFlips) : Memory :=
  m.storeLine segment line
    (lineWords.map fun w => some ((m.read (wordNumber segment line w)).flip (flips.getD w StoredWord.zero)))

/-! ## Alert Unit and Fault Capture Unit (R173 to R175, R178) -/

/-- Cause flag `c` set (R178). -/
def State.setCause (c : Cause) (s : State) : State := { s with alu := s.alu.set c }

/-- A report's seen and again flags (R173). -/
def SeenAgain.report (x : SeenAgain) : SeenAgain := ⟨true, x.again || x.seen⟩

/-- The flags of the report's kind updated (R173). -/
def FaultCapture.flag (u : FaultCapture) (k : FaultKind) : FaultCapture :=
  match k with
  | .corrected => { u with corrected := u.corrected.report }
  | .uncorrectable => { u with uncorrectable := u.uncorrectable.report }
  | .poison => { u with poison := u.poison.report }
  | .noaddr => { u with noaddr := u.noaddr.report }

/-- Whether the Capture Record takes the report (R174). -/
def FaultCapture.takes (u : FaultCapture) (r : FaultReport) : Bool :=
  match u.record with
  | none => true
  | some old => old.kind == .corrected && r.kind != .corrected

/-- The Fault Capture Unit after a report (R173, R174). -/
def FaultCapture.report (u : FaultCapture) (r : FaultReport) : FaultCapture :=
  if u.takes r then { u.flag r.kind with record := some r } else u.flag r.kind

/-- The cause a report sets (R175). -/
def FaultCapture.cause (u : FaultCapture) (r : FaultReport) : Option Cause :=
  match r.kind with
  | .uncorrectable => some .uncorrectableSeen
  | .poison => some .uncorrectableSeen
  | .noaddr => some .noaddrSeen
  | .corrected => if u.takes r then some .correctedCaptured else none

/-- The FCU takes a fault report as one event (R173 to R175). -/
def State.report (r : FaultReport) (s : State) : State :=
  match s.fcu.cause r with
  | some c => State.setCause c { s with fcu := s.fcu.report r }
  | none => { s with fcu := s.fcu.report r }

/-! ## Remap Controller (R3 to R8, R19 to R25) -/

/-- P of the running geometry; 0 before ONLINE, when there is none. -/
def State.numP (s : State) : Nat := (s.rc.geometry.map Geometry.p).getD 0

/-- L = P − S of the running geometry (R4). -/
def State.numL (s : State) : Nat := (s.rc.geometry.map fun g => g.p - g.s).getD 0

/-- The record of physical segment `p`; one out of range counts as RETIRED and unfilled. -/
def State.seg (s : State) (p : Nat) : SegRecord := s.rc.segs.getD p ⟨.retired, false⟩

/-- Physical segment `p` given role `r`. -/
def State.setRole (p : Nat) (r : SegRole) (s : State) : State :=
  { s with rc := { s.rc with segs := s.rc.segs.set p { s.seg p with role := r } } }

/-- Physical segment `p` given filled flag `b`. -/
def State.setFilled (p : Nat) (b : Bool) (s : State) : State :=
  { s with rc := { s.rc with segs := s.rc.segs.set p { s.seg p with filled := b } } }

/-- The lowest-numbered SPARE_FREE segment (R21). -/
def State.lowestSpare (s : State) : Option Nat := s.rc.segs.findIdx? fun r => r.role == .spareFree

/-- The logical segment of a non-FREE entry. -/
def RemapEntry.logical? : RemapEntry → Option Nat
  | .free => none
  | .copying e => some e.logical
  | .active e => some e.logical

/-- The current of a non-FREE entry. -/
def RemapEntry.current? : RemapEntry → Option Nat
  | .free => none
  | .copying e => some e.current
  | .active e => some e.current

/-- The COPYING fields of an entry. -/
def RemapEntry.copying? : RemapEntry → Option CopyingEntry
  | .free => none
  | .copying e => some e
  | .active _ => none

/-- The ACTIVE fields of an entry. -/
def RemapEntry.active? : RemapEntry → Option ActiveEntry
  | .free => none
  | .copying _ => none
  | .active e => some e

/-- The index of the non-FREE entry of logical segment `g`. -/
def State.entryIndex (s : State) (g : Nat) : Option Nat := s.rc.remap.findIdx? fun e => e.logical? == some g

/-- The entry at an index, FREE beyond the table. -/
def State.entryAt (s : State) (i : Nat) : RemapEntry := s.rc.remap.getD i .free

/-- The non-FREE entry of logical segment `g`, FREE if it has none. -/
def State.entryOf (s : State) (g : Nat) : RemapEntry :=
  match s.entryIndex g with
  | some i => s.entryAt i
  | none => .free

/-- The physical segment that serves logical segment `g` (R19). -/
def State.physOf (s : State) (g : Nat) : Nat := ((s.entryOf g).current?).getD g

/-- The entry whose current is `p`. -/
def State.entryServing (s : State) (p : Nat) : Option RemapEntry := s.rc.remap.find? fun e => e.current? == some p

/-- The logical segment physical segment `p` serves (R20). -/
def State.logicalOf (s : State) (p : Nat) : Option Nat :=
  match (s.seg p).role with
  | .inUse => some (((s.entryServing p).bind RemapEntry.logical?).getD p)
  | .spareFree => none
  | .spareBound => none
  | .retired => none
  | .spareBad => none

/-- The index of the COPYING entry. -/
def State.copyingIndex (s : State) : Option Nat := s.rc.remap.findIdx? fun e => e.copying?.isSome

/-- The COPYING entry, with its index. -/
def State.copying (s : State) : Option (Nat × CopyingEntry) :=
  match s.copyingIndex with
  | some i => ((s.entryAt i).copying?).map fun e => (i, e)
  | none => none

/-- Logical segment `g` has a COPYING entry. -/
def State.isCopying (s : State) (g : Nat) : Bool := ((s.entryOf g).copying?).isSome

/-- Remap Table entry `i` replaced. -/
def State.setEntry (i : Nat) (e : RemapEntry) (s : State) : State :=
  { s with rc := { s.rc with remap := s.rc.remap.set i e } }

/-- Spare `t` bound as the target of entry `i`: SPARE_FREE to SPARE_BOUND, cursor and poisoned 0 (R21). -/
def State.bindTarget (i : Nat) (e : CopyingEntry) (t : Nat) (s : State) : State :=
  State.setEntry i (.copying { e with target := t, cursor := 0, poisoned := 0 }) (State.setRole t .spareBound s)

/-- What a COPYING entry becomes at a revert (R25). -/
def CopyingEntry.reverted (e : CopyingEntry) : RemapEntry :=
  match e.previous with
  | .free => .free
  | .active => .active ⟨e.logical, e.current, e.origin, e.poisoned, e.restarts⟩

/-- The target returned to the pool, unfilled, at a revert by CANCEL_MIGRATION or engine reset (R25). -/
def State.freeTarget (t : Nat) (s : State) : State := State.setFilled t false (State.setRole t .spareFree s)

/-! ## The command protocol (R190, R191, R193) -/

/-- The management port answers: not in INIT (R183). -/
def State.mpAnswers (s : State) : Bool := s.mode != .init

/-- The part's target address: 5Ch plus ASEL1 and ASEL0 as latched (R183). -/
def State.targetAddress (s : State) : BitVec 7 := 0x5C + s.aselLatch.setWidth 7

/-- The management port acknowledges target address `a`: its own, outside INIT (R183). -/
def State.acknowledges (a : BitVec 7) (s : State) : Bool := s.mpAnswers && a == s.targetAddress

/-- All eight result words written FFFFh (R193). -/
def noResults : List (BitVec 16) := List.replicate 8 0xFFFF

/-- Result words `ws` from word 0 on, the rest FFFFh (R193). -/
def resultWords (ws : List (BitVec 16)) : List (BitVec 16) := ws ++ List.replicate (8 - ws.length) 0xFFFF

/-- The eight result words written. -/
def State.leaveResults (ws : List (BitVec 16)) (s : State) : State := { s with mp := { s.mp with results := ws } }

/-- A code refused because a long command executes (R190). -/
def State.refuse (code : Byte) (s : State) : State :=
  { s with mp := { s.mp with refusedBusy := true, refusedCommand := code } }

/-- Taking any command clears the refusal fields (R190). -/
def State.clearRefusal (s : State) : State :=
  { s with mp := { s.mp with refusedBusy := false, refusedCommand := 0 } }

/-- An immediate command completes as it is taken (R191). -/
def State.completeImmediate (code : Byte) (o : CmdOutcome) (s : State) : State :=
  { s with mp := { s.mp with lastCommand := code, lastOutcome := o } }

/-- A long command that starts (R191). -/
def State.startLong (code : Byte) (s : State) : State :=
  { s with mp := { s.mp with
      lastCommand := code, lastOutcome := .none, longCommand := code, longOutcome := .none, busy := true } }

/-- The running long command completes (R191). -/
def State.completeLong (o : CmdOutcome) (s : State) : State :=
  State.setCause .commandDone { s with mp := { s.mp with lastOutcome := o, longOutcome := o, busy := false } }

/-- A long command answered at once (R191). -/
def State.answerLong (code : Byte) (o : CmdOutcome) (s : State) : State :=
  State.completeLong o (State.startLong code s)

/-- A code other than ENGINE_RESET reaches the port: it is refused while a long command executes, and taken with `body` otherwise (R190). In INIT
the port does not acknowledge and nothing is taken (R183). -/
def State.takeCommand (code : Byte) (body : State → State) (s : State) : State :=
  if !s.mpAnswers then s
  else if s.mp.busy then State.refuse code s
  else body (State.clearRefusal s)

/-- Whether the running long command is the one with this code. -/
def State.running (s : State) (code : Byte) : Bool := s.mp.busy && s.mp.longCommand == code

/-! ## The patrol (R89 to R92) -/

/-- The patrol's pace (R89). -/
def State.pace (s : State) : Nat :=
  if s.hm.cal.active then s.settings.calInterval else s.settings.patrolInterval

/-- A timer loaded with `n` periods; 0 stops it. -/
def loadTimer (n : Nat) : Option Nat := if n = 0 then none else some n

/-- The patrol timer restarted with the pace in effect (R89). -/
def State.restartPatrolTimer (s : State) : State := { s with se := { s.se with patrolTimer := loadTimer s.pace } }

/-- The SE runs neither FILL nor VERIFY. -/
def State.inPatrol (s : State) : Bool :=
  match s.se.mode with
  | .patrol => true
  | .fill _ => false
  | .verify _ => false

/-- The patrol is active (R90). -/
def State.patrolActive (s : State) : Bool :=
  s.mode == .online && s.inPatrol && !s.me.quiesced && s.pace != 0

/-- Physical segment `p` is eligible for the patrol (R90). -/
def State.eligible (s : State) (p : Nat) : Bool := (s.seg p).role == .inUse && (s.seg p).filled

/-- The next eligible segment above `p` in physical order, wrapping from P − 1 to 0; `p` itself comes last (R91, R92). -/
def State.nextEligible (s : State) (p : Nat) : Option Nat :=
  ((List.range s.rc.segs.length).drop (p + 1) ++ (List.range s.rc.segs.length).take (p + 1)).find? s.eligible

/-- A RAISED patrol request withdrawn if the patrol has stopped being active or the cursor's segment eligible (R91). -/
def State.recheckPatrol (s : State) : State :=
  if s.se.patrolPending = .raised && !(s.patrolActive && s.eligible s.se.cursorSegment) then
    { s with se := { s.se with patrolPending := .none } }
  else s

/-- The epoch timer restarted with a full period of 2 to the power k ms (R110). -/
def State.restartEpochTimer (s : State) : State :=
  { s with hm := { s.hm with epochTimer := some (Config.periodsPerMs * 2 ^ s.settings.epochExp) } }

/-! ## A migration start (R21, R22, R150, R151) -/

/-- The logical segment lies in the remaining range of a running FILL (R100). -/
def State.inRemainingFill (s : State) (g : Nat) : Bool :=
  match s.se.mode with
  | .fill run => (run.pos.map SweepPos.logical).getD run.first ≤ g && g ≤ run.last
  | .patrol => false
  | .verify _ => false

/-- The start conditions that do not name the head of the Retire Queue (R150). -/
def State.mayStart (s : State) : Bool :=
  s.mode == .online && s.me.state == .idle && !s.me.quiesced && s.aa.holdOff.isNone

/-- A Retire Queue entry's origin as a Remap Table entry's (R22). -/
def RetireOrigin.remap : RetireOrigin → RemapOrigin
  | .auto => .auto
  | .manual => .manual

/-- The index and fields of the entry that starts to record a move of `g` (R22): g's ACTIVE entry, or the lowest FREE one. -/
def State.startEntry (s : State) (g : Nat) (o : RemapOrigin) : Option (Nat × CopyingEntry) :=
  match s.entryIndex g with
  | some i => ((s.entryAt i).active?).map fun e => (i, ⟨g, e.current, 0, 0, o, 0, 0, .active⟩)
  | none => (s.rc.remap.findIdx? fun e => e == .free).map fun i => (i, ⟨g, g, 0, 0, o, 0, 0, .free⟩)

/-- The migration of the head `h` starts onto spare `t`: entry set up, target bound, head taken, COPY_READ raised (R151). -/
def State.beginMigration (h : RetireEntry) (rest : List RetireEntry) (t : Nat) (s : State) : State :=
  match s.startEntry h.logical h.origin.remap with
  | some (i, e) =>
    State.bindTarget i e t { s with me := { s.me with queue := rest, state := .copyRead false, step := .raised } }
  | none => s

/-- The start test and its effect on a Retire Queue `q`: heads are dropped while no spare is left, a head whose segment a FILL has still to write waits,
and otherwise the head's migration starts (R151). -/
def State.startFrom : List RetireEntry → State → State
  | [], s => { s with me := { s.me with queue := [] } }
  | h :: rest, s =>
    if s.inRemainingFill h.logical then { s with me := { s.me with queue := h :: rest } }
    else
      match s.lowestSpare with
      | some t => State.beginMigration h rest t { s with me := { s.me with queue := h :: rest } }
      | none => State.startFrom rest (State.setCause .sparesExhausted s)

/-- MIGRATION_START: the start test of R150 and the start of R151. -/
def State.migrationStart (s : State) : State := if s.mayStart then State.startFrom s.me.queue s else s

/-! ## Health records, reports and offers (R109, R124 to R127, R142, R143) -/

/-- An UNTRACKED record with the values of R127 and role `r`. -/
def HealthRecord.untracked (r : HealthRole) : HealthRecord := ⟨.untracked, r, 0, 0, 0, 0, .none, 0⟩

/-- A fresh QUIET record with the values of R127 and role `r`. -/
def HealthRecord.fresh (r : HealthRole) : HealthRecord := ⟨.quiet, r, 0, 0, 0, 0, .none, 0⟩

/-- The record of physical segment `p`; one out of range counts as UNTRACKED. -/
def State.health (s : State) (p : Nat) : HealthRecord := s.hm.table.getD p (.untracked .independent)

/-- The record of `p` replaced. -/
def State.putHealth (p : Nat) (r : HealthRecord) (s : State) : State :=
  { s with hm := { s.hm with table := s.hm.table.set p r } }

/-- The record is tracked (R107). -/
def HealthRecord.tracked (r : HealthRecord) : Bool := r.state != .untracked

/-- One corrected word counted against `p` (R109). -/
def State.countCorrected (p : Nat) (s : State) : State :=
  if (s.health p).tracked then State.putHealth p { s.health p with raw := min 255 ((s.health p).raw + 1) } s else s

/-- The record of `p` made UNTRACKED, its role kept (R127). -/
def State.untrack (p : Nat) (s : State) : State := State.putHealth p (.untracked (s.health p).role) s

/-- The record of `p` made fresh QUIET, its role kept (R127). -/
def State.freshen (p : Nat) (s : State) : State := State.putHealth p (.fresh (s.health p).role) s

/-- Logical segment `g` is in the Retire Queue. -/
def State.queuedForRetire (s : State) (g : Nat) : Bool := s.me.queue.any fun e => e.logical == g

/-- An entry appended to the Retire Queue (R147). -/
def State.appendRetire (g : Nat) (o : RetireOrigin) (s : State) : State :=
  { s with me := { s.me with queue := s.me.queue ++ [⟨g, o⟩] } }

/-- A retire offer for physical segment `p` (R125). An entry appended has the start test made in the same event (R150). -/
def State.retireOffer (p : Nat) (s : State) : State :=
  match s.logicalOf p with
  | none => s
  | some g =>
    if !s.settings.autoRetire then s
    else if s.queuedForRetire g || s.isCopying g then s
    else if s.lowestSpare.isNone then State.setCause .sparesExhausted s
    else if Config.retireQueueEntries ≤ s.me.queue.length then s
    else State.migrationStart (State.appendRetire g .auto s)

/-- The cause an entry into ALARM sets (R124). -/
def AlarmReason.cause : AlarmReason → Cause
  | .threshold => .alarmEntered
  | .uncorrectable => .alarmEntered
  | .calibration => .calError

/-- A record in ALARM with the values R124 gives it. -/
def HealthRecord.alarmed (r : HealthRecord) (reason : AlarmReason) : HealthRecord :=
  { r with state := .alarm reason, runCount := 0, runKind := .none, settle := 0 }

/-- The record of `p` enters ALARM: record, cause, retire offer (R124). -/
def State.enterAlarm (p : Nat) (reason : AlarmReason) (s : State) : State :=
  State.retireOffer p (State.setCause reason.cause (State.putHealth p ((s.health p).alarmed reason) s))

/-- The results of CALIBRATE (R143, R196). -/
def CalState.results (c : CalState) : List (BitVec 16) :=
  resultWords [BitVec.ofNat 16 c.calAlarms, BitVec.ofNat 16 c.returnedQuiet, BitVec.ofNat 16 c.uncAlarms,
    BitVec.ofNat 16 c.retired, BitVec.ofNat 16 c.taken]

/-- CALIBRATE completes if its baseline count has reached 0 (R143). -/
def State.completeCalibrate (s : State) : State :=
  if s.hm.cal.active && s.hm.cal.baselineCount == 0 then
    State.completeLong .ok
      (State.leaveResults s.hm.cal.results
        (State.recheckPatrol
          (State.restartPatrolTimer { s with hm := { s.hm with cal := { s.hm.cal with active := false } } })))
  else s

/-- An uncorrectable report to the HM for `p` (R126, R142). -/
def State.uncorrectableReport (p : Nat) (s : State) : State :=
  match (s.health p).state with
  | .untracked => s
  | .alarm _ => s
  | .quiet => State.enterAlarm p .uncorrectable s
  | .watch _ _ => State.enterAlarm p .uncorrectable s
  | .baseline _ =>
    let s := State.enterAlarm p .uncorrectable s
    State.completeCalibrate
      { s with hm := { s.hm with cal :=
        { s.hm.cal with uncAlarms := s.hm.cal.uncAlarms + 1, baselineCount := s.hm.cal.baselineCount - 1 } } }

/-- The record of `p`, whose segment a commit retires, made UNTRACKED; one in BASELINE leaves the calibration (R127, R142). -/
def State.retireHealth (p : Nat) (s : State) : State :=
  match (s.health p).state with
  | .baseline _ =>
    let s := State.untrack p s
    State.completeCalibrate
      { s with hm := { s.hm with cal :=
        { s.hm.cal with retired := s.hm.cal.retired + 1, baselineCount := s.hm.cal.baselineCount - 1 } } }
  | .untracked => State.untrack p s
  | .quiet => State.untrack p s
  | .watch _ _ => State.untrack p s
  | .alarm _ => State.untrack p s

/-! ## The hold-off (R73) -/

/-- An uncorrectable report to the Array Arbiter: the hold-off starts or restarts with H ms; with H = 0 the timer stays as it is (R73). -/
def State.startHoldOff (s : State) : State :=
  if s.settings.holdOffLength = 0 then s
  else { s with aa := { s.aa with holdOff := some (Config.periodsPerMs * s.settings.holdOffLength) } }

/-! ## The Repair Queue (R80, R83, R84) -/

/-- An entry's data replaced where its address is `a`. -/
def replaceRepair (a : WordAddr) (d : Word) (q : List RepairEntry) : List RepairEntry :=
  q.map fun e => if e.addr = a then ⟨a, d⟩ else e

/-- An offer to the Repair Unit (R80). -/
def State.offerRepair (a : WordAddr) (d : Word) (s : State) : State :=
  if (s.seg a.segment).role != .inUse then s
  else if s.ru.queue.any fun e => e.addr == a then { s with ru := { s.ru with queue := replaceRepair a d s.ru.queue } }
  else if Config.repairQueueEntries ≤ s.ru.queue.length then State.setCause .repairOverflow s
  else { s with ru := { s.ru with queue := s.ru.queue ++ [⟨a, d⟩] } }

/-- The entries that a LINE_WRITE of `store` to this line covers, removed (R83). -/
def State.removeCovered (segment line : Nat) (store : List (Option StoredWord)) (s : State) : State :=
  { s with ru := { s.ru with queue := s.ru.queue.filter fun e =>
      !(e.addr.segment == segment && e.addr.line == line && (store.getD e.addr.word none).isSome) } }

/-- Every entry of a physical segment that leaves service, removed (R84). -/
def State.removeSegment (segment : Nat) (s : State) : State :=
  { s with ru := { s.ru with queue := s.ru.queue.filter fun e => e.addr.segment != segment } }

/-! ## What a read's words do (R52, R53, R56, R57, R93, R153) -/

/-- The effects of classified words, in ascending word order: a CORRECTED word counts against the segment and, where `offer` says so, is offered for repair;
an UNCORRECTABLE word sends its reports to the arbiter and to the HM. The arbiter's is taken first, so a hold-off it starts keeps a retirement the HM's offers
from starting in the same event: R150 leaves that order open (DESIGN CHOICE, log entry 30). -/
def State.handleWords (offer : Bool) (segment line : Nat) : List (Nat × StoredWord) → State → State
  | [], s => s
  | (w, x) :: rest, s =>
    State.handleWords offer segment line rest
      (match classify x with
      | .clean => s
      | .poison => s
      | .corrected =>
        if offer then State.offerRepair ⟨segment, line, w⟩ (deliveredData x) (State.countCorrected segment s)
        else State.countCorrected segment s
      | .uncorrectable => State.uncorrectableReport segment (State.startHoldOff s))

/-- The one fault report of a read's words: for the lowest word that cannot be delivered; else, with "capture corrected" on, for the lowest CORRECTED word;
`mk` gives the report its other fields (R52, R53, R56, R57, R94). -/
def State.reportWords (mk : FaultKind → Nat → Byte → FaultReport) (ws : List (Nat × StoredWord)) (s : State) : State :=
  match firstBad ws with
  | some (w, x, c) => State.report (mk c.kind w (syndromeByte x)) s
  | none =>
    if s.settings.captureCorrected then
      match firstOfClass .corrected ws with
      | some (w, x) => State.report (mk .corrected w (syndromeByte x)) s
      | none => s
    else s

/-! ## Translation and the fill hold (R32 to R38, R61) -/

/-- A logical segment below L, or NOADDR (step 4 of R35). -/
def State.boundLogical (s : State) (g : Nat) : Option Nat := if g < s.numL then some g else none

/-- The translation of a request's class and address; `none` is NOADDR (R35). -/
def State.translate (s : State) (c : ReqClass) (a : BitVec 28) : Option Nat :=
  let u := upstreamSegment a
  let useB := s.settings.split && c == .b
  let base := if useB then s.settings.baseB else s.settings.baseA
  let len := if useB then s.settings.lenB else s.settings.lenA
  if u < s.settings.window then s.boundLogical u
  else if u - s.settings.window < len then s.boundLogical (base + (u - s.settings.window))
  else none

/-- The Sweep Engine's segment under fill (R88). -/
def State.underFill (s : State) : Option Nat :=
  match s.se.mode with
  | .fill run => run.pos.map SweepPos.logical
  | .patrol => none
  | .verify _ => none

/-- The fill hold's test of a request: held, or DEMAND raised (R61). -/
def State.holdTest (s : State) (r : Request) : DemandStep :=
  match s.translate r.cls r.address with
  | some g => if s.underFill = some g then .held else .raised
  | none => .raised

/-! ## The executing request (R47, R48) -/

/-- The request, phase and step of an EXECUTING slot. -/
def Slot.exec? : Slot → Option (Request × DemandPhase × DemandStep)
  | .waiting _ => none
  | .executing r p t => some (r, p, t)
  | .answered _ => none

/-- The executing request. -/
def State.executing (s : State) : Option (Request × DemandPhase × DemandStep) := s.lli.queue.findSome? Slot.exec?

/-- The first operation of a request (R48, R51, R55, R56). -/
def firstPhase (r : Request) : DemandPhase :=
  if !r.isWrite then .read
  else if r.isMerge then .mergeRead
  else .write r.fullStore none

/-- What the oldest WAITING slot becomes as it begins execution: OFFLINE in CONFIG (R50), BADREQ by the shape check (R45), and otherwise EXECUTING, held by the
fill hold or with DEMAND raised (R61). -/
def State.beginSlot (s : State) (r : Request) : Slot :=
  if s.mode != .online then .answered ⟨r.tag, .offline⟩
  else if r.badShape then .answered ⟨r.tag, .badreq⟩
  else .executing r (firstPhase r) (s.holdTest r)

/-- An EXECUTING slot replaced by `x`; any other slot as it is. -/
def Slot.replaceExec (x : Slot) : Slot → Slot
  | .waiting r => .waiting r
  | .executing _ _ _ => x
  | .answered resp => .answered resp

/-- The EXECUTING slot replaced. -/
def State.putExec (x : Slot) (s : State) : State :=
  { s with lli := { s.lli with queue := s.lli.queue.map x.replaceExec } }

/-- The executing request's response formed; its slot becomes ANSWERED (R48). -/
def State.answer (r : Request) (b : RespBody) (s : State) : State := State.putExec (.answered ⟨r.tag, b⟩) s

/-- The response of a WRITE, by its lowest failed merge (R58). -/
def writeBody : Option (Nat × BadClass) → RespBody
  | none => .okayWrite
  | some (w, c) => .fault w c

/-- The fill hold tested again for an operation not yet issued, when the segment under fill has changed (R61, R62). -/
def State.retestHold (s : State) : State :=
  match s.executing with
  | some (r, p, .held) => State.putExec (.executing r p (s.holdTest r)) s
  | some (r, p, .raised) => State.putExec (.executing r p (s.holdTest r)) s
  | some (_, _, .outstanding _ _) => s
  | none => s

/-- A slot whose outstanding source write has no dual write to come. -/
def Slot.withoutDual : Slot → Slot
  | .waiting r => .waiting r
  | .executing r p (.outstanding g _) => .executing r p (.outstanding g none)
  | .executing r p .held => .executing r p .held
  | .executing r p .raised => .executing r p .raised
  | .answered x => .answered x

/-- A revert while a source write is outstanding: its dual write is not issued, whatever is bound afterwards (R26, R59, R65). -/
def State.dropDual (s : State) : State := { s with lli := { s.lli with queue := s.lli.queue.map Slot.withoutDual } }

/-- Held-off requests taken while a slot is free (R47). -/
def LineLink.takeIn (x : LineLink) : LineLink :=
  { queue := x.queue ++ (x.heldOff.take (Config.requestQueueSlots - x.queue.length)).map .waiting,
    heldOff := x.heldOff.drop (Config.requestQueueSlots - x.queue.length) }

/-! ## Operations on the port (R67) -/

/-- The port FREE (R67). -/
def State.freePort (s : State) : State := { s with aa := { s.aa with grant := none } }

/-- The outstanding operation, if it is `r`'s and is to be delivered (R67). -/
def State.delivered (s : State) (r : Requester) : Option PortOp :=
  match s.aa.grant with
  | some op => if op.requester = r && op.deliver then some op else none
  | none => none

/-- The line a completed LINE_READ returns, with the cell changes found (R66, R68; log entry 2). -/
def State.readLine (op : PortOp) (s : State) : List StoredWord := Memory.line s.array op.segment op.line

/-- The cell changes of the line of `op` in the array. -/
def State.flipLine (op : PortOp) (flips : LineFlips) (s : State) : State :=
  { s with array := Memory.flipLine s.array op.segment op.line flips }

/-- The effect of a completed LINE_WRITE on the array; a LINE_READ has none (R68, R76). -/
def State.storeLine (op : PortOp) (s : State) : State :=
  match op.write with
  | some ws => { s with array := Memory.storeLine s.array op.segment op.line ws }
  | none => s

/-! ## The line buffer (R149, R153) -/

/-- The words of the line buffer that are poison: line poison (R149, R153). -/
def linePoison (buffer : List StoreWord) : Nat := (buffer.filter fun x => x == .poison).length

end Sys2Proof.Machine
end

