-- ==== Sys2Proof/Machine/Events.lean ====
section
/-! DEFINITION. The events that the rules make part of the event before them: the beginning of a WAITING request (R48), a grant of the array port (R70)
and the completion of a waiting QUIESCE (R166), beside the migration start of Machine/Ops.lean (R150); and `settle`, which takes those of them that are
due (log entry 3). -/

namespace Sys2Proof.Machine

/-! ## Requests that begin execution (R48, R50) -/

/-- The queue with its WAITING slots begun in order, up to one that becomes EXECUTING: a request answered as it begins leaves the next to begin (R48). -/
def beginDue (f : Request → Slot) : List Slot → List Slot
  | [] => []
  | .waiting r :: rest =>
    match f r with
    | .answered x => .answered x :: beginDue f rest
    | .executing r p t => .executing r p t :: rest
    | .waiting r => .waiting r :: rest
  | .executing r p t :: rest => .executing r p t :: rest
  | .answered x :: rest => .answered x :: beginDue f rest

/-- In ONLINE, with no request executing, the oldest WAITING request begins, and after one answered at once the next (R48). In CONFIG a request begins at
REQUEST_EXECUTE alone, so one may still be WAITING at GO_ONLINE (R50; log entry 3). -/
def State.beginRequests (s : State) : State :=
  if s.mode = .online ∧ s.executing.isNone then
    { s with lli := { s.lli with queue := beginDue s.beginSlot s.lli.queue } }
  else s

/-! ## Which requests are raised (R69) -/

/-- DEMAND is raised (R69). -/
def State.demandRaised (s : State) : Bool :=
  match s.executing with
  | some (_, _, .raised) => true
  | some (_, _, .held) => false
  | some (_, _, .outstanding _ _) => false
  | none => false

/-- REPAIR is raised: the queue is not empty and no repair write is outstanding (R82). -/
def State.repairRaised (s : State) : Bool := !s.ru.queue.isEmpty && s.ru.record.isNone

/-- The MIGRATION request is raised (R152). -/
def State.migrationRaised (s : State) : Bool := s.me.step == .raised

/-- The FILL or VERIFY operation is raised (R98, R102). -/
def State.sweepRunRaised (s : State) : Bool :=
  match s.se.mode with
  | .patrol => false
  | .fill run => run.step == .raised
  | .verify run => run.step == .raised

/-- The SWEEP request is raised (R69). -/
def State.sweepRaised (s : State) : Bool := s.se.patrolPending == .raised || s.sweepRunRaised

/-- The highest-priority eligible requester other than DEMAND; the hold-off blocks MIGRATION and SWEEP (R69, R74). -/
def State.backgroundChoice (s : State) : Option Requester :=
  if s.repairRaised then some .repair
  else if s.aa.holdOff.isSome then none
  else if s.migrationRaised then some .migration
  else if s.sweepRaised then some .sweep
  else none

/-- The arbiter's choice (R70). -/
def State.choice (s : State) : Option Requester :=
  if s.demandRaised then
    if Config.fairnessLimit ≤ s.aa.fairness && s.backgroundChoice.isSome then s.backgroundChoice
    else some .demand
  else s.backgroundChoice

/-! ## Issuing operations (R67, R71, R83) -/

/-- An operation issued: the port BUSY with its record, the delivery mark set, and the fairness count after the grant (R67, R71). -/
def State.issue (q : Requester) (segment line : Nat) (write : Option (List (Option StoredWord))) (s : State) : State :=
  { s with aa := { s.aa with
      grant := some ⟨q, segment, line, write, true⟩,
      fairness := if q = .demand then min Config.fairnessLimit (s.aa.fairness + 1) else 0 } }

/-- The stored words of a LINE_WRITE, encoded at issue (R11). -/
def LineStore.encode (st : LineStore) : List (Option StoredWord) := st.map fun x => x.map StoreWord.encode

/-- The ME is in its line loop on line `n` of a migration whose source is `p`; then a write there gives it a redo mark (R59, R60, R158). -/
def State.markRedo (p n : Nat) (s : State) : State :=
  match s.copying with
  | some (_, e) =>
    if e.current = p ∧ e.cursor = n then
      match s.me.state with
      | .idle => s
      | .cancelling => s
      | .copyRead _ => { s with me := { s.me with state := .copyRead true } }
      | .copyWrite b _ => { s with me := { s.me with state := .copyWrite b true } }
      | .verifyRead b _ => { s with me := { s.me with state := .verifyRead b true } }
    else s
  | none => s

/-- The target of the dual write that a source write of line `n` of `p` calls for (R59). -/
def State.dualTarget (s : State) (p n : Nat) : Option Nat :=
  match s.copying with
  | some (_, e) => if e.current = p ∧ n < e.cursor then some e.target else none
  | none => none

/-- A fault report of kind NOADDR (R40). -/
def noaddrReport (r : Request) : FaultReport :=
  ⟨.noaddr, if r.isWrite then .demandMerge else .demandRead, none, none, some (r.address, r.cls)⟩

/-- The DEMAND operation issued for logical segment `g` (R37, R51, R55, R56, R58 to R60). -/
def State.issueDemand (r : Request) (ph : DemandPhase) (g : Nat) (s : State) : State :=
  let p := s.physOf g
  let n := requestLine r.address
  match ph with
  | .read => State.issue .demand p n none (State.putExec (.executing r ph (.outstanding g none)) s)
  | .mergeRead => State.issue .demand p n none (State.putExec (.executing r ph (.outstanding g none)) s)
  | .write st _ =>
    State.issue .demand p n (some (LineStore.encode st))
      (State.markRedo p n
        (State.removeCovered p n (LineStore.encode st)
          (State.putExec (.executing r ph (.outstanding g (s.dualTarget p n))) s)))
  | .dual _ => s

/-- The DEMAND request chosen: translated now, issued, or answered NOADDR with its report (R38, R40, R41, R70). -/
def State.grantDemand (s : State) : State :=
  match s.executing with
  | some (r, ph, .raised) =>
    match s.translate r.cls r.address with
    | some g => State.issueDemand r ph g s
    | none => State.answer r .noaddr (State.report (noaddrReport r) s)
  | some (_, _, .held) => s
  | some (_, _, .outstanding _ _) => s
  | none => s

/-- The words of a repair write: the entry's word alone (R82). -/
def repairWords (e : RepairEntry) : List (Option StoredWord) :=
  lineWords.map fun w => if w = e.addr.word then some (encodeWord e.data) else none

/-- The repair write of the head issued (R82). -/
def State.grantRepair (s : State) : State :=
  match s.ru.queue with
  | e :: _ =>
    State.issue .repair e.addr.segment e.addr.line (some (repairWords e)) { s with ru := { s.ru with record := some e.addr } }
  | [] => s

/-- The ME's operation issued (R152, R155, R158). -/
def State.grantMigration (s : State) : State :=
  match s.copying with
  | some (_, e) =>
    match s.me.state with
    | .copyRead _ =>
      State.issue .migration e.current e.cursor none
        { s with me := { s.me with state := .copyRead false, step := .outstanding } }
    | .copyWrite b _ =>
      State.issue .migration e.target e.cursor (some (LineStore.encode (b.map some)))
        (State.removeCovered e.target e.cursor (LineStore.encode (b.map some))
          { s with me := { s.me with step := .outstanding } })
    | .verifyRead _ _ =>
      State.issue .migration e.target e.cursor none { s with me := { s.me with step := .outstanding } }
    | .idle => s
    | .cancelling => s
  | none => s

/-- The words of a FILL write: data 0 with check byte 00h, all 8 (R98). -/
def fillWords : List (Option StoredWord) := LineStore.encode (lineWords.map fun _ => some (.data 0))

/-- The SE's operation issued: the patrol read of the cursor's line (R92), the FILL write (R98) or the VERIFY read, whose segment is looked up
now (R102). -/
def State.grantSweep (s : State) : State :=
  if s.se.patrolPending = .raised then
    State.issue .sweep s.se.cursorSegment s.se.cursorLine none { s with se := { s.se with patrolPending := .outstanding } }
  else
    match s.se.mode with
    | .patrol => s
    | .fill run =>
      match run.pos with
      | some pos =>
        State.issue .sweep pos.physical pos.line (some fillWords)
          (State.removeCovered pos.physical pos.line fillWords
            { s with se := { s.se with mode := .fill { run with step := .outstanding } } })
      | none => s
    | .verify run =>
      match run.pos with
      | some pos =>
        let p := s.physOf pos.logical
        State.issue .sweep p pos.line none
          { s with se := { s.se with mode := .verify { run with pos := some { pos with physical := p }, step := .outstanding } } }
      | none => s

/-- A grant to a requester other than DEMAND, if one is eligible. -/
def State.grantBackground (s : State) : State :=
  match s.backgroundChoice with
  | some .repair => State.grantRepair s
  | some .migration => State.grantMigration s
  | some .sweep => State.grantSweep s
  | some .demand => s
  | none => s

/-- The arbiter's choice at a FREE port, and its grant. A DEMAND request that ends NOADDR takes no grant: it is answered, the next request begins, and the
arbiter chooses again in the same event (R48, R70). `n` bounds how often; each turn answers a request. -/
def State.chooseFrom : Nat → State → State
  | 0, s => State.grantBackground s
  | n + 1, s =>
    match s.choice with
    | some .demand =>
      match (State.grantDemand s).aa.grant with
      | some _ => State.grantDemand s
      | none => State.chooseFrom n (State.beginRequests (State.grantDemand s))
    | some .repair => State.grantRepair s
    | some .migration => State.grantMigration s
    | some .sweep => State.grantSweep s
    | none => s

/-- ARRAY_GRANT: at a FREE port the arbiter chooses and issues (R70). -/
def State.arrayGrant (s : State) : State :=
  match s.aa.grant with
  | some _ => s
  | none => State.chooseFrom (s.lli.queue.length + 1) s

/-! ## A waiting QUIESCE (R166) -/

/-- The ME is IDLE and the Repair Queue empty (R166). -/
def State.quiet (s : State) : Bool := s.me.state == .idle && s.ru.queue.isEmpty

/-- QUIESCE_COMPLETE: a waiting QUIESCE completes if the ME is IDLE and the Repair Queue empty (R166). -/
def State.quiesceComplete (s : State) : State :=
  if s.running 0x22 && s.quiet then State.completeLong .ok s else s

/-! ## Settling (log entry 3) -/

/-- Every internal event that is due taken: requests begin, a migration starts, the port is granted, a QUIESCE completes (log entries 3, 4). -/
def State.settle (s : State) : State :=
  State.quiesceComplete (State.arrayGrant (State.migrationStart (State.beginRequests s)))

/-- No internal event is due. -/
abbrev State.Settled (s : State) : Prop := s.settle = s

/-- An event from outside the part: the internal events due are taken first, then `e` (log entry 3). -/
def State.event (e : State → State) (s : State) : Host.Outcome State Fault Refusal := .next (e s.settle)

end Sys2Proof.Machine
end

