-- ==== Sys2Proof/Machine/Health.lean ====
section
/-! DEFINITION. The Health Monitor: the epoch pass (08), calibration (09), and SET_ROLE, RESEED, READ_HEALTH, CALIBRATE. -/

namespace Sys2Proof.Machine

/-! ## Arithmetic of the pass (R107, R112, R113) -/

/-- A health value clamped to 0..4095 (R107). -/
def clampHealth (x : Int) : Nat := (max 0 (min 4095 x)).toNat

/-- `x` moved by a step truncated toward zero, clamped (R112, R113, R115, R122). -/
def healthStep (x : Nat) (step : Int) : Nat := clampHealth (x + step)

/-- The filtered count's update from the raw count taken (R112). -/
def filtered (st : Settings) (f raw : Nat) : Nat := healthStep f (Int.tdiv (16 * raw - f) (2 ^ st.betaF))

/-- The baseline's update in QUIET with d = F − L: the slow rate within the band, the fast rate beyond it (R113). -/
def quietBaseline (st : Settings) (f l : Nat) : Nat :=
  let d : Int := f - l
  healthStep l (Int.tdiv d (2 ^ (if d.natAbs ≤ st.band then st.betaL else st.betaFast)))

/-- The run count after one more epoch of condition `k` (R114, R117). -/
def runOn (r : HealthRecord) (k : RunKind) : Nat := if r.runKind = k then min 15 (r.runCount + 1) else 1

/-! ## Handling by state (R113 to R120, R123) -/

/-- A QUIET record's handling, and whether it enters WATCH (R113, R114). -/
def quietPass (st : Settings) (raw : Nat) (r : HealthRecord) : HealthRecord × Bool :=
  let f := filtered st r.f raw
  let d : Int := f - r.l
  let l := quietBaseline st f r.l
  let hit := (st.watchThreshold : Int) ≤ d
  let run := if hit then runOn r .watch else 0
  if st.watchDebounce ≤ run then
    ({ r with state := .watch f none, f := f, l := l, runCount := 0, runKind := .none, settle := 0 }, true)
  else
    ({ r with f := f, l := l, runCount := run, runKind := if hit then .watch else .none }, false)

/-- What a WATCH record's pass ends in (R117). -/
inductive WatchEnd
  | stays
  | alarm
  | release
  | exit
  deriving DecidableEq, Repr

/-- Steps 1 to 7 of R115 up to the transitions: the record with activation baseline `a`, snapshot `snap` and L compensated by `comp`. -/
def watchUpdate (st : Settings) (raw : Nat) (comp : Int) (a : Nat) (snap : Option Nat) (r : HealthRecord) : HealthRecord :=
  let f := filtered st r.f raw
  let l := healthStep r.l comp
  let a' := healthStep a (Int.tdiv (f - a) (2 ^ st.betaA))
  let settle := if ((f : Int) - a').natAbs < st.settleThreshold then min 255 (r.settle + 1) else 0
  let d : Int := f - l
  let snap' := match snap with
    | some v => some v
    | none => if st.settleEpochs ≤ settle then some (clampHealth d) else none
  let alarmHit := (st.alarmThreshold : Int) ≤ d
  let exitHit := d < (st.watchThreshold : Int) - st.hysteresis
  { r with
    state := .watch a' snap', f := f, l := l, settle := settle,
    runCount := if alarmHit then runOn r .alarm else if exitHit then runOn r .exit else 0,
    runKind := if alarmHit then .alarm else if exitHit then .exit else .none }

/-- The transition an updated WATCH record makes, tested in the order of R117: alarm (R118), release (R119), normal exit (R120). -/
def watchEnd (st : Settings) (r : HealthRecord) : WatchEnd :=
  let released : Bool := match r.state with
    | .watch a (some snap) => decide (Int.tdiv ((snap : Int) * st.releasePct) 128 < (a : Int) - r.f)
    | .watch _ none => false
    | .untracked => false
    | .baseline _ => false
    | .quiet => false
    | .alarm _ => false
  if r.runKind = .alarm ∧ st.alarmDebounce ≤ r.runCount then .alarm
  else if released then .release
  else if r.runKind = .exit ∧ st.exitDebounce ≤ r.runCount then .exit
  else .stays

/-- A record back in QUIET with baseline `l` (R119, R120). -/
def HealthRecord.quieted (r : HealthRecord) (l : Nat) : HealthRecord :=
  { r with state := .quiet, l := l, runCount := 0, runKind := .none, settle := 0 }

/-! ## The pass (R111, R121, R122, R139, R140) -/

/-- The baseline changes noted in a pass, by physical segment (R121). -/
abbrev Deltas := List (Nat × Int)

/-- The change noted for the record named as reference; 0 where none was (R122). -/
def Deltas.of (ds : Deltas) (p : Nat) : Int :=
  match ds.find? fun x => x.1 == p with
  | some x => x.2
  | none => 0

/-- The compensation of a record's frozen baseline (R122). -/
def compensation (ds : Deltas) (r : HealthRecord) : Int :=
  match r.role with
  | .follower ref weight => Int.tdiv (ds.of ref * weight) 4096
  | .independent => 0
  | .reference => 0

/-- The change of L that a record's handling may feed to followers: of a QUIET or BASELINE record, and 0 otherwise (R121). -/
def baselineChange (old new : HealthRecord) : Int :=
  match old.state with
  | .quiet => (new.l : Int) - old.l
  | .baseline _ => (new.l : Int) - old.l
  | .untracked => 0
  | .watch _ _ => 0
  | .alarm _ => 0

/-- A REFERENCE's change of L noted (R121). -/
def noteDelta (ds : Deltas) (p : Nat) (old new : HealthRecord) : Deltas :=
  match old.role with
  | .reference => ds ++ [(p, baselineChange old new)]
  | .independent => ds
  | .follower _ _ => ds

/-- A record whose calibration ends with F at or below the boundary: back to QUIET (R140). -/
def State.calReturn (p : Nat) (r : HealthRecord) (s : State) : State :=
  let s := State.putHealth p (r.quieted r.l) s
  { s with hm := { s.hm with cal :=
    { s.hm.cal with returnedQuiet := s.hm.cal.returnedQuiet + 1, baselineCount := s.hm.cal.baselineCount - 1 } } }

/-- A record whose calibration ends with F above the boundary: ALARM with reason CALIBRATION (R140). -/
def State.calAlarm (p : Nat) (r : HealthRecord) (s : State) : State :=
  let s := State.enterAlarm p .calibration (State.putHealth p r s)
  { s with hm := { s.hm with cal :=
    { s.hm.cal with calAlarms := s.hm.cal.calAlarms + 1, baselineCount := s.hm.cal.baselineCount - 1 } } }

/-- A BASELINE record's handling: F updated, L set to it, one epoch fewer left, and the end of its calibration at 0 (R139, R140). -/
def State.passBaseline (p raw left : Nat) (r : HealthRecord) (s : State) : State :=
  let f := filtered s.settings r.f raw
  let r' : HealthRecord := { r with state := .baseline (left - 1), f := f, l := f }
  if left - 1 = 0 then
    if s.settings.calBoundary < f then State.calAlarm p r' s else State.calReturn p r' s
  else State.putHealth p r' s

/-- A QUIET record's handling (R113, R114). -/
def State.passQuiet (p raw : Nat) (r : HealthRecord) (s : State) : State :=
  let (r', entered) := quietPass s.settings raw r
  let s := State.putHealth p r' s
  if entered then State.setCause .watchEntered s else s

/-- A WATCH record's handling (R115 to R120). -/
def State.passWatch (p raw : Nat) (comp : Int) (a : Nat) (snap : Option Nat) (r : HealthRecord) (s : State) : State :=
  let r' := watchUpdate s.settings raw comp a snap r
  match watchEnd s.settings r' with
  | .stays => State.putHealth p r' s
  | .alarm => State.enterAlarm p .threshold (State.putHealth p r' s)
  | .release => State.putHealth p (r'.quieted r'.f) s
  | .exit => State.putHealth p (r'.quieted r'.l) s

/-- An ALARM record's handling: F updated, and a retire offer (R123). -/
def State.passAlarm (p raw : Nat) (r : HealthRecord) (s : State) : State :=
  State.retireOffer p (State.putHealth p { r with f := filtered s.settings r.f raw } s)

/-- One record's handling in the pass, by its state (R111). -/
def State.passOne (p raw : Nat) (ds : Deltas) (s : State) : State :=
  let r := s.health p
  match r.state with
  | .untracked => s
  | .baseline left => State.passBaseline p raw left r s
  | .quiet => State.passQuiet p raw r s
  | .watch a snap => State.passWatch p raw (compensation ds r) a snap r s
  | .alarm _ => State.passAlarm p raw r s

/-- The pass over the records `ps` in their order, with the raw counts taken and the baseline changes noted so far (R111, R121). -/
def State.passOver (raws : List Nat) : List Nat → Deltas → State → State
  | [], _, s => s
  | p :: rest, ds, s =>
    let t := State.passOne p (raws.getD p 0) ds s
    State.passOver raws rest (noteDelta ds p (s.health p) (t.health p)) t

/-- The record's role is REFERENCE. -/
def HealthRecord.isReference (r : HealthRecord) : Bool := r.role == .reference

/-- The order of a pass: REFERENCE records first, then all others, each in ascending physical order (R111). -/
def passOrder (table : List HealthRecord) : List Nat :=
  let ps := List.range table.length
  let ref := fun p => (table.getD p (.untracked .independent)).isReference
  ps.filter ref ++ ps.filter fun p => !ref p

/-- Every raw count set to 0 (step 1 of R111). -/
def State.takeRaws (s : State) : State :=
  { s with hm := { s.hm with table := s.hm.table.map fun r => { r with raw := 0 } } }

/-- The epoch end's pass, and the end of a CALIBRATE whose last record has left BASELINE (R111, R143). -/
def State.epochPass (s : State) : State :=
  State.completeCalibrate
    (State.passOver (s.hm.table.map HealthRecord.raw) (passOrder s.hm.table) [] s.takeRaws)

/-- The epoch timer's end: the pass, and the timer restarted with the period of the k in effect (R110, R111). A stopped timer does not end. -/
def State.endEpochTimer (s : State) : State :=
  match s.hm.epochTimer with
  | some _ => State.restartEpochTimer s.epochPass
  | none => s

/-- EPOCH_END (R111). -/
def execEpochEnd (s : State) : Host.Outcome State Fault Refusal := s.event State.endEpochTimer

/-! ## SET_ROLE, RESEED, READ_HEALTH (R128 to R130) -/

/-- The role SET_ROLE's parameters name; none where its checks answer BAD_PARAMETER (R128, R192). -/
def State.roleNamed (s : State) (p role ref weight : Nat) : Option HealthRole :=
  if s.numP ≤ p then none
  else if role = 0 then some .independent
  else if role = 1 then some .reference
  else if role = 2 then
    if s.numP ≤ ref ∨ ref = p ∨ (s.health ref).isReference = false ∨ 8191 < weight then none
    else some (.follower ref weight)
  else none

/-- SET_ROLE as taken (R128). -/
def State.takeSetRole (s : State) : State :=
  if s.mode != .online then State.completeImmediate 0x40 .notOnline s
  else
    match s.roleNamed s.mp.param0.toNat s.mp.param1.toNat s.mp.param2.toNat s.mp.param3.toNat with
    | some role =>
      State.completeImmediate 0x40 .ok
        (State.putHealth s.mp.param0.toNat { s.health s.mp.param0.toNat with role := role } s)
    | none => State.completeImmediate 0x40 .badParameter s

/-- SET_ROLE (R128). -/
def execSetRole (s : State) : Host.Outcome State Fault Refusal := s.event (State.takeCommand 0x40 State.takeSetRole)

/-- RESEED as taken (R129). -/
def State.takeReseed (s : State) : State :=
  let p := s.mp.param0.toNat
  if s.mode != .online then State.completeImmediate 0x41 .notOnline s
  else if s.numP ≤ p then State.completeImmediate 0x41 .badParameter s
  else if !(s.health p).tracked then State.completeImmediate 0x41 .notFilled s
  else State.completeImmediate 0x41 .ok (State.putHealth p ((s.health p).quieted (s.health p).f) s)

/-- RESEED (R129). -/
def execReseed (s : State) : Host.Outcome State Fault Refusal := s.event (State.takeCommand 0x41 State.takeReseed)

/-- Calibration epochs left as READ_HEALTH shows it, 127 where absent (R196). -/
def HealthState.leftCode : HealthState → Nat
  | .baseline left => left
  | .untracked => 127
  | .quiet => 127
  | .watch _ _ => 127
  | .alarm _ => 127

/-- The activation baseline of a record in WATCH. -/
def HealthState.activation : HealthState → Option Nat
  | .watch a _ => some a
  | .untracked => none
  | .baseline _ => none
  | .quiet => none
  | .alarm _ => none

/-- The snapshot of a record in WATCH that has taken one. -/
def HealthState.snapshot : HealthState → Option Nat
  | .watch _ snap => snap
  | .untracked => none
  | .baseline _ => none
  | .quiet => none
  | .alarm _ => none

/-- A 16-bit field, FFFFh where absent (R196). -/
def fieldWord : Option Nat → BitVec 16
  | some v => BitVec.ofNat 16 v
  | none => 0xFFFF

/-- The reference of a FOLLOWER. -/
def HealthRole.ref? : HealthRole → Option Nat
  | .follower ref _ => some ref
  | .independent => none
  | .reference => none

/-- The weight of a FOLLOWER. -/
def HealthRole.weight? : HealthRole → Option Nat
  | .follower _ weight => some weight
  | .independent => none
  | .reference => none

/-- READ_HEALTH's layout of a record (R196). -/
def healthResults (r : HealthRecord) : List (BitVec 16) :=
  [BitVec.ofNat 16 (r.state.code + 8 * r.state.reasonCode + 32 * r.role.code + 128 * r.runKind.code + 512 * r.state.leftCode),
   BitVec.ofNat 16 (r.raw + 256 * r.settle),
   BitVec.ofNat 16 (r.state.snapshot.getD 0 + 4096 * r.runCount),
   fieldWord r.role.ref?,
   fieldWord r.role.weight?,
   BitVec.ofNat 16 r.f,
   BitVec.ofNat 16 r.l,
   BitVec.ofNat 16 (r.state.activation.getD 0 + 4096 * r.state.activation.isSome.toNat + 8192 * r.state.snapshot.isSome.toNat)]

/-- READ_HEALTH as taken (R130). -/
def State.takeReadHealth (s : State) : State :=
  let p := s.mp.param0.toNat
  if s.mode != .online then State.leaveResults noResults (State.completeImmediate 0x42 .notOnline s)
  else if s.numP ≤ p then State.leaveResults noResults (State.completeImmediate 0x42 .badParameter s)
  else State.leaveResults (healthResults (s.health p)) (State.completeImmediate 0x42 .ok s)

/-- READ_HEALTH (R130). -/
def execReadHealth (s : State) : Host.Outcome State Fault Refusal :=
  s.event (State.takeCommand 0x42 State.takeReadHealth)

/-! ## CALIBRATE (R135 to R138) -/

/-- The record is a FOLLOWER of `p` in WATCH (R136). -/
def HealthRecord.watchesBehind (r : HealthRecord) (p : Nat) : Bool :=
  r.role.ref? == some p && r.state.activation.isSome

/-- CALIBRATE takes record `p`: QUIET, and not a REFERENCE with a follower in WATCH (R136). -/
def calibrates (table : List HealthRecord) (p : Nat) : Bool :=
  let r := table.getD p (.untracked .independent)
  r.state == .quiet && !(r.isReference && table.any fun x => x.watchesBehind p)

/-- A record as it enters BASELINE (R137). -/
def HealthRecord.enterBaseline (r : HealthRecord) (epochs : Nat) : HealthRecord :=
  { r with state := .baseline epochs, raw := 0, f := 0, runCount := 0, runKind := .none, settle := 0 }

/-- The Health Table with the records CALIBRATE takes in BASELINE (R136, R137). -/
def calibratedTable (epochs : Nat) (table : List HealthRecord) : List HealthRecord :=
  (List.range table.length).map fun p =>
    let r := table.getD p (.untracked .independent)
    if calibrates table p then r.enterBaseline epochs else r

/-- How many records CALIBRATE takes (R136). -/
def calibratedCount (table : List HealthRecord) : Nat := ((List.range table.length).filter (calibrates table)).length

/-- A CALIBRATE that starts (R136 to R138): records judged and changed together, both timers restarted; it ends at once if no record was taken (R135). -/
def State.startCalibrate (s : State) : State :=
  let n := calibratedCount s.hm.table
  let s := State.startLong 0x43 s
  let s := { s with hm := { s.hm with
    table := calibratedTable s.settings.calEpochs s.hm.table, cal := ⟨true, n, n, 0, 0, 0, 0⟩ } }
  State.completeCalibrate (State.recheckPatrol (State.restartPatrolTimer (State.restartEpochTimer s)))

/-- CALIBRATE as taken (R135). -/
def State.takeCalibrate (s : State) : State :=
  if s.mode != .online then State.leaveResults noResults (State.answerLong 0x43 .notOnline s) else State.startCalibrate s

/-- CALIBRATE (R135). -/
def execCalibrate (s : State) : Host.Outcome State Fault Refusal :=
  s.event (State.takeCommand 0x43 State.takeCalibrate)

end Sys2Proof.Machine
end

