-- ==== Sys2Proof/Machine/Port.lean ====
section
/-! DEFINITION. The arbiter's events (ARRAY_GRANT, HOLD_OFF_END, DISCARDED_COMPLETION; 05) and the repair write's completion (06). -/

namespace Sys2Proof.Machine

/-- ARRAY_GRANT (R70): requests and a migration start that are due come first (log entry 4). -/
def execArrayGrant (s : State) : Host.Outcome State Fault Refusal :=
  .next (State.arrayGrant (State.migrationStart (State.beginRequests s)))

/-- The hold-off timer's end: a running hold-off is off (R73). -/
def State.endHoldOff (s : State) : State := { s with aa := { s.aa with holdOff := none } }

/-- HOLD_OFF_END (R73, R74). -/
def execHoldOffEnd (s : State) : Host.Outcome State Fault Refusal := s.event State.endHoldOff

/-- The completion of an operation whose delivery mark is cleared: a LINE_WRITE reaches the array as issued, a LINE_READ changes nothing, the port
is FREE (R67, R76). -/
def State.discardCompletion (s : State) : State :=
  match s.aa.grant with
  | some op => if op.deliver then s else State.freePort (State.storeLine op s)
  | none => s

/-- DISCARDED_COMPLETION (R76). -/
def execDiscardedCompletion (s : State) : Host.Outcome State Fault Refusal := s.event State.discardCompletion

/-- The entry of the outstanding repair write removed, if it is still in the queue, and the record cleared (R82, R85). -/
def RepairUnit.written (u : RepairUnit) : RepairUnit :=
  { queue := u.queue.filter fun e => some e.addr != u.record, record := none }

/-- The completion of a repair write (R82). -/
def State.completeRepair (s : State) : State :=
  match s.delivered .repair with
  | some op =>
    let s := State.storeLine op s
    State.freePort { s with ru := s.ru.written }
  | none => s

/-- REPAIR_WRITE_COMPLETE (R82). -/
def execRepairWriteComplete (s : State) : Host.Outcome State Fault Refusal := s.event State.completeRepair

end Sys2Proof.Machine
end

