-- ==== Sys2Proof/Machine/Sweep.lean ====
section
/-! DEFINITION. The Sweep Engine: patrol ticks and reads, FILL, VERIFY (07). -/

namespace Sys2Proof.Machine

/-! ## The patrol (R91 to R94) -/

/-- A patrol read raised for line `n` of segment `p`. -/
def State.raisePatrol (p n : Nat) (s : State) : State :=
  { s with se := { s.se with cursorSegment := p, cursorLine := n, patrolPending := .raised } }

/-- What the SE does at a tick (the table of R91). -/
def State.tickAction (s : State) : State :=
  if !s.patrolActive then s
  else if s.se.patrolPending != .none then s
  else if s.eligible s.se.cursorSegment then State.raisePatrol s.se.cursorSegment s.se.cursorLine s
  else
    match s.nextEligible s.se.cursorSegment with
    | some p => State.raisePatrol p 0 s
    | none => s

/-- The patrol timer's end: the tick, and the timer restarted with the pace in effect (R89, R91). A stopped timer does not end. -/
def State.endPatrolTimer (s : State) : State :=
  match s.se.patrolTimer with
  | some _ => State.restartPatrolTimer s.tickAction
  | none => s

/-- PATROL_TICK (R91). -/
def execPatrolTick (s : State) : Host.Outcome State Fault Refusal := s.event State.endPatrolTimer

/-- A fault report for a word of a patrol or VERIFY read (R94). -/
def sweepReport (o : FaultOrigin) (op : PortOp) (g : Option Nat) (k : FaultKind) (w : Nat) (syn : Byte) : FaultReport :=
  ⟨k, o, some (⟨op.segment, op.line, w⟩, syn), g, none⟩

/-- A line read by the patrol or by VERIFY handled: counts, offers, reports (R93, R94). -/
def State.handleSweepLine (o : FaultOrigin) (op : PortOp) (s : State) : State :=
  let ws := selectWords (fun _ => true) (State.readLine op s)
  State.reportWords (sweepReport o op (s.logicalOf op.segment)) ws (State.handleWords true op.segment op.line ws s)

/-- The patrol cursor set. -/
def State.setCursor (p n : Nat) (s : State) : State :=
  { s with se := { s.se with cursorSegment := p, cursorLine := n } }

/-- The cursor at line 0 of the next eligible segment above `p`, or of `p` itself if none is eligible (R92). -/
def State.cursorBeyond (p : Nat) (s : State) : State := State.setCursor ((s.nextEligible p).getD p) 0 s

/-- The cursor's advance past a line handled (R92). -/
def State.advanceCursor (op : PortOp) (s : State) : State :=
  if op.line + 1 < Config.linesPerSegment then State.setCursor op.segment (op.line + 1) s else State.cursorBeyond op.segment s

/-- A patrol read's line: handled if its segment is still eligible, discarded otherwise; the cursor moves (R92). -/
def State.patrolLine (op : PortOp) (s : State) : State :=
  if s.eligible op.segment then State.advanceCursor op (State.handleSweepLine .patrol op s)
  else State.cursorBeyond op.segment s

/-! ## FILL and VERIFY under way -/

/-- The running FILL starts logical segment `g` (R97); the fill hold is tested again (R61, R62). -/
def State.startFillSegment (run : SweepRun) (g : Nat) (s : State) : State :=
  State.retestHold
    { s with se := { s.se with mode := .fill { run with pos := some ⟨g, s.physOf g, 0⟩, step := .raised } } }

/-- The first operation of a FILL or VERIFY that waited for an outstanding patrol read (R95, R97). -/
def State.startWaitingSweep (s : State) : State :=
  match s.se.mode with
  | .patrol => s
  | .fill run => if run.pos.isNone then State.startFillSegment run run.first s else s
  | .verify run =>
    if run.step = .none then { s with se := { s.se with mode := .verify { run with step := .raised } } } else s

/-- The completion of a patrol read (R92, R95). -/
def State.completePatrol (flips : LineFlips) (s : State) : State :=
  match s.delivered .sweep, s.se.patrolPending with
  | some op, .outstanding =>
    let s := State.flipLine op flips s
    let s := State.patrolLine op { s with se := { s.se with patrolPending := .none } }
    State.freePort (State.startWaitingSweep s)
  | some _, .none => s
  | some _, .raised => s
  | none, _ => s

/-- PATROL_READ_COMPLETE (R92). -/
def execPatrolReadComplete (flips : LineFlips) (s : State) : Host.Outcome State Fault Refusal :=
  s.event (State.completePatrol flips)

/-- The end of a FILL or VERIFY: the mode is PATROL again, its range, position and count absent (R95). -/
def State.endSweep (s : State) : State := { s with se := { s.se with mode := .patrol } }

/-- The results of a FILL: segments filled (R106, R196). -/
def fillResults (n : Nat) : List (BitVec 16) := resultWords [BitVec.ofNat 16 n]

/-- The segment under fill is complete (R99): filled, a fresh QUIET record, one more in the count; then the command's end or the next segment. -/
def State.completeFillSegment (run : SweepRun) (pos : SweepPos) (s : State) : State :=
  let s := State.freshen pos.physical (State.setFilled pos.physical true s)
  if pos.logical = run.last then
    State.retestHold
      (State.completeLong .ok (State.leaveResults (fillResults (run.count + 1)) (State.endSweep s)))
  else State.startFillSegment { run with count := run.count + 1 } (pos.logical + 1) s

/-- A FILL write done: the next line's write raised, or the segment complete (R98, R99). -/
def State.advanceFill (run : SweepRun) (pos : SweepPos) (s : State) : State :=
  if pos.line + 1 < Config.linesPerSegment then
    { s with se := { s.se with mode := .fill { run with pos := some { pos with line := pos.line + 1 }, step := .raised } } }
  else State.completeFillSegment run pos s

/-- The completion of a FILL write (R98). -/
def State.completeFill (s : State) : State :=
  match s.delivered .sweep, s.se.mode with
  | some op, .fill run =>
    match run.pos, run.step with
    | some pos, .outstanding => State.freePort (State.advanceFill run pos (State.storeLine op s))
    | _, _ => s
  | _, _ => s

/-- FILL_WRITE_COMPLETE (R98). -/
def execFillWriteComplete (s : State) : Host.Outcome State Fault Refusal := s.event State.completeFill

/-- The two result words of a corrected total, low word first (R196). -/
def totalWords (n : Nat) : List (BitVec 16) := [BitVec.ofNat 16 n, BitVec.ofNat 16 (n / 65536)]

/-- The results of a VERIFY that completed OK: the corrected total (R104, R196). -/
def verifyOkResults (n : Nat) : List (BitVec 16) := resultWords (List.replicate 5 0xFFFF ++ totalWords n)

/-- The results of a VERIFY stopped at a word (R103, R196). -/
def verifyStopResults (run : SweepRun) (pos : SweepPos) (op : PortOp) (w : Nat) (c : BadClass) (total : Nat) : List (BitVec 16) :=
  resultWords
    ([BitVec.ofNat 16 pos.logical, BitVec.ofNat 16 op.segment, BitVec.ofNat 16 op.line, BitVec.ofNat 16 (w + 256 * c.code),
      BitVec.ofNat 16 (run.last + 1 - pos.logical)] ++ totalWords total)

/-- The results of an aborted VERIFY: remaining, counting the segment being read, and the corrected total reached (R106, R196). -/
def verifyAbortResults (run : SweepRun) : List (BitVec 16) :=
  resultWords
    (List.replicate 4 0xFFFF ++
      [BitVec.ofNat 16 (run.last + 1 - (run.pos.map SweepPos.logical).getD run.first)] ++ totalWords run.count)

/-- The sweep position past a VERIFY line (R102); `none` past the last line of the range. -/
def nextVerifyPos (s : State) (run : SweepRun) (pos : SweepPos) : Option SweepPos :=
  if pos.line + 1 < Config.linesPerSegment then some { pos with line := pos.line + 1 }
  else if pos.logical = run.last then none
  else some ⟨pos.logical + 1, s.physOf (pos.logical + 1), 0⟩

/-- A VERIFY line read: handled as a patrol line; VERIFY stops at a word that cannot be delivered, and otherwise goes on or completes OK
(R102 to R104). -/
def State.verifyLine (run : SweepRun) (pos : SweepPos) (op : PortOp) (s : State) : State :=
  let ws := selectWords (fun _ => true) (State.readLine op s)
  let total := run.count + countOfClass .corrected ws
  let t := State.handleSweepLine .verify op s
  match firstBad ws with
  | some (w, _, c) =>
    State.completeLong .uncorrectable (State.leaveResults (verifyStopResults run pos op w c total) (State.endSweep t))
  | none =>
    match nextVerifyPos t run pos with
    | some p => { t with se := { t.se with mode := .verify { run with count := total, pos := some p, step := .raised } } }
    | none => State.completeLong .ok (State.leaveResults (verifyOkResults total) (State.endSweep t))

/-- The completion of a VERIFY read (R102). -/
def State.completeVerify (flips : LineFlips) (s : State) : State :=
  match s.delivered .sweep, s.se.mode with
  | some op, .verify run =>
    match run.pos, run.step with
    | some pos, .outstanding => State.freePort (State.verifyLine run pos op (State.flipLine op flips s))
    | _, _ => s
  | _, _ => s

/-- VERIFY_SWEEP_READ_COMPLETE (R102). -/
def execVerifySweepReadComplete (flips : LineFlips) (s : State) : Host.Outcome State Fault Refusal :=
  s.event (State.completeVerify flips)

/-! ## The commands FILL and VERIFY (R96, R101) -/

/-- The last logical segment but one past a range `f`, `n`; a count of 0 reaches L (R96, R101). -/
def State.rangeEnd (s : State) (f n : Nat) : Nat := if n = 0 then s.numL else f + n

/-- The outcome of FILL's checks, or none where the command starts (R96). -/
def State.checkFill (s : State) (f n : Nat) : Option CmdOutcome :=
  if s.mode != .online then some .notOnline
  else if s.numL ≤ f ∨ s.numL < s.rangeEnd f n then some .badParameter
  else if s.rc.remap.any fun e =>
      match e.copying? with
      | some c => f ≤ c.logical && c.logical < s.rangeEnd f n
      | none => false
    then some .segmentBusy
  else none

/-- A FILL that starts (R95 to R97): the first segment at once, or at the completion of an outstanding patrol read. -/
def State.startFill (f n : Nat) (s : State) : State :=
  let s := State.startLong 0x10 s
  let run : SweepRun := ⟨f, s.rangeEnd f n - 1, 0, none, .none⟩
  let s := State.recheckPatrol { s with se := { s.se with mode := .fill run } }
  if s.se.patrolPending = .outstanding then s else State.startFillSegment run f s

/-- FILL as taken (R96). -/
def State.takeFill (s : State) : State :=
  match s.checkFill s.mp.param0.toNat s.mp.param1.toNat with
  | some o => State.leaveResults noResults (State.answerLong 0x10 o s)
  | none => State.startFill s.mp.param0.toNat s.mp.param1.toNat s

/-- FILL (R96). -/
def execFill (s : State) : Host.Outcome State Fault Refusal := s.event (State.takeCommand 0x10 State.takeFill)

/-- The outcome of VERIFY's checks, or none where the command starts (R101). -/
def State.checkVerify (s : State) (f n : Nat) : Option CmdOutcome :=
  if s.mode != .online then some .notOnline
  else if s.numL ≤ f ∨ s.numL < s.rangeEnd f n then some .badParameter
  else if (List.range (s.rangeEnd f n - f)).any fun k => !(s.seg (s.physOf (f + k))).filled then some .notFilled
  else none

/-- A VERIFY that starts (R95, R101): its first read is raised at once, or at the completion of an outstanding patrol read. -/
def State.startVerify (f n : Nat) (s : State) : State :=
  let s := State.startLong 0x11 s
  let wait := s.se.patrolPending = .outstanding
  let run : SweepRun := ⟨f, s.rangeEnd f n - 1, 0, some ⟨f, s.physOf f, 0⟩, if wait then .none else .raised⟩
  State.recheckPatrol { s with se := { s.se with mode := .verify run } }

/-- VERIFY as taken (R101). -/
def State.takeVerify (s : State) : State :=
  match s.checkVerify s.mp.param0.toNat s.mp.param1.toNat with
  | some o => State.leaveResults noResults (State.answerLong 0x11 o s)
  | none => State.startVerify s.mp.param0.toNat s.mp.param1.toNat s

/-- VERIFY (R101). -/
def execVerify (s : State) : Host.Outcome State Fault Refusal := s.event (State.takeCommand 0x11 State.takeVerify)

end Sys2Proof.Machine
end

