-- ==== Sys2Proof/Machine/Resets.lean ====
section
/-! DEFINITION. The resets and the part modes: POWER_ON_RESET, INIT_COMPLETE, GO_ONLINE, ENGINE_RESET (12, with each block's own rule). -/

namespace Sys2Proof.Machine

/-! ## POWER_ON_RESET and INIT_COMPLETE (R64, R183, R188) -/

/-- The words of an outstanding LINE_WRITE that the array stored although the reset abandoned it (R64): those `kept` names. -/
def keptWords (kept : Byte) (ws : List (Option StoredWord)) : List (Option StoredWord) :=
  lineWords.map fun w => if kept.getLsbD w then ws.getD w none else none

/-- The array across a power-on reset (R5, R64): nothing is written but what the array kept of an outstanding LINE_WRITE. -/
def State.arrayAcrossReset (kept : Byte) (s : State) : Memory :=
  match s.aa.grant with
  | some op =>
    match op.write with
    | some ws => Memory.storeLine s.array op.segment op.line (keptWords kept ws)
    | none => s.array
  | none => s.array

/-- A power-on reset: every field at its initial value but the array's contents, the pins' level and the queue of commands (R188; log entry 9). -/
def State.powerOn (asel : BitVec 2) (kept : Byte) (s : State) : State :=
  { State.reset with pending := s.pending, aselPins := asel, array := s.arrayAcrossReset kept }

/-- POWER_ON_RESET (R188). -/
def execPowerOnReset (asel : BitVec 2) (kept : Byte) (s : State) : Host.Outcome State Fault Refusal :=
  s.event (State.powerOn asel kept)

/-- The part leaves INIT: CONFIG, the address pins read, held-off requests taken (R50, R183, R188). Outside INIT there is nothing to leave. -/
def State.leaveInit (s : State) : State :=
  if s.mode = .init then { s with mode := .config, aselLatch := s.aselPins, lli := s.lli.takeIn } else s

/-- INIT_COMPLETE (R188). -/
def execInitComplete (s : State) : Host.Outcome State Fault Refusal := s.event State.leaveInit

/-! ## GO_ONLINE (R4, R5, R108, R189) -/

/-- The geometry check (R189). -/
def validGeometry (p n : Nat) : Bool := [256, 512, 768, 1024].contains p && n ≤ 32 && n ≤ p / 8

/-- The Segment Status Table of a part that goes online (R5). -/
def freshSegments (p n : Nat) : List SegRecord :=
  List.replicate (p - n) ⟨.inUse, false⟩ ++ List.replicate n ⟨.spareFree, false⟩

/-- The Health Table of a part that goes online (R108). -/
def freshHealth (p : Nat) : List HealthRecord := List.replicate p (.untracked .independent)

/-- The part goes online with geometry `p`, `n` (R189): the RC's and the HM's tables built, both timers started, the mode ONLINE. -/
def State.startOnline (p n : Nat) (s : State) : State :=
  State.restartPatrolTimer
    (State.restartEpochTimer
      { s with
        mode := .online
        rc := ⟨some ⟨p, n⟩, freshSegments p n, List.replicate Config.remapEntries .free⟩
        hm := { s.hm with table := freshHealth p } })

/-- GO_ONLINE as taken (R189). -/
def State.takeGoOnline (s : State) : State :=
  if s.mode = .online then State.completeImmediate 0x01 .notConfig s
  else if validGeometry s.settings.geomP s.settings.geomS then
    State.completeImmediate 0x01 .ok (State.startOnline s.settings.geomP s.settings.geomS s)
  else State.completeImmediate 0x01 .badParameter s

/-- GO_ONLINE (R189). -/
def execGoOnline (s : State) : Host.Outcome State Fault Refusal := s.event (State.takeCommand 0x01 State.takeGoOnline)

/-! ## ENGINE_RESET (R194) -/

/-- The results an aborted FILL leaves (R106). -/
def State.abortedFill (s : State) : List (BitVec 16) :=
  match s.se.mode with
  | .fill run => fillResults run.count
  | .patrol => noResults
  | .verify _ => noResults

/-- The results an aborted VERIFY leaves (R106). -/
def State.abortedVerify (s : State) : List (BitVec 16) :=
  match s.se.mode with
  | .verify run => verifyAbortResults run
  | .patrol => noResults
  | .fill _ => noResults

/-- The results a long command leaves as it is aborted (R106, R144, R194); an aborted CANCEL_MIGRATION has none to show (log entry 19), QUIESCE writes none. -/
def State.abortResults (s : State) : State :=
  if s.mp.longCommand = 0x10 then State.leaveResults s.abortedFill s
  else if s.mp.longCommand = 0x11 then State.leaveResults s.abortedVerify s
  else if s.mp.longCommand = 0x43 then State.leaveResults s.hm.cal.results s
  else if s.mp.longCommand = 0x21 then State.leaveResults noResults s
  else s

/-- Step 1 of R194: a long command that executes completes with outcome ABORTED. -/
def State.abortLong (s : State) : State := if s.mp.busy then State.completeLong .aborted s.abortResults else s

/-- The delivery mark of the outstanding operation after an engine reset (R76). -/
def PortOp.acrossReset (op : PortOp) : PortOp :=
  match op.requester with
  | .migration => { op with deliver := false }
  | .sweep => { op with deliver := false }
  | .demand => op
  | .repair => op

/-- The Array Arbiter's engine reset (R76, R77). -/
def Arbiter.engineReset (a : Arbiter) : Arbiter := ⟨a.grant.map PortOp.acrossReset, 0, none⟩

/-- The record of a segment after an engine reset (R8). -/
def SegRecord.engineReset (r : SegRecord) : SegRecord := if r.role = .spareBound then ⟨.spareFree, false⟩ else r

/-- A Remap Table entry after an engine reset (R27). -/
def RemapEntry.engineReset : RemapEntry → RemapEntry
  | .free => .free
  | .copying e => e.reverted
  | .active e => .active e

/-- The Remap Controller's engine reset (R8, R27). -/
def RemapCtl.engineReset (x : RemapCtl) : RemapCtl :=
  { x with segs := x.segs.map SegRecord.engineReset, remap := x.remap.map RemapEntry.engineReset }

/-- A health record after an engine reset, by its segment's record (R132). -/
def healthAfterReset (seg : SegRecord) (r : HealthRecord) : HealthRecord :=
  if seg.role = .inUse && seg.filled then .fresh r.role else .untracked r.role

/-- The Health Monitor's engine reset but for the epoch timer: records by role and filled flag, calibration ended (R132, R144). -/
def HealthMonitor.engineReset (segs : List SegRecord) (h : HealthMonitor) : HealthMonitor :=
  { h with
    table := List.zipWith healthAfterReset segs h.table
    cal := if h.cal.active then { h.cal with active := false, baselineCount := 0 } else h.cal }

/-- The lowest-numbered eligible segment (R105). -/
def State.firstEligible (s : State) : Option Nat := (List.range s.rc.segs.length).find? s.eligible

/-- The Sweep Engine's engine reset but for the patrol timer (R105). -/
def State.resetSweep (s : State) : State :=
  State.setCursor (s.firstEligible.getD 0) 0 { s with se := { s.se with mode := .patrol, patrolPending := .none } }

/-- The Alert Unit's engine reset (R182): RESET_SEEN the one flag set, enables and master enable kept. -/
def AlertUnit.engineReset (a : AlertUnit) : AlertUnit := { a with causes := Cause.resetSeen.mask }

/-- In ONLINE the epoch timer and the patrol timer restart (R105, R110); in CONFIG both stay stopped. -/
def State.restartTimers (s : State) : State :=
  if s.mode = .online then State.restartPatrolTimer (State.restartEpochTimer s) else s

/-- Step 2 of R194: every block's engine-reset effects. The fill hold is released with the segment under fill, and a dual write to come is dropped with the
entry reverted (R26, R65). -/
def State.resetBlocks (s : State) : State :=
  let rc := s.rc.engineReset
  let s := { s with
    aa := s.aa.engineReset
    rc := rc
    me := ⟨[], .idle, .none, false⟩
    ru := { s.ru with queue := [] }
    hm := s.hm.engineReset rc.segs
    fcu := .reset
    alu := s.alu.engineReset }
  State.retestHold (State.dropDual (State.restartTimers s.resetSweep))

/-- ENGINE_RESET as taken: the three steps of R194 in their order. In INIT the port takes nothing (R183). -/
def State.engineReset (s : State) : State :=
  if !s.mpAnswers then s else State.completeImmediate 0x02 .ok (State.clearRefusal (State.resetBlocks s.abortLong))

/-- ENGINE_RESET (R194). -/
def execEngineReset (s : State) : Host.Outcome State Fault Refusal := s.event State.engineReset

end Sys2Proof.Machine
end

