-- ==== Sys2Proof/Machine/Clock.lean ====
section
/-! DEFINITION. One REFCLK period with no command waiting: what the queue-empty step does (R73, R89, R110, R188; log entries 6 and 8). -/

namespace Sys2Proof.Machine

/-- A running timer one period on; a stopped one stays stopped. -/
def countDown (t : Option Nat) : Option Nat := t.map fun n => n - 1

/-- The three timers one period on. -/
def State.countTimers (s : State) : State :=
  { s with
    aa := { s.aa with holdOff := countDown s.aa.holdOff }
    se := { s.se with patrolTimer := countDown s.se.patrolTimer }
    hm := { s.hm with epochTimer := countDown s.hm.epochTimer } }

/-- `e` taken, and what is then due, if a timer has reached zero. -/
def State.expire (t : State → Option Nat) (e : State → State) (s : State) : State :=
  if t s = some 0 then State.settle (e s) else s

/-- The timers that have reached zero, in the order hold-off, patrol, epoch (log entry 6). -/
def State.expireTimers (s : State) : State :=
  State.expire (fun x => x.hm.epochTimer) State.endEpochTimer
    (State.expire (fun x => x.se.patrolTimer) State.endPatrolTimer
      (State.expire (fun x => x.aa.holdOff) State.endHoldOff s))

/-- One REFCLK period in INIT: the part leaves INIT at the 200th at the latest (R188). -/
def State.initPeriod (s : State) : State :=
  if Config.initBound ≤ s.initElapsed + 1 then State.leaveInit s else { s with initElapsed := s.initElapsed + 1 }

/-- One REFCLK period. -/
def State.tick (s : State) : State :=
  if s.mode = .init then State.initPeriod s.settle else State.expireTimers (State.countTimers s.settle)

end Sys2Proof.Machine
end

