-- ==== Sys2Proof/Machine/Capture.lean ====
section
/-! DEFINITION. The Fault Capture Unit's commands: CLEAR_CAPTURE, READ_CAPTURE (11). -/

namespace Sys2Proof.Machine

/-- CLEAR_CAPTURE as taken (R176): record empty, all eight flags clear, the cause flags as they are. -/
def State.takeClearCapture (s : State) : State := State.completeImmediate 0x50 .ok { s with fcu := .reset }

/-- CLEAR_CAPTURE (R176). -/
def execClearCapture (s : State) : Host.Outcome State Fault Refusal :=
  s.event (State.takeCommand 0x50 State.takeClearCapture)

/-- A seen and an again flag as two bits, seen the lower (R196; log entry 15). -/
def SeenAgain.code (x : SeenAgain) : Nat := x.seen.toNat + 2 * x.again.toNat

/-- Bits 8 to 15 of word 0: the flags of the four kinds in the order R196 gives. -/
def FaultCapture.flagCode (u : FaultCapture) : Nat :=
  256 * u.corrected.code + 1024 * u.uncorrectable.code + 4096 * u.poison.code + 16384 * u.noaddr.code

/-- Bits 6 and 7 of word 0: the class and its presence (R196). -/
def FaultReport.classCode (r : FaultReport) : Nat :=
  match r.upstream with
  | some (_, c) => 64 * reqClassCode c + 128
  | none => 0

/-- Bits 0 to 7 of word 0 (R196). -/
def FaultReport.code (r : FaultReport) : Nat := 1 + 2 * r.kind.code + 8 * r.origin.code + r.classCode

/-- A 16-bit field of the layout, FFFFh where absent (R196). -/
def captureWord : Option Nat → BitVec 16
  | some v => BitVec.ofNat 16 v
  | none => 0xFFFF

/-- Word 3: the word number, the presence bit and the syndrome; 0 where there is no location (R196). -/
def FaultReport.locationWord (r : FaultReport) : BitVec 16 :=
  match r.location with
  | some (a, syn) => BitVec.ofNat 16 (a.word + 128 + 256 * syn.toNat)
  | none => 0

/-- READ_CAPTURE's layout of the record and the flags (R196). -/
def FaultCapture.results (u : FaultCapture) : List (BitVec 16) :=
  match u.record with
  | none => [BitVec.ofNat 16 u.flagCode, 0xFFFF, 0xFFFF, 0, 0xFFFF, 0xFFFF, 0xFFFF, 0xFFFF]
  | some r =>
    [BitVec.ofNat 16 (r.code + u.flagCode), captureWord (r.location.map fun x => x.1.segment),
     captureWord (r.location.map fun x => x.1.line), r.locationWord, captureWord r.logical,
     captureWord (r.upstream.map fun x => x.1.toNat % 65536), captureWord (r.upstream.map fun x => x.1.toNat / 65536), 0xFFFF]

/-- READ_CAPTURE as taken (R177). -/
def State.takeReadCapture (s : State) : State :=
  State.leaveResults s.fcu.results (State.completeImmediate 0x51 .ok s)

/-- READ_CAPTURE (R177). -/
def execReadCapture (s : State) : Host.Outcome State Fault Refusal :=
  s.event (State.takeCommand 0x51 State.takeReadCapture)

end Sys2Proof.Machine
end

