-- ==== Sys2Proof/Machine/Demand.lean ====
section
/-! DEFINITION. The completions of demand operations (04). -/

namespace Sys2Proof.Machine

/-- A fault report for a word of a demand read (R54). -/
def demandReport (r : Request) (o : FaultOrigin) (op : PortOp) (g : Nat) (k : FaultKind) (w : Nat) (syn : Byte) : FaultReport :=
  ⟨k, o, some (⟨op.segment, op.line, w⟩, syn), some g, some (r.address, r.cls)⟩

/-- The response of a READ, by the classes of its words (R46, R51). -/
def readBody (ws : List (Nat × StoredWord)) : RespBody :=
  match firstBad ws with
  | some (w, _, c) => .fault w c
  | none =>
    if countOfClass .corrected ws = 0 then .okayRead (ws.map fun x => deliveredData x.2)
    else .fixed (ws.map fun x => deliveredData x.2) (countOfClass .corrected ws)

/-- A READ's words at the completion of its LINE_READ: counts, offers, reports, response (R51 to R54). -/
def State.finishRead (r : Request) (g : Nat) (op : PortOp) (s : State) : State :=
  let ws := selectWords r.names (State.readLine op s)
  State.freePort
    (State.answer r (readBody ws)
      (State.reportWords (demandReport r .demandRead op g) ws (State.handleWords true op.segment op.line ws s)))

/-- The completion of a READ's LINE_READ (R51). -/
def State.completeRead (flips : LineFlips) (s : State) : State :=
  match s.delivered .demand, s.executing with
  | some op, some (r, .read, .outstanding g _) => State.finishRead r g op (State.flipLine op flips s)
  | _, _ => s

/-- DEMAND_READ_COMPLETE (R51). -/
def execDemandReadComplete (flips : LineFlips) (s : State) : Host.Outcome State Fault Refusal :=
  s.event (State.completeRead flips)

/-- A read-modify-write's partial words at the completion of its LINE_READ: counts and reports, the merged words, and the LINE_WRITE
held or raised (R56 to R58, R61). -/
def State.finishMergeRead (r : Request) (g : Nat) (op : PortOp) (s : State) : State :=
  let line := State.readLine op s
  let ws := selectWords r.partialWord line
  let t := State.reportWords (demandReport r .demandMerge op g) ws (State.handleWords false op.segment op.line ws s)
  State.freePort
    (State.putExec
      (.executing r (.write (r.mergedStore line) ((firstBad ws).map fun x => (x.1, x.2.2))) (t.holdTest r)) t)

/-- The completion of the LINE_READ of a read-modify-write (R56). -/
def State.completeMergeRead (flips : LineFlips) (s : State) : State :=
  match s.delivered .demand, s.executing with
  | some op, some (r, .mergeRead, .outstanding g _) => State.finishMergeRead r g op (State.flipLine op flips s)
  | _, _ => s

/-- DEMAND_MERGE_READ_COMPLETE (R56). -/
def execDemandMergeReadComplete (flips : LineFlips) (s : State) : Host.Outcome State Fault Refusal :=
  s.event (State.completeMergeRead flips)

/-- The dual write still due at the source write's completion: the entry is still COPYING with the same target (R59, R72). -/
def State.dualStillDue (s : State) (dual : Option Nat) : Option Nat :=
  match dual, s.copying with
  | some t, some (_, e) => if e.target = t then some t else none
  | some _, none => none
  | none, _ => none

/-- A dual write issued within the DEMAND grant sequence: a fresh record, the delivery mark set, the fairness count unchanged (R59, R72). -/
def State.issueDual (r : Request) (store : LineStore) (failed : Option (Nat × BadClass)) (g t line : Nat) (s : State) : State :=
  let s := State.removeCovered t line (LineStore.encode store) (State.putExec (.executing r (.dual failed) (.outstanding g none)) s)
  { s with aa := { s.aa with grant := some ⟨.demand, t, line, some (LineStore.encode store), true⟩ } }

/-- A source LINE_WRITE done: the dual write issued, or the response formed and the port FREE (R55, R58, R59). -/
def State.finishWrite (r : Request) (store : LineStore) (failed : Option (Nat × BadClass)) (g : Nat) (dual : Option Nat) (op : PortOp)
    (s : State) : State :=
  match s.dualStillDue dual with
  | some t => State.issueDual r store failed g t op.line s
  | none => State.freePort (State.answer r (writeBody failed) s)

/-- The completion of a source LINE_WRITE (R55, R72). -/
def State.completeWrite (s : State) : State :=
  match s.delivered .demand, s.executing with
  | some op, some (r, .write store failed, .outstanding g dual) =>
    State.finishWrite r store failed g dual op (State.storeLine op s)
  | _, _ => s

/-- DEMAND_WRITE_COMPLETE (R55). -/
def execDemandWriteComplete (s : State) : Host.Outcome State Fault Refusal := s.event State.completeWrite

/-- The completion of a dual write: the response formed, the port FREE (R59, R72). -/
def State.completeDual (s : State) : State :=
  match s.delivered .demand, s.executing with
  | some op, some (r, .dual failed, .outstanding _ _) =>
    State.freePort (State.answer r (writeBody failed) (State.storeLine op s))
  | _, _ => s

/-- DUAL_WRITE_COMPLETE (R72). -/
def execDualWriteComplete (s : State) : Host.Outcome State Fault Refusal := s.event State.completeDual

end Sys2Proof.Machine
end

