-- ==== Sys2Proof/Machine/LineLink.lean ====
section
/-! DEFINITION. The line link's own events: REQUEST_TAKEN, RESPONSE_TAKEN, REQUEST_EXECUTE (04). -/

namespace Sys2Proof.Machine

/-- A request presented: taken into a WAITING slot at the tail if a slot is free and the part is not in INIT, held off on the link otherwise (R47, R50;
log entry 11). -/
def State.takeRequest (r : Request) (s : State) : State :=
  if s.mode = .init then { s with lli := { s.lli with heldOff := s.lli.heldOff ++ [r] } }
  else { s with lli := LineLink.takeIn { s.lli with heldOff := s.lli.heldOff ++ [r] } }

/-- REQUEST_TAKEN (R47). -/
def execRequestTaken (r : Request) (s : State) : Host.Outcome State Fault Refusal := s.event (State.takeRequest r)

/-- The oldest slot leaves if it is ANSWERED, and a held-off request is taken into the slot freed (R49). -/
def State.takeResponse (s : State) : State :=
  match s.lli.queue with
  | .answered _ :: rest => { s with lli := LineLink.takeIn { s.lli with queue := rest } }
  | .waiting _ :: _ => s
  | .executing _ _ _ :: _ => s
  | [] => s

/-- The response on the link: the oldest slot's, if it is ANSWERED, with R197's codes (R49, R197). -/
def State.linkResponse (s : State) : Option LinkResponse :=
  match s.lli.queue with
  | .answered x :: _ => some x.link
  | .waiting _ :: _ => none
  | .executing _ _ _ :: _ => none
  | [] => none

/-- RESPONSE_TAKEN (R49). -/
def execResponseTaken (s : State) : Host.Outcome State Fault Refusal := s.event State.takeResponse

/-- The queue with its oldest WAITING slot begun. -/
def beginOldest (f : Request → Slot) : List Slot → List Slot
  | [] => []
  | .waiting r :: rest => f r :: rest
  | .executing r p t :: rest => .executing r p t :: beginOldest f rest
  | .answered x :: rest => .answered x :: beginOldest f rest

/-- The oldest WAITING request begins if none is executing (R48). In INIT no request is taken, so none is there to begin (R50). -/
def State.executeRequest (s : State) : State :=
  if s.mode = .init || s.executing.isSome then s
  else { s with lli := { s.lli with queue := beginOldest s.beginSlot s.lli.queue } }

/-- REQUEST_EXECUTE (R48): the beginning is part of the event that let it, so what else that event makes due is taken after it (log entries 3, 4). -/
def execRequestExecute (s : State) : Host.Outcome State Fault Refusal := .next (State.executeRequest s)

end Sys2Proof.Machine
end

