-- ==== Sys2Proof/Machine/Mgmt.lean ====
section
/-! DEFINITION. The management port's transfers: the rows of a write transfer's end, UNKNOWN_COMMAND, READ_TRANSFER and the field map (12). -/

namespace Sys2Proof.Machine

/-! ## Settings and parameters (R183, R185, R195) -/

/-- A held value, or the value before (R185). -/
def heldOr (t : Transfer) (k : Nat) (old : BitVec 16) : BitVec 16 := (heldWord t k).getD old

/-- The parameters and the current index after write transfer `t` (R183, R185, R186). -/
def MgmtPort.afterWrite (m : MgmtPort) (t : Transfer) : MgmtPort :=
  { m with
    index := indexAfter t m.index
    param0 := heldOr t 0x18 m.param0
    param1 := heldOr t 0x1A m.param1
    param2 := heldOr t 0x1C m.param2
    param3 := heldOr t 0x1E m.param3 }

/-- The setting that is the patrol's pace now (R89). -/
def State.paceSetting (s : State) : Setting := if s.hm.cal.active then .calInterval else .patrolInterval

/-- A complete write of the epoch exponent in ONLINE restarts the epoch timer (R110, R185). -/
def State.restartEpochIfWritten (t : Transfer) (s : State) : State :=
  if s.mode = .online ∧ (heldSetting t .epochExp).isSome then State.restartEpochTimer s else s

/-- A complete write of the interval that is the current pace restarts the patrol timer in ONLINE, and a pace of 0 withdraws a RAISED
patrol request (R89, R91, R185). -/
def State.restartPatrolIfWritten (t : Transfer) (s : State) : State :=
  if s.mode = .online ∧ (heldSetting t s.paceSetting).isSome then State.recheckPatrol (State.restartPatrolTimer s) else s

/-- The settings and parameters of write transfer `t` taken at its end (step 1 of R185). A transfer the port does not acknowledge has no effect (R183). -/
def State.writeSettings (t : Transfer) (s : State) : State :=
  if !s.acknowledges t.address then s
  else
    State.restartPatrolIfWritten t
      (State.restartEpochIfWritten t
        { s with settings := applySettings (s.mode == .online) t s.settings, mp := s.mp.afterWrite t })

/-- SETTINGS_WRITE (R185). -/
def execSettingsWrite (t : Transfer) (s : State) : Host.Outcome State Fault Refusal := s.event (State.writeSettings t)

/-- A write transfer to this part that writes `v` to setting `x` alone (R183, R185). -/
def State.writeSetting (x : Setting) (v : BitVec 16) (s : State) : State :=
  State.writeSettings (settingTransfer s.targetAddress x v) s

/-- EPOCH_EXPONENT_WRITE (R110): the write transfer that writes `k` alone. -/
def execEpochExponentWrite (k : Byte) (s : State) : Host.Outcome State Fault Refusal :=
  s.event (State.writeSetting .epochExp (k.setWidth 16))

/-- The setting of an interval that can be the pace (R89). -/
def intervalSetting : PaceInterval → Setting
  | .patrol => .patrolInterval
  | .calibration => .calInterval

/-- PATROL_INTERVAL_WRITE (R89): the write transfer that writes `v` to the interval alone. -/
def execPatrolIntervalWrite (which : PaceInterval) (v : BitVec 16) (s : State) : Host.Outcome State Fault Refusal :=
  s.event (State.writeSetting (intervalSetting which) v)

/-! ## Enables and acknowledge mask (R179, R180, R186) -/

/-- Twelve flags as two bytes give them, the low byte bits 0 to 7 and the high byte bits 8 to 11 (R186; log entry 14). -/
def flagPair (lo hi : Byte) : BitVec 12 := (hi ++ lo).setWidth 12

/-- The low byte of twelve flags (R186). -/
def lowFlags (x : BitVec 12) : Byte := x.setWidth 8

/-- The high byte of twelve flags, bits 4 to 7 of it 0 (R186). -/
def highFlags (x : BitVec 12) : Byte := (x >>> 8).setWidth 8

/-- The Alert Unit after the enables of write transfer `t`: a byte not written keeps its value, the master enable is a number (R179, R186). -/
def AlertUnit.afterWrite (a : AlertUnit) (t : Transfer) : AlertUnit :=
  { a with
    enables := flagPair ((heldByte t 0x72).getD (lowFlags a.enables)) ((heldByte t 0x73).getD (highFlags a.enables))
    master := match heldByte t 0x74 with
      | some b => b != 0
      | none => a.master }

/-- The enables of write transfer `t` taken at its end (step 2 of R185). -/
def State.writeEnables (t : Transfer) (s : State) : State :=
  if !s.acknowledges t.address then s
  else { s with alu := s.alu.afterWrite t, mp := { s.mp with index := indexAfter t s.mp.index } }

/-- ENABLE_WRITE (R179). -/
def execEnableWrite (t : Transfer) (s : State) : Host.Outcome State Fault Refusal := s.event (State.writeEnables t)

/-- The acknowledge mask of write transfer `t`; a byte not written counts as 0 (R180). -/
def ackMask (t : Transfer) : BitVec 12 := flagPair ((heldByte t 0x75).getD 0) ((heldByte t 0x76).getD 0)

/-- The flags the mask names cleared, whatever their enables (R180). -/
def AlertUnit.acknowledge (a : AlertUnit) (m : BitVec 12) : AlertUnit := { a with causes := a.causes &&& ~~~m }

/-- The acknowledge mask of write transfer `t` taken at its end (step 3 of R185). -/
def State.writeAck (t : Transfer) (s : State) : State :=
  if !s.acknowledges t.address then s
  else { s with alu := s.alu.acknowledge (ackMask t), mp := { s.mp with index := indexAfter t s.mp.index } }

/-- ACKNOWLEDGE_MASK_WRITE (R180). -/
def execAcknowledgeMaskWrite (t : Transfer) (s : State) : Host.Outcome State Fault Refusal := s.event (State.writeAck t)

/-! ## A code that names no command (R190) -/

/-- A code that names no command: immediate, BAD_PARAMETER; 00h is no command (R190; log entry 23). -/
def State.unknownCode (code : Byte) (s : State) : State :=
  if code = 0 then s else State.takeCommand code (State.completeImmediate code .badParameter) s

/-- UNKNOWN_COMMAND (R190). -/
def execUnknownCommand (code : Byte) (s : State) : Host.Outcome State Fault Refusal := s.event (State.unknownCode code)

/-! ## The field map and read transfers (R183, R184, R186, R187, R195) -/

/-- The low byte of a number. -/
def lowByte (n : Nat) : Byte := BitVec.ofNat 8 n

/-- The second byte of a number. -/
def highByte (n : Nat) : Byte := BitVec.ofNat 8 (n / 256)

/-- Byte `k` of a run of 16-bit fields, each low byte first (R183). -/
def wordByte (ws : List (BitVec 16)) (k : Nat) : Byte :=
  let w := (ws.getD (k / 2) 0xFFFF).toNat
  if k % 2 = 0 then lowByte w else highByte w

/-- The identification fields at 00h to 09h; 0Ah to 0Fh are unassigned (R186, R187). -/
def idByte (k : Nat) : Byte := [0x24, 0x41, 0x01, 16, 32, 8, 8, 32, 0x00, 0x04].getD k 0xFF

/-- The status byte: BUSY, REFUSED_BUSY (R186). -/
def MgmtPort.status (m : MgmtPort) : Byte := lowByte (m.busy.toNat + 2 * m.refusedBusy.toNat)

/-- The command block at 20h to 27h (R186); the code reads 00h, 27h is unassigned. -/
def MgmtPort.commandByte (m : MgmtPort) (k : Nat) : Byte :=
  [0x00, m.status, m.lastCommand, m.lastOutcome.code, m.longCommand, m.longOutcome.code, m.refusedCommand].getD k 0xFF

/-- The byte of the setting that index `k` belongs to; FFh where it belongs to none (R195). -/
def Settings.fieldByte (st : Settings) (k : Nat) : Byte :=
  match Setting.all.find? fun x => x.index == k || (x.wide && x.index + 1 == k) with
  | some x => if x.index = k then lowByte (st.get x) else highByte (st.get x)
  | none => 0xFF

/-- The alert fields at 70h to 77h; the acknowledge mask reads 00h (R180, R186). -/
def AlertUnit.fieldByte (a : AlertUnit) (k : Nat) : Byte :=
  [lowFlags a.causes, highFlags a.causes, lowFlags a.enables, highFlags a.enables, lowByte a.master.toNat, 0, 0,
   lowByte a.summary].getD k 0xFF

/-- The field byte at index `k` as a read shows it; an unassigned index reads FFh (R183, R186). -/
def State.fieldByte (s : State) (k : Nat) : Byte :=
  if k < 0x10 then idByte k
  else if k = 0x10 then s.mode.code
  else if 0x18 ≤ k ∧ k < 0x20 then wordByte [s.mp.param0, s.mp.param1, s.mp.param2, s.mp.param3] (k - 0x18)
  else if 0x20 ≤ k ∧ k < 0x28 then s.mp.commandByte (k - 0x20)
  else if 0x28 ≤ k ∧ k < 0x38 then wordByte s.mp.results (k - 0x28)
  else if 0x40 ≤ k ∧ k < 0x70 then s.settings.fieldByte k
  else if 0x70 ≤ k ∧ k < 0x78 then s.alu.fieldByte (k - 0x70)
  else 0xFF

/-- The copy a read transfer takes of the whole field map (R184). -/
def State.fieldMap (s : State) : List Byte := (List.range 256).map s.fieldByte

/-- The `n` bytes a read transfer returns from a copy, from index `i` on, the index wrapping from FFh to 00h (R183). -/
def bytesFrom (copy : List Byte) (i n : Nat) : List Byte := (List.range n).map fun j => copy.getD ((i + j) % 256) 0xFF

/-- A read transfer; one the port does not acknowledge returns none of its bytes (R183, R184; log entry 16). -/
def State.readTransfer (t : ReadTransfer) (s : State) : State :=
  if !s.acknowledges t.address then s
  else
    { s with mp := { s.mp with
        readCopy := s.fieldMap
        readBytes := bytesFrom s.fieldMap s.mp.index.toNat t.count
        index := s.mp.index + BitVec.ofNat 8 t.count } }

/-- READ_TRANSFER (R184). -/
def execReadTransfer (t : ReadTransfer) (s : State) : Host.Outcome State Fault Refusal := s.event (State.readTransfer t)

end Sys2Proof.Machine
end

