-- ==== Sys2Proof/Machine/Migration.lean ====
section
/-! DEFINITION. The Migration Engine (10) and the Remap Controller's commands (02): copy and verify completions, commit, target failure, revert;
RETIRE, CANCEL_MIGRATION, QUIESCE, RESUME, RESTORE, TRANSLATE, READ_REMAP. -/

namespace Sys2Proof.Machine

/-- MIGRATION_START (R150, R151). -/
def execMigrationStart (s : State) : Host.Outcome State Fault Refusal := .next (State.migrationStart s)

/-- QUIESCE_COMPLETE (R166). -/
def execQuiesceComplete (s : State) : Host.Outcome State Fault Refusal := .next (State.quiesceComplete s)

/-! ## Cancelling (R164, R165) -/

/-- The ME in state `m` with its next operation raised (R152). -/
def State.setMe (m : MigState) (st : OpStep) (s : State) : State := { s with me := { s.me with state := m, step := st } }

/-- The revert of a cancel: entry reverted, target returned to the pool, the ME IDLE, a dual write to come dropped (R25, R26, R165). -/
def State.cancelRevert (i : Nat) (e : CopyingEntry) (s : State) : State :=
  State.dropDual (State.setMe .idle .none (State.freeTarget e.target (State.setEntry i e.reverted s)))

/-- The results of CANCEL_MIGRATION: the logical segment, and the cursor at the revert (R165, R196). -/
def cancelResults (e : CopyingEntry) : List (BitVec 16) :=
  resultWords [BitVec.ofNat 16 e.logical, BitVec.ofNat 16 e.cursor]

/-- The delivered completion of the ME's outstanding operation in CANCELLING: handled for no purpose, the revert taken, the command OK (R165). -/
def State.finishCancel (s : State) : State :=
  match s.copying with
  | some (i, e) => State.completeLong .ok (State.leaveResults (cancelResults e) (State.cancelRevert i e s))
  | none => s

/-- The port operation is a LINE_READ of segment `p`. -/
def PortOp.reads (op : PortOp) (p : Nat) : Bool := op.write.isNone && op.segment == p

/-! ## The line loop (R153 to R157) -/

/-- The line buffer's word for a source word (R153). -/
def bufferWord (w : StoredWord) : StoreWord :=
  match badClass w with
  | some _ => .poison
  | none => .data (deliveredData w)

/-- The fault report of a copy read (R154). -/
def copyReport (e : CopyingEntry) (op : PortOp) (w : Nat) (x : StoredWord) : FaultReport :=
  ⟨.uncorrectable, .migrationCopy, some (⟨op.segment, op.line, w⟩, syndromeByte x), some e.logical, none⟩

/-- A copy read's report, for the lowest UNCORRECTABLE word if there is one (R154). -/
def State.reportCopy (e : CopyingEntry) (op : PortOp) (ws : List (Nat × StoredWord)) (s : State) : State :=
  match firstOfClass .uncorrectable ws with
  | some (w, x) => State.report (copyReport e op w x) s
  | none => s

/-- A copy read's line: counts and reports, the line buffer, COPY_WRITE raised (R153, R154). -/
def State.finishCopyRead (redo : Bool) (e : CopyingEntry) (op : PortOp) (s : State) : State :=
  let line := State.readLine op s
  let ws := selectWords (fun _ => true) line
  State.freePort
    (State.setMe (.copyWrite (line.map bufferWord) redo) .raised
      (State.reportCopy e op ws (State.handleWords false op.segment op.line ws s)))

/-- The completion of the ME's copy read (R153), or of that read in CANCELLING (R165). -/
def State.completeCopyRead (flips : LineFlips) (s : State) : State :=
  match s.delivered .migration, s.copying with
  | some op, some (_, e) =>
    match s.me.state with
    | .copyRead redo => State.finishCopyRead redo e op (State.flipLine op flips s)
    | .cancelling => if op.reads e.current then State.freePort (State.finishCancel (State.flipLine op flips s)) else s
    | .idle => s
    | .copyWrite _ _ => s
    | .verifyRead _ _ => s
  | _, _ => s

/-- The completion of the ME's copy write (R155), or of that write in CANCELLING (R165). -/
def State.completeCopyWrite (s : State) : State :=
  match s.delivered .migration with
  | some op =>
    match s.me.state with
    | .copyWrite b redo => State.freePort (State.setMe (.verifyRead b redo) .raised (State.storeLine op s))
    | .cancelling => if op.write.isSome then State.freePort (State.finishCancel (State.storeLine op s)) else s
    | .idle => s
    | .copyRead _ => s
    | .verifyRead _ _ => s
  | none => s

/-- A target word passes against its line buffer word (R156). -/
def wordPasses (b : StoreWord) (w : StoredWord) : Bool :=
  match b with
  | .poison => classify w == .poison
  | .data _ => classify w == .clean

/-- The words of the target line that fail, with their line buffer words (R156). -/
def failingWords (buffer : List StoreWord) (line : List StoredWord) : List (Nat × StoreWord × StoredWord) :=
  (lineWords.map fun w => (w, buffer.getD w .poison, line.getD w StoredWord.zero)).filter fun x => !wordPasses x.2.1 x.2.2

/-- A fault report of a failed target (R160). -/
def verifyReport (op : PortOp) (w : Nat) (k : FaultKind) (syn : Byte) : FaultReport :=
  ⟨k, .migrationVerify, some (⟨op.segment, op.line, w⟩, syn), none, none⟩

/-- The kind and syndrome a failing word is reported with, where it reads UNCORRECTABLE or POISON or is a poison word that reads CLEAN (R160). -/
def failureKind (b : StoreWord) (w : StoredWord) : Option (FaultKind × Byte) :=
  match classify w with
  | .uncorrectable => some (.uncorrectable, syndromeByte w)
  | .poison => some (.poison, syndromeByte w)
  | .clean => if b = .poison then some (.uncorrectable, 0x00) else none
  | .corrected => none

/-- The lowest failing word that is reported whatever "capture corrected" is (R160). -/
def firstFailure : List (Nat × StoreWord × StoredWord) → Option (Nat × FaultKind × Byte)
  | [] => none
  | (w, b, x) :: rest =>
    match failureKind b x with
    | some (k, syn) => some (w, k, syn)
    | none => firstFailure rest

/-- The one fault report of a failed target (step 1 of R160). -/
def State.reportFailure (op : PortOp) (fs : List (Nat × StoreWord × StoredWord)) (s : State) : State :=
  match firstFailure fs with
  | some (w, k, syn) => State.report (verifyReport op w k syn) s
  | none =>
    match fs with
    | (w, _, x) :: _ =>
      if s.settings.captureCorrected then State.report (verifyReport op w .corrected (syndromeByte x)) s else s
    | [] => s

/-- The failed target abandoned: SPARE_BAD, restarts one more, then the next spare from line 0, or the revert by exhaustion with its causes
(R22, R160, R161). -/
def State.failTarget (i : Nat) (e : CopyingEntry) (s : State) : State :=
  let e' := { e with restarts := e.restarts + 1 }
  let s := State.setRole e.target .spareBad s
  match s.lowestSpare with
  | some t => State.setMe (.copyRead false) .raised (State.bindTarget i e' t s)
  | none =>
    State.setMe .idle .none
      (State.setCause .sparesExhausted (State.setCause .migrationFailed (State.setEntry i e'.reverted s)))

/-- The commit of a finished copy (R23, R162). -/
def State.commit (i : Nat) (e : CopyingEntry) (poisoned : Nat) (s : State) : State :=
  let s := State.setEntry i (.active ⟨e.logical, e.target, e.origin, poisoned, e.restarts⟩) s
  let s := State.setRole e.current .retired s
  let s := State.setFilled e.target true (State.setRole e.target .inUse s)
  let s := State.freshen e.target (State.retireHealth e.current s)
  let s := State.removeSegment e.current s
  State.recheckPatrol (State.setCause .migrationDone (State.setMe .idle .none s))

/-- The end of a line that passed: copied again if the redo mark is set, and otherwise the cursor's advance, with the commit at 4096 (R157, R162). -/
def State.endLine (i : Nat) (e : CopyingEntry) (buffer : List StoreWord) (redo : Bool) (s : State) : State :=
  if redo then State.setMe (.copyRead false) .raised s
  else if e.cursor + 1 < Config.linesPerSegment then
    State.setMe (.copyRead false) .raised
      (State.setEntry i (.copying { e with cursor := e.cursor + 1, poisoned := e.poisoned + linePoison buffer }) s)
  else State.commit i e (e.poisoned + linePoison buffer) s

/-- A verify read's line judged (R156, R157, R160). -/
def State.finishVerifyRead (i : Nat) (e : CopyingEntry) (buffer : List StoreWord) (redo : Bool) (op : PortOp) (s : State) : State :=
  let fs := failingWords buffer (State.readLine op s)
  State.freePort
    (if fs.isEmpty then State.endLine i e buffer redo s else State.failTarget i e (State.reportFailure op fs s))

/-- The completion of the ME's verify read (R156), or of that read in CANCELLING (R165). -/
def State.completeVerifyRead (flips : LineFlips) (s : State) : State :=
  match s.delivered .migration, s.copying with
  | some op, some (i, e) =>
    match s.me.state with
    | .verifyRead b redo => State.finishVerifyRead i e b redo op (State.flipLine op flips s)
    | .cancelling => if op.reads e.target then State.freePort (State.finishCancel (State.flipLine op flips s)) else s
    | .idle => s
    | .copyRead _ => s
    | .copyWrite _ _ => s
  | _, _ => s

/-- COPY_READ_COMPLETE (R153). -/
def execCopyReadComplete (flips : LineFlips) (s : State) : Host.Outcome State Fault Refusal :=
  s.event (State.completeCopyRead flips)

/-- COPY_WRITE_COMPLETE (R155). -/
def execCopyWriteComplete (s : State) : Host.Outcome State Fault Refusal := s.event State.completeCopyWrite

/-- VERIFY_READ_COMPLETE (R156). -/
def execVerifyReadComplete (flips : LineFlips) (s : State) : Host.Outcome State Fault Refusal :=
  s.event (State.completeVerifyRead flips)

/-! ## RETIRE, CANCEL_MIGRATION, QUIESCE, RESUME (R148, R164 to R167) -/

/-- The outcome of RETIRE for `g` (R148). -/
def State.checkRetire (s : State) (g : Nat) : CmdOutcome :=
  if s.mode != .online then .notOnline
  else if s.numL ≤ g then .badParameter
  else if s.queuedForRetire g || s.isCopying g then .segmentBusy
  else if Config.retireQueueEntries ≤ s.me.queue.length then .queueFull
  else if s.lowestSpare.isNone then .noSpare
  else .ok

/-- RETIRE as taken (R148). -/
def State.takeRetire (s : State) : State :=
  let g := s.mp.param0.toNat
  let o := s.checkRetire g
  State.completeImmediate 0x20 o (if o = .ok then State.appendRetire g .manual s else s)

/-- RETIRE (R148). -/
def execRetire (s : State) : Host.Outcome State Fault Refusal := s.event (State.takeCommand 0x20 State.takeRetire)

/-- CANCEL_MIGRATION as taken (R164): the revert at once, or at the completion of the ME's outstanding operation. -/
def State.takeCancel (s : State) : State :=
  if s.mode != .online then State.leaveResults noResults (State.answerLong 0x21 .notOnline s)
  else
    match s.copying with
    | none => State.leaveResults noResults (State.answerLong 0x21 .notFound s)
    | some _ =>
      if s.me.step = .outstanding then State.setMe .cancelling .outstanding (State.startLong 0x21 s)
      else State.finishCancel (State.setMe .cancelling .none (State.startLong 0x21 s))

/-- CANCEL_MIGRATION (R164). -/
def execCancelMigration (s : State) : Host.Outcome State Fault Refusal :=
  s.event (State.takeCommand 0x21 State.takeCancel)

/-- The quiesced flag set or cleared, a RAISED patrol request withdrawn where the patrol stops (R91, R166, R167). -/
def State.setQuiesced (b : Bool) (s : State) : State := State.recheckPatrol { s with me := { s.me with quiesced := b } }

/-- QUIESCE as taken (R166). -/
def State.takeQuiesce (s : State) : State :=
  if s.mode != .online then State.answerLong 0x22 .notOnline s
  else
    let s := State.setQuiesced true s
    if s.quiet then State.answerLong 0x22 .ok s else State.startLong 0x22 s

/-- QUIESCE (R166). -/
def execQuiesce (s : State) : Host.Outcome State Fault Refusal := s.event (State.takeCommand 0x22 State.takeQuiesce)

/-- RESUME as taken (R167). -/
def State.takeResume (s : State) : State :=
  if s.mode != .online then State.completeImmediate 0x23 .notOnline s
  else State.completeImmediate 0x23 .ok (State.setQuiesced false s)

/-- RESUME (R167). -/
def execResume (s : State) : Host.Outcome State Fault Refusal := s.event (State.takeCommand 0x23 State.takeResume)

/-! ## RESTORE, TRANSLATE, READ_REMAP (R28 to R31) -/

/-- The outcome of RESTORE (R28). -/
def State.checkRestore (s : State) (g t : Nat) : CmdOutcome :=
  if s.mode != .online then .notOnline
  else if s.numL ≤ g ∨ t < s.numL ∨ s.numP ≤ t then .badParameter
  else if (s.seg t).role != .spareFree then .noSpare
  else if s.isCopying g || s.queuedForRetire g then .segmentBusy
  else .ok

/-- The index of the entry that records a RESTORE of `g`: its ACTIVE one, or the lowest FREE one (R29). -/
def State.restoreIndex (s : State) (g : Nat) : Option Nat :=
  match s.entryIndex g with
  | some i => some i
  | none => s.rc.remap.findIdx? fun e => e == .free

/-- The effect of a RESTORE with outcome OK (R29). -/
def State.doRestore (g t : Nat) (s : State) : State :=
  let r := s.physOf g
  let s := match s.restoreIndex g with
    | some i => State.setEntry i (.active ⟨g, t, .restored, 0, 0⟩) s
    | none => s
  let s := State.setRole t .inUse (State.setRole r .retired s)
  let s := State.untrack t (State.untrack r s)
  State.recheckPatrol (State.removeSegment r s)

/-- RESTORE as taken (R28, R29). -/
def State.takeRestore (s : State) : State :=
  let o := s.checkRestore s.mp.param0.toNat s.mp.param1.toNat
  State.completeImmediate 0x30 o (if o = .ok then State.doRestore s.mp.param0.toNat s.mp.param1.toNat s else s)

/-- RESTORE (R28). -/
def execRestore (s : State) : Host.Outcome State Fault Refusal := s.event (State.takeCommand 0x30 State.takeRestore)

/-- A result word, FFFFh where absent (R196). -/
def resultWord : Option Nat → BitVec 16
  | some v => BitVec.ofNat 16 v
  | none => 0xFFFF

/-- TRANSLATE's results for `g` (R30, R196). -/
def State.translateResults (s : State) (g : Nat) : List (BitVec 16) :=
  let e := s.entryOf g
  let p := s.physOf g
  resultWords
    [BitVec.ofNat 16 p,
     resultWord (s.entryIndex g),
     resultWord ((s.entryIndex g).map fun _ => e.code),
     resultWord (e.copying?.map CopyingEntry.target),
     resultWord (e.copying?.map CopyingEntry.cursor),
     BitVec.ofNat 16 (s.seg p).filled.toNat,
     BitVec.ofNat 16 (s.health p).state.code]

/-- TRANSLATE as taken (R30). -/
def State.takeTranslate (s : State) : State :=
  let g := s.mp.param0.toNat
  if s.mode != .online then State.leaveResults noResults (State.completeImmediate 0x31 .notOnline s)
  else if s.numL ≤ g then State.leaveResults noResults (State.completeImmediate 0x31 .badParameter s)
  else State.leaveResults (s.translateResults g) (State.completeImmediate 0x31 .ok s)

/-- TRANSLATE (R30). -/
def execTranslate (s : State) : Host.Outcome State Fault Refusal :=
  s.event (State.takeCommand 0x31 State.takeTranslate)

/-- READ_REMAP's layout of an entry (R31, R196). -/
def remapResults : RemapEntry → List (BitVec 16)
  | .free => resultWords [0]
  | .copying e =>
    [1, BitVec.ofNat 16 e.logical, BitVec.ofNat 16 e.current, BitVec.ofNat 16 e.target, BitVec.ofNat 16 e.cursor,
     BitVec.ofNat 16 (e.origin.code + 256 * e.previous.code), BitVec.ofNat 16 e.poisoned, BitVec.ofNat 16 e.restarts]
  | .active e =>
    [2, BitVec.ofNat 16 e.logical, BitVec.ofNat 16 e.current, 0xFFFF, 0xFFFF,
     BitVec.ofNat 16 (e.origin.code + 256 * 0xFF), BitVec.ofNat 16 e.poisoned, BitVec.ofNat 16 e.restarts]

/-- READ_REMAP as taken (R31). -/
def State.takeReadRemap (s : State) : State :=
  let i := s.mp.param0.toNat
  if Config.remapEntries ≤ i then State.leaveResults noResults (State.completeImmediate 0x32 .badParameter s)
  else State.leaveResults (remapResults (s.entryAt i)) (State.completeImmediate 0x32 .ok s)

/-- READ_REMAP (R31). -/
def execReadRemap (s : State) : Host.Outcome State Fault Refusal :=
  s.event (State.takeCommand 0x32 State.takeReadRemap)

end Sys2Proof.Machine
end

