-- ==== Sys2Proof/Machine/Dispatch.lean ====
section
/-! DEFINITION. The meaning of each command: one arm per row of spec/opcode_table.json, in the table's order. -/

namespace Sys2Proof.Machine

def exec (i : Instr) (s : State) : Host.Outcome State Fault Refusal :=
  match i with
  | .powerOnReset asel kept => Sys2Proof.Machine.execPowerOnReset asel kept s
  | .initComplete => Sys2Proof.Machine.execInitComplete s
  | .requestTaken r => Sys2Proof.Machine.execRequestTaken r s
  | .responseTaken => Sys2Proof.Machine.execResponseTaken s
  | .requestExecute => Sys2Proof.Machine.execRequestExecute s
  | .arrayGrant => Sys2Proof.Machine.execArrayGrant s
  | .demandReadComplete flips => Sys2Proof.Machine.execDemandReadComplete flips s
  | .demandMergeReadComplete flips => Sys2Proof.Machine.execDemandMergeReadComplete flips s
  | .demandWriteComplete => Sys2Proof.Machine.execDemandWriteComplete s
  | .dualWriteComplete => Sys2Proof.Machine.execDualWriteComplete s
  | .repairWriteComplete => Sys2Proof.Machine.execRepairWriteComplete s
  | .patrolReadComplete flips => Sys2Proof.Machine.execPatrolReadComplete flips s
  | .fillWriteComplete => Sys2Proof.Machine.execFillWriteComplete s
  | .verifySweepReadComplete flips => Sys2Proof.Machine.execVerifySweepReadComplete flips s
  | .copyReadComplete flips => Sys2Proof.Machine.execCopyReadComplete flips s
  | .copyWriteComplete => Sys2Proof.Machine.execCopyWriteComplete s
  | .verifyReadComplete flips => Sys2Proof.Machine.execVerifyReadComplete flips s
  | .discardedCompletion => Sys2Proof.Machine.execDiscardedCompletion s
  | .patrolTick => Sys2Proof.Machine.execPatrolTick s
  | .epochEnd => Sys2Proof.Machine.execEpochEnd s
  | .holdOffEnd => Sys2Proof.Machine.execHoldOffEnd s
  | .migrationStart => Sys2Proof.Machine.execMigrationStart s
  | .quiesceComplete => Sys2Proof.Machine.execQuiesceComplete s
  | .settingsWrite t => Sys2Proof.Machine.execSettingsWrite t s
  | .epochExponentWrite k => Sys2Proof.Machine.execEpochExponentWrite k s
  | .patrolIntervalWrite which v => Sys2Proof.Machine.execPatrolIntervalWrite which v s
  | .enableWrite t => Sys2Proof.Machine.execEnableWrite t s
  | .acknowledgeMaskWrite t => Sys2Proof.Machine.execAcknowledgeMaskWrite t s
  | .unknownCommand code => Sys2Proof.Machine.execUnknownCommand code s
  | .goOnline => Sys2Proof.Machine.execGoOnline s
  | .engineReset => Sys2Proof.Machine.execEngineReset s
  | .fill => Sys2Proof.Machine.execFill s
  | .verify => Sys2Proof.Machine.execVerify s
  | .retire => Sys2Proof.Machine.execRetire s
  | .cancelMigration => Sys2Proof.Machine.execCancelMigration s
  | .quiesce => Sys2Proof.Machine.execQuiesce s
  | .resume => Sys2Proof.Machine.execResume s
  | .restore => Sys2Proof.Machine.execRestore s
  | .translate => Sys2Proof.Machine.execTranslate s
  | .readRemap => Sys2Proof.Machine.execReadRemap s
  | .setRole => Sys2Proof.Machine.execSetRole s
  | .reseed => Sys2Proof.Machine.execReseed s
  | .readHealth => Sys2Proof.Machine.execReadHealth s
  | .calibrate => Sys2Proof.Machine.execCalibrate s
  | .clearCapture => Sys2Proof.Machine.execClearCapture s
  | .readCapture => Sys2Proof.Machine.execReadCapture s
  | .readTransfer t => Sys2Proof.Machine.execReadTransfer t s

end Sys2Proof.Machine
end

