-- ==== Sys2Proof/Safety.lean ====
section
/-! DEFINITION. What every state the part can reach has in common, block by block: the invariants the rules state. -/

namespace Sys2Proof.Machine

/-! ## The array (R66, R68; log entry 1) -/

/-- The array's list is in its canonical form. -/
abbrev State.ArrayOk (s : State) : Prop := Memory.wf s.array

/-! ## Queues and counts (R47, R71, R79, R146, R193) -/

/-- The place of a slot in the order ANSWERED, EXECUTING, WAITING (R47). -/
def Slot.rank : Slot → Nat
  | .answered _ => 0
  | .executing _ _ _ => 1
  | .waiting _ => 2

/-- Two slots, the first the older, as R47 has them: in the order of their states, not both EXECUTING. -/
abbrev Slot.before (x y : Slot) : Prop := x.rank ≤ y.rank ∧ (x.rank = 1 → y.rank ≠ 1)

/-- The Request Queue: at most 16 slots, a run of ANSWERED, at most one EXECUTING, then WAITING (R47). -/
abbrev LineLink.Ok (x : LineLink) : Prop := x.queue.length ≤ Config.requestQueueSlots ∧ x.queue.Pairwise Slot.before

/-- The Repair Queue: at most 8 entries, no two for the same word (R79). -/
abbrev RepairUnit.Ok (u : RepairUnit) : Prop :=
  u.queue.length ≤ Config.repairQueueEntries ∧ (u.queue.map RepairEntry.addr).Nodup

/-- The Retire Queue: at most 8 entries, no two for the same logical segment (R146). -/
abbrev MigEngine.QueueOk (m : MigEngine) : Prop :=
  m.queue.length ≤ Config.retireQueueEntries ∧ (m.queue.map RetireEntry.logical).Nodup

/-- Every queue within its capacity and order, the fairness count within 0..8, eight result words. -/
abbrev State.QueuesOk (s : State) : Prop :=
  s.lli.Ok ∧ s.ru.Ok ∧ s.me.QueueOk ∧ s.aa.fairness ≤ Config.fairnessLimit ∧ s.mp.results.length = 8

/-! ## Tables and geometry (R3, R5, R16, R107, R108) -/

/-- The two tables have one record per physical segment in ONLINE and are empty before, and the Remap Table has 32 entries. -/
def State.TablesOk (s : State) : Prop :=
  s.rc.remap.length = Config.remapEntries ∧ s.rc.segs.length = s.numP ∧ s.hm.table.length = s.numP ∧
    (s.mode ≠ .online → s.rc.geometry = none)

/-! ## One migration at a time (R17, R149) -/

/-- How many Remap Table entries are COPYING. -/
def State.copyingCount (s : State) : Nat := (s.rc.remap.filter fun e => e.copying?.isSome).length

/-- No entry is COPYING while the ME is IDLE, exactly one in its other states; before ONLINE the ME is IDLE. -/
def State.MigrationOk (s : State) : Prop :=
  s.copyingCount = (if s.me.state = .idle then 0 else 1) ∧ (s.mode ≠ .online → s.me.state = .idle)

/-! ## Entries, roles and queues agree (R5, R17, R19, R20, R79, R146) -/

/-- What R17 says of one entry: its logical segment lies below L, its current is IN_USE, a COPYING entry's target is SPARE_BOUND and its cursor below 4096; the current of a
first move is the logical segment's own segment, any other current a spare. -/
def State.EntryOk (s : State) : RemapEntry → Prop
  | .free => True
  | .copying e =>
    e.logical < s.numL ∧ (s.seg e.current).role = .inUse ∧ (s.seg e.target).role = .spareBound ∧ e.cursor < 4096 ∧
      (e.previous = .free → e.current = e.logical) ∧ (e.previous = .active → s.numL ≤ e.current)
  | .active e => e.logical < s.numL ∧ (s.seg e.current).role = .inUse ∧ s.numL ≤ e.current

/-- Two entries, as R17's laws have them: not the same logical segment, not the same current. -/
def RemapEntry.apart (x y : RemapEntry) : Prop :=
  (∀ g, x.logical? = some g → y.logical? ≠ some g) ∧ ∀ p, x.current? = some p → y.current? ≠ some p

/-- The roles of the segments, by the entries (R6, R17, R19): below L a segment is IN_USE while it serves its own logical segment and RETIRED once that has moved; from L on an IN_USE
segment is the current of an entry; a SPARE_BOUND one is the target of the COPYING entry. -/
def State.RolesOk (s : State) : Prop :=
  (∀ p < s.numL, (s.seg p).role = if s.physOf p = p then .inUse else .retired) ∧
    (∀ p, s.numL ≤ p → (s.seg p).role = .inUse → ∃ e ∈ s.rc.remap, e.current? = some p) ∧
    ∀ p, (s.seg p).role = .spareBound → ∃ e, RemapEntry.copying e ∈ s.rc.remap ∧ e.target = p

/-- The queues name what they may (R79, R146): the Retire Queue logical segments below L, none twice and none that is COPYING, the Repair Queue words of IN_USE segments. -/
def State.NamesOk (s : State) : Prop :=
  (∀ x ∈ s.me.queue, x.logical < s.numL ∧ ∀ e, RemapEntry.copying e ∈ s.rc.remap → e.logical ≠ x.logical) ∧
    (s.me.queue.map RetireEntry.logical).Nodup ∧ ∀ x ∈ s.ru.queue, (s.seg x.addr.segment).role = .inUse

/-- The Remap Controller's tables and the two queues that name segments agree; before ONLINE every entry is FREE and both queues are empty. -/
def State.RemapOk (s : State) : Prop :=
  s.TablesOk ∧ s.MigrationOk ∧ (∀ g, s.rc.geometry = some g → g.s ≤ 32 ∧ g.s ≤ g.p) ∧
    (s.mode ≠ .online → (∀ e ∈ s.rc.remap, e = .free) ∧ s.me.queue = [] ∧ s.ru.queue = []) ∧
    (∀ e ∈ s.rc.remap, s.EntryOk e) ∧ s.rc.remap.Pairwise RemapEntry.apart ∧ s.RolesOk ∧ s.NamesOk

/-! ## Ranges (R107, R195) -/

/-- Every setting lies in its range. -/
abbrev Settings.Ok (st : Settings) : Prop := ∀ x : Setting, x.range.1 ≤ st.get x ∧ st.get x ≤ x.range.2

/-- The fields a health state has lie in their ranges (R107). -/
def HealthState.InRange : HealthState → Prop
  | .untracked => True
  | .baseline left => left ≤ 64
  | .quiet => True
  | .watch a snap => a ≤ 4095 ∧ ∀ v, snap = some v → v ≤ 4095
  | .alarm _ => True

/-- A health record's fields lie in their ranges (R107). -/
def HealthRecord.InRange (r : HealthRecord) : Prop :=
  r.state.InRange ∧ r.raw ≤ 255 ∧ r.f ≤ 4095 ∧ r.l ≤ 4095 ∧ r.runCount ≤ 15 ∧ r.settle ≤ 255 ∧
    ∀ w, r.role.weight? = some w → w ≤ 8191

/-- Every setting and every health record within its range; a FOLLOWER's reference is a physical segment (R107, R128). -/
def State.RangesOk (s : State) : Prop :=
  s.settings.Ok ∧ ∀ r ∈ s.hm.table, r.InRange ∧ ∀ ref, r.role.ref? = some ref → ref < s.numP

/-! ## The status of a long command (R191) -/

/-- While a long command executes, both outcomes are NONE and the last command is that command. -/
def State.StatusOk (s : State) : Prop :=
  s.mp.busy = true → s.mp.lastOutcome = .none ∧ s.mp.longOutcome = .none ∧ s.mp.lastCommand = s.mp.longCommand

/-! ## The patrol's withdrawal (R91) -/

/-- Of the Sweep Engine only the patrol timer and the pending read may have changed, and a RAISED read is withdrawn where, as `t` has it, the patrol is not active or the cursor's
segment not eligible (R90, R91). -/
def PatrolRechecked (u t : State) : Prop :=
  let pace := if t.hm.cal.active = true then t.settings.calInterval else t.settings.patrolInterval
  let stays := t.mode = .online ∧ t.se.mode = .patrol ∧ t.me.quiesced = false ∧ pace ≠ 0 ∧
    (t.seg t.se.cursorSegment).role = .inUse ∧ (t.seg t.se.cursorSegment).filled = true
  t.se = { u.se with patrolTimer := t.se.patrolTimer, patrolPending := t.se.patrolPending } ∧
    (u.se.patrolPending = .raised → ¬stays → t.se.patrolPending = .none) ∧
    (u.se.patrolPending ≠ .raised ∨ stays → t.se.patrolPending = u.se.patrolPending)

/-! ## What a read completion does beside its own work (R52 to R54, R57, R73, R80, R81, R93, R94, R109, R124, R126, R142, R143, R153)

Relations between the state `u` before and `t` after. `ws` are the words handed to the Check Unit, by number and ascending; `word w` is the stored word read for number `w`. -/

/-- The numbers of the CORRECTED words. -/
def correctedWords (word : Nat → StoredWord) (ws : List Nat) : List Nat := ws.filter fun w => classify (word w) == .corrected

/-- Every CORRECTED word adds one to the raw count of a tracked record, up to 255 (R109). -/
def CountsCorrected (p : Nat) (word : Nat → StoredWord) (ws : List Nat) (u t : State) : Prop :=
  let n := (correctedWords word ws).length
  (t.health p).raw =
    if n = 0 ∨ (u.health p).state = .untracked then (u.health p).raw else min 255 ((u.health p).raw + n)

/-- With an UNCORRECTABLE word the hold-off starts or restarts with H ms, H = 0 leaving it as it was, and a QUIET, WATCH or BASELINE record enters ALARM with reason UNCORRECTABLE and
ALARM_ENTERED set; without one neither happens. No other record changes (R73, R124, R126). -/
def HandlesUncorrectable (p : Nat) (word : Nat → StoredWord) (ws : List Nat) (u t : State) : Prop :=
  let met := ∃ w ∈ ws, classify (word w) = .uncorrectable
  let judged := (u.health p).state = .untracked ∨ ∃ reason, (u.health p).state = .alarm reason
  (met → t.aa.holdOff =
    if u.settings.holdOffLength = 0 then u.aa.holdOff else some (1000 * u.settings.holdOffLength)) ∧
  (¬met → t.aa.holdOff = u.aa.holdOff) ∧
  (met → ¬judged → t.alu.isSet .alarmEntered = true ∧ t.health p = { u.health p with
    raw := (t.health p).raw, state := .alarm .uncorrectable, runCount := 0, runKind := .none, settle := 0 }) ∧
  (¬met ∨ judged → t.health p = { u.health p with raw := (t.health p).raw }) ∧
  ∀ q, q ≠ p → t.health q = u.health q

/-- An UNCORRECTABLE word that moves the record to ALARM makes that record's one retire offer, the hold-off standing as the report to the arbiter left it (log entry 30); in every
other case the Retire Queue and the Remap Controller stay as they were (R73, R124 to R126, R150). -/
def OffersRetirement (p : Nat) (word : Nat → StoredWord) (ws : List Nat) (u t : State) : Prop :=
  let met := ∃ w ∈ ws, classify (word w) = .uncorrectable
  let judged := (u.health p).state = .untracked ∨ ∃ reason, (u.health p).state = .alarm reason
  let offered := State.retireOffer p { u with aa := { u.aa with holdOff := t.aa.holdOff } }
  (met → ¬judged → t.me = offered.me ∧ t.rc = offered.rc ∧
    (offered.alu.isSet .sparesExhausted = true → t.alu.isSet .sparesExhausted = true)) ∧
  (¬met ∨ judged → t.me = u.me ∧ t.rc = u.rc)

/-- The read brings an uncorrectable report for a record in BASELINE, which leaves it (R142). -/
def LeavesBaseline (p : Nat) (word : Nat → StoredWord) (ws : List Nat) (u : State) : Prop :=
  (∃ w ∈ ws, classify (word w) = .uncorrectable) ∧ ∃ left, (u.health p).state = .baseline left

/-- The record that leaves BASELINE is the last of a running CALIBRATE (R143). -/
def EndsCalibration (p : Nat) (word : Nat → StoredWord) (ws : List Nat) (u : State) : Prop :=
  LeavesBaseline p word ws u ∧ u.hm.cal.active = true ∧ u.hm.cal.baselineCount - 1 = 0

/-- A record that leaves BASELINE counts as an uncorrectable alarm and takes one from the baseline count; with the last one the calibration ends and the patrol timer restarts with the
patrol interval. In every other case calibration state and patrol timer stay, and the epoch timer always does (R89, R142, R143). -/
def CountsCalibration (p : Nat) (word : Nat → StoredWord) (ws : List Nat) (u t : State) : Prop :=
  let counted := { u.hm.cal with uncAlarms := u.hm.cal.uncAlarms + 1, baselineCount := u.hm.cal.baselineCount - 1 }
  t.hm.epochTimer = u.hm.epochTimer ∧
    (¬LeavesBaseline p word ws u → t.hm.cal = u.hm.cal) ∧
    (LeavesBaseline p word ws u → ¬EndsCalibration p word ws u → t.hm.cal = counted) ∧
    (EndsCalibration p word ws u → t.hm.cal = { counted with active := false } ∧
      t.se.patrolTimer = if u.settings.patrolInterval = 0 then none else some u.settings.patrolInterval) ∧
    (¬EndsCalibration p word ws u → t.se.patrolTimer = u.se.patrolTimer)

/-- The CALIBRATE that ends completes OK with its counts as results and COMMAND_DONE set; with none that ends, the command block and COMMAND_DONE stay (R143, R196). -/
def CompletesCalibrate (p : Nat) (word : Nat → StoredWord) (ws : List Nat) (u t : State) : Prop :=
  (EndsCalibration p word ws u → t.alu.isSet .commandDone = true ∧ t.mp = { u.mp with
    lastOutcome := .ok, longOutcome := .ok, busy := false
    results := [BitVec.ofNat 16 u.hm.cal.calAlarms, BitVec.ofNat 16 u.hm.cal.returnedQuiet,
      BitVec.ofNat 16 (u.hm.cal.uncAlarms + 1), BitVec.ofNat 16 u.hm.cal.retired, BitVec.ofNat 16 u.hm.cal.taken,
      0xFFFF, 0xFFFF, 0xFFFF] }) ∧
  (¬EndsCalibration p word ws u → t.mp = u.mp ∧ t.alu.isSet .commandDone = u.alu.isSet .commandDone)

/-- The patrol as a read's words leave it: looked at again where a CALIBRATE ends, and as it was where none does (R91, R143). -/
def RechecksPatrol (p : Nat) (word : Nat → StoredWord) (ws : List Nat) (u t : State) : Prop :=
  (EndsCalibration p word ws u → PatrolRechecked u t) ∧ (¬EndsCalibration p word ws u → t.se = u.se)

/-- The CORRECTED words are offered to the Repair Unit in ascending order, each offer finding what the one before it left (R52, R81). -/
def OffersInOrder (p line : Nat) (word : Nat → StoredWord) (ws : List Nat) (u t : State) : Prop :=
  t.ru = ((correctedWords word ws).foldl (fun x w => State.offerRepair ⟨p, line, w⟩ (deliveredData (word w)) x) u).ru

/-- The one fault report of a read: for its lowest word that cannot be delivered, with that word's class as its kind; with none, and "capture corrected" on, for its lowest CORRECTED
word; `mk` gives the report's other fields (R53, R54, R94). -/
def ReportsLowest (mk : FaultKind → Nat → FaultReport) (word : Nat → StoredWord) (ws : List Nat) (u t : State) : Prop :=
  (∀ w ∈ ws, (∀ v ∈ ws, v < w → badClass (word v) = none) →
    (classify (word w) = .uncorrectable →
      t.fcu = u.fcu.report (mk .uncorrectable w) ∧ t.alu.isSet .uncorrectableSeen = true) ∧
    (classify (word w) = .poison → t.fcu = u.fcu.report (mk .poison w) ∧ t.alu.isSet .uncorrectableSeen = true)) ∧
  ((∀ w ∈ ws, badClass (word w) = none) →
    (∀ w ∈ ws, u.settings.captureCorrected = true → classify (word w) = .corrected →
      (∀ v ∈ ws, v < w → classify (word v) ≠ .corrected) →
      t.fcu = u.fcu.report (mk .corrected w) ∧ (u.fcu.record = none → t.alu.isSet .correctedCaptured = true)) ∧
    (u.settings.captureCorrected = false ∨ (∀ w ∈ ws, classify (word w) ≠ .corrected) → t.fcu = u.fcu))

/-! ## The fill hold as the segment under fill changes (R61, R62, R65) -/

/-- With `fill` now the segment under fill, the demand operation that is not yet issued is held exactly where its translation names that segment, and raised where not. -/
def HoldRetested (fill : Option Nat) (u t : State) : Prop :=
  t.lli.heldOff = u.lli.heldOff ∧
  (∀ r ph step, u.executing = some (r, ph, step) → step = .held ∨ step = .raised →
    ((∃ g, u.translate r.cls r.address = some g ∧ fill = some g) →
      t.lli.queue = u.lli.queue.map (Slot.executing r ph .held).replaceExec) ∧
    ((¬∃ g, u.translate r.cls r.address = some g ∧ fill = some g) →
      t.lli.queue = u.lli.queue.map (Slot.executing r ph .raised).replaceExec)) ∧
  (∀ r ph g d, u.executing = some (r, ph, .outstanding g d) → t.lli.queue = u.lli.queue) ∧
  (u.executing = none → t.lli.queue = u.lli.queue)

end Sys2Proof.Machine
end

