-- ==== Sys2Proof/Certificates/Slice0/Obligations.lean ====
section
/-! DEFINITION. The statements for the provers. A state `u` with `s.settle = u` is the state in which an event from outside finds the part: every beginning of a request, migration start, grant
and QUIESCE completion that was due has been taken (log entries 3 and 4). -/

open Sys2Proof Sys2Proof.Machine

/-! ## The queue of commands and the clock -/

/-- A step takes the command at the front of the queue and runs it on the state with the queue's rest. -/
def Obligations.StepRunsTheFrontCommand : Prop :=
  ∀ (c : Instr) (rest : List Instr) (s : State), s.pending = c :: rest → step s = exec c { s with pending := rest }

/-- A step on an empty queue is one REFCLK period (the model's choice, log entries 6 and 8): outside INIT every running timer falls by one, a hold-off at its last period ends, and INIT
ends with its 200th period. -/
def Obligations.EmptyQueueStepIsOnePeriod : Prop :=
  ∀ s u : State, s.pending = [] → s.settle = u →
    (u.mode ≠ .init → (∀ n, u.aa.holdOff = some n → 2 ≤ n) → (∀ n, u.se.patrolTimer = some n → 2 ≤ n) →
      (∀ n, u.hm.epochTimer = some n → 2 ≤ n) →
      step s = .next { u with
        aa := { u.aa with holdOff := u.aa.holdOff.map fun n => n - 1 }
        se := { u.se with patrolTimer := u.se.patrolTimer.map fun n => n - 1 }
        hm := { u.hm with epochTimer := u.hm.epochTimer.map fun n => n - 1 } }) ∧
    (u.mode ≠ .init → u.aa.holdOff = some 1 → u.se.patrolTimer = none → u.hm.epochTimer = none →
      ∃ t, step s = .next t ∧ t.aa.holdOff = none) ∧
    (u.mode = .init → u.initElapsed < 199 → step s = .next { u with initElapsed := u.initElapsed + 1 }) ∧
    (u.mode = .init → 199 ≤ u.initElapsed → ∃ t, step s = .next t ∧ t.mode = .config)

/-- Every command, in every state whether a run reaches it or not, is answered with a next state, and none touches the queue of commands. That no command stops, and that one whose event the
part cannot meet changes nothing, is the model's: log entries 25 (DESIGN CHOICE), 5 and 28 (DEDUCED); the queue of commands is the model's too (log entry 20). -/
def Obligations.EveryCommandIsAnswered : Prop :=
  ∀ (c : Instr) (s : State), ∃ t, exec c s = .next t ∧ t.pending = s.pending

/-- Taking the internal events that are due leaves none due (the model's choice, log entry 3). -/
def Obligations.SettlingLeavesNothingDue : Prop := ∀ s : State, s.settle.settle = s.settle

/-! ## Reset values and resets -/

/-- The values power-on reset leaves, as the rules state them. -/
def Obligations.ResetValues : Prop :=
  let s := State.reset
  s.mode = .init ∧ s.pending = [] ∧ s.lli.queue = [] ∧ s.ru.queue = [] ∧ s.ru.record = none ∧ s.me.queue = [] ∧
    s.rc.geometry = none ∧ s.rc.segs = [] ∧ s.rc.remap = List.replicate 32 .free ∧ s.hm.table = [] ∧
    s.hm.epochTimer = none ∧ s.hm.cal = ⟨false, 0, 0, 0, 0, 0, 0⟩ ∧
    s.me.state = .idle ∧ s.me.step = .none ∧ s.me.quiesced = false ∧
    s.se.mode = .patrol ∧ s.se.cursorSegment = 0 ∧ s.se.cursorLine = 0 ∧ s.se.patrolPending = .none ∧
    s.se.patrolTimer = none ∧ s.aa.grant = none ∧ s.aa.fairness = 0 ∧ s.aa.holdOff = none ∧ s.fcu.record = none ∧
    (∀ c : Cause, s.alu.isSet c = true ↔ c = .resetSeen) ∧ s.alu.enables = 0 ∧ s.alu.master = false ∧
    s.summaryCode = 0 ∧ s.alert = false ∧
    s.mp.index = 0 ∧ s.mp.param0 = 0 ∧ s.mp.param1 = 0 ∧ s.mp.param2 = 0 ∧ s.mp.param3 = 0 ∧ s.mp.busy = false ∧
    s.mp.refusedBusy = false ∧ s.mp.lastCommand = 0 ∧ s.mp.lastOutcome = .none ∧ s.mp.longCommand = 0 ∧
    s.mp.longOutcome = .none ∧ s.mp.refusedCommand = 0 ∧ s.mp.results = List.replicate 8 0xFFFF ∧
    Setting.all.map s.settings.get =
      [1024, 16, 10, 100, 10, 2, 6, 3, 3, 64, 48, 256, 16, 3, 4, 3, 8, 8, 64, 8, 128, 0, 10, 0, 0, 0, 0, 1024, 0, 0]

/-- The state after reset meets every invariant stated below. -/
def Obligations.ResetMeetsTheInvariants : Prop :=
  State.reset.ArrayOk ∧ State.reset.QueuesOk ∧ State.reset.TablesOk ∧ State.reset.MigrationOk ∧ State.reset.RangesOk ∧
    State.reset.StatusOk ∧ State.reset.RemapOk

/-- POWER_ON_RESET: every field at its initial value but the queue of commands, the pins and the array; of an outstanding LINE_WRITE the array keeps the words `kept` names, and
every other word stays as it was (log entry 9). -/
def Obligations.PowerOnResetRestoresInitialState : Prop :=
  ∀ (asel : BitVec 2) (kept : Byte) (s u : State), s.settle = u → ∃ t, exec (.powerOnReset asel kept) s = .next t ∧
    t = { State.reset with pending := u.pending, aselPins := asel, array := t.array } ∧
    (u.aa.grant = none → t.array = u.array) ∧
    (∀ op, u.aa.grant = some op → op.write = none → t.array = u.array) ∧
    (∀ op ws, u.aa.grant = some op → op.write = some ws → u.ArrayOk → ∀ a,
      (∀ w < 8, a = op.segment * 32768 + op.line * 8 + w →
        Memory.read t.array a =
          if kept.getLsbD w then (ws.getD w none).getD (Memory.read u.array a) else Memory.read u.array a) ∧
      ((∀ w < 8, a ≠ op.segment * 32768 + op.line * 8 + w) → Memory.read t.array a = Memory.read u.array a))

/-- INIT_COMPLETE: CONFIG, the address pins read, held-off requests taken in their order while slots are free (that several are held off and keep an order is log entry 11, DESIGN CHOICE); outside
INIT nothing (log entry 5, DEDUCED). -/
def Obligations.InitCompleteEntersConfig : Prop :=
  ∀ s u : State, s.settle = u →
    (u.mode = .init → exec .initComplete s = .next { u with
      mode := .config
      aselLatch := u.aselPins
      lli := ⟨u.lli.queue ++ (u.lli.heldOff.take (16 - u.lli.queue.length)).map .waiting,
        u.lli.heldOff.drop (16 - u.lli.queue.length)⟩ }) ∧
    (u.mode ≠ .init → exec .initComplete s = .next u)

/-- GO_ONLINE: NOT_CONFIG in ONLINE, BAD_PARAMETER for a geometry that is not valid, and otherwise the tables, timers and mode of R189. -/
def Obligations.GoOnlineBuildsTheTables : Prop :=
  ∀ s u : State, s.settle = u → u.mp.busy = false →
    let P := u.settings.geomP
    let S := u.settings.geomS
    let taken := fun (o : CmdOutcome) => { u.mp with
      lastCommand := 0x01, lastOutcome := o, refusedBusy := false, refusedCommand := 0 }
    let valid := (P = 256 ∨ P = 512 ∨ P = 768 ∨ P = 1024) ∧ S ≤ 32 ∧ S ≤ P / 8
    (u.mode = .online → exec .goOnline s = .next { u with mp := taken .notConfig }) ∧
    (u.mode = .config → ¬valid → exec .goOnline s = .next { u with mp := taken .badParameter }) ∧
    (u.mode = .config → valid → ∃ t, exec .goOnline s = .next t ∧ t.mp = taken .ok ∧ t.mode = .online ∧
      t.rc.geometry = some ⟨P, S⟩ ∧ t.rc.segs.length = P ∧
      (∀ p < P, t.seg p = ⟨if p < P - S then .inUse else .spareFree, false⟩) ∧
      t.rc.remap = List.replicate 32 .free ∧
      t.hm.table = List.replicate P ⟨.untracked, .independent, 0, 0, 0, 0, .none, 0⟩ ∧
      t.hm.epochTimer = some (1000 * 2 ^ u.settings.epochExp) ∧
      t.se.patrolTimer = (if u.pace = 0 then none else some u.pace) ∧
      t = { u with mode := t.mode, mp := t.mp, rc := t.rc, hm := t.hm, se := t.se })

/-- ENGINE_RESET, with or without a long command running: every block's effect, and everything kept that R194 keeps. The dual write to come of an outstanding source write is dropped, and a
demand operation held by the fill hold goes on. -/
def Obligations.EngineResetResetsTheEngines : Prop :=
  ∀ s u : State, s.settle = u → u.mode ≠ .init → ∃ t, exec .engineReset s = .next t ∧
    t = { u with
      mp := t.mp, aa := t.aa, rc := t.rc, me := t.me, se := t.se, ru := t.ru, hm := t.hm, fcu := t.fcu, alu := t.alu
      lli := t.lli } ∧
    (u.mp.busy = false →
      t.mp = { u.mp with lastCommand := 0x02, lastOutcome := .ok, refusedBusy := false, refusedCommand := 0 }) ∧
    t.aa.fairness = 0 ∧ t.aa.holdOff = none ∧
    (u.aa.grant = none → t.aa.grant = none) ∧
    (∀ op, u.aa.grant = some op → t.aa.grant =
      some { op with deliver := if op.requester = .migration ∨ op.requester = .sweep then false else op.deliver }) ∧
    t.rc.geometry = u.rc.geometry ∧
    t.rc.segs = u.rc.segs.map (fun r => if r.role = .spareBound then ⟨.spareFree, false⟩ else r) ∧
    (∀ (i : Nat) (e : CopyingEntry), u.rc.remap[i]? = some (RemapEntry.copying e) → t.rc.remap[i]? = some
      (if e.previous = .free then RemapEntry.free
        else RemapEntry.active ⟨e.logical, e.current, e.origin, e.poisoned, e.restarts⟩)) ∧
    (∀ (i : Nat) (x : RemapEntry), u.rc.remap[i]? = some x → x.copying? = none → t.rc.remap[i]? = some x) ∧
    t.rc.remap.length = u.rc.remap.length ∧
    t.me = ⟨[], .idle, .none, false⟩ ∧ t.ru = ⟨[], u.ru.record⟩ ∧
    t.fcu = ⟨none, ⟨false, false⟩, ⟨false, false⟩, ⟨false, false⟩, ⟨false, false⟩⟩ ∧
    (let eligible := fun p => (u.seg p).role = .inUse ∧ (u.seg p).filled = true
     t.se.mode = .patrol ∧ t.se.patrolPending = .none ∧ t.se.cursorLine = 0 ∧
        (∀ p, eligible p → (∀ q < p, ¬eligible q) → t.se.cursorSegment = p) ∧
        ((∀ p, ¬eligible p) → t.se.cursorSegment = 0)) ∧
    t.hm.cal = (if u.hm.cal.active = true then { u.hm.cal with active := false, baselineCount := 0 } else u.hm.cal) ∧
    (∀ p, p < u.rc.segs.length → p < u.hm.table.length → t.health p =
      ⟨if (u.seg p).role = .inUse ∧ (u.seg p).filled = true then .quiet else .untracked, (u.health p).role,
        0, 0, 0, 0, .none, 0⟩) ∧
    (u.mode = .online → t.hm.epochTimer = some (1000 * 2 ^ u.settings.epochExp)) ∧
    (u.mode = .online → t.se.patrolTimer =
      if u.settings.patrolInterval = 0 then none else some u.settings.patrolInterval) ∧
    (u.mode ≠ .online → t.hm.epochTimer = u.hm.epochTimer ∧ t.se.patrolTimer = u.se.patrolTimer) ∧
    (∀ c : Cause, t.alu.isSet c = true ↔ c = .resetSeen) ∧ t.alu.enables = u.alu.enables ∧ t.alu.master = u.alu.master ∧
    t.lli.heldOff = u.lli.heldOff ∧ t.lli.queue.length = u.lli.queue.length ∧
    ((∀ x ∈ u.lli.queue, x.exec? = none) → t.lli.queue = u.lli.queue) ∧
    (∀ pre r ph step post, u.lli.queue = pre ++ Slot.executing r ph step :: post → (∀ x ∈ pre ++ post, x.exec? = none) →
      (∀ g d, step = .outstanding g d → t.lli.queue = pre ++ Slot.executing r ph (.outstanding g none) :: post) ∧
      (step = .held ∨ step = .raised → t.lli.queue = pre ++ Slot.executing r ph .raised :: post))

/-- ENGINE_RESET while a long command runs: that command ends ABORTED with the results it leaves then, and COMMAND_DONE is cleared with the others. -/
def Obligations.EngineResetAbortsTheLongCommand : Prop :=
  ∀ s u : State, s.settle = u → u.mode ≠ .init → u.mp.busy = true → ∃ t, exec .engineReset s = .next t ∧
    t.mp.busy = false ∧ t.mp.longOutcome = .aborted ∧ t.mp.longCommand = u.mp.longCommand ∧
    t.mp.lastCommand = 0x02 ∧ t.mp.lastOutcome = .ok ∧ (∀ c : Cause, t.alu.isSet c = true ↔ c = .resetSeen) ∧
    (∀ run, u.mp.longCommand = 0x10 → u.se.mode = .fill run →
      t.mp.results = BitVec.ofNat 16 run.count :: List.replicate 7 0xFFFF) ∧
    (∀ run pos, u.mp.longCommand = 0x11 → u.se.mode = .verify run → run.pos = some pos →
      t.mp.results = [0xFFFF, 0xFFFF, 0xFFFF, 0xFFFF, BitVec.ofNat 16 (run.last + 1 - pos.logical),
        BitVec.ofNat 16 run.count, BitVec.ofNat 16 (run.count / 65536), 0xFFFF]) ∧
    (u.mp.longCommand = 0x43 → t.mp.results =
      [BitVec.ofNat 16 u.hm.cal.calAlarms, BitVec.ofNat 16 u.hm.cal.returnedQuiet, BitVec.ofNat 16 u.hm.cal.uncAlarms,
        BitVec.ofNat 16 u.hm.cal.retired, BitVec.ofNat 16 u.hm.cal.taken, 0xFFFF, 0xFFFF, 0xFFFF]) ∧
    (u.mp.longCommand = 0x22 → t.mp.results = u.mp.results)

/-! ## The line link -/

/-- REQUEST_TAKEN: in INIT the request is held off; otherwise it takes its place behind the requests held off before it, and of these as many as there are free slots, up to 16 occupied, are
taken in order into WAITING slots at the tail. That the requests held off are a list in the order presented is log entry 11 (DESIGN CHOICE). A request's codes on the link are R197's. -/
def Obligations.RequestsAreTakenInOrder : Prop :=
  (∀ (r : Request) (s u : State), s.settle = u →
    (u.mode = .init → exec (.requestTaken r) s = .next { u with lli := ⟨u.lli.queue, u.lli.heldOff ++ [r]⟩ }) ∧
    (u.mode ≠ .init → u.lli.heldOff = [] → u.lli.queue.length < 16 →
      exec (.requestTaken r) s = .next { u with lli := ⟨u.lli.queue ++ [.waiting r], []⟩ }) ∧
    (u.mode ≠ .init → 16 ≤ u.lli.queue.length →
      exec (.requestTaken r) s = .next { u with lli := ⟨u.lli.queue, u.lli.heldOff ++ [r]⟩ }) ∧
    (u.mode ≠ .init → exec (.requestTaken r) s = .next { u with
      lli := ⟨u.lli.queue ++ ((u.lli.heldOff ++ [r]).take (16 - u.lli.queue.length)).map .waiting,
        (u.lli.heldOff ++ [r]).drop (16 - u.lli.queue.length)⟩ })) ∧
  (∀ x : LinkRequest, x.request =
    ⟨if x.kind = 0 then .read else .write x.words, x.tag, if x.cls = 0 then .a else .b, x.address, x.count⟩) ∧
  ∀ r : Request, r.link.request = r

/-- RESPONSE_TAKEN: the oldest slot, if ANSWERED, leaves, and held-off requests are taken into free slots in their order (log entry 11, DESIGN CHOICE); otherwise nothing changes (log entry 5,
DEDUCED). The response on the link is the oldest slot's, with R197's codes and the fields R46 gives each status. -/
def Obligations.ResponsesLeaveInOrder : Prop :=
  (∀ s u : State, s.settle = u →
    (∀ x rest, u.lli.queue = .answered x :: rest → exec .responseTaken s = .next { u with
      lli := ⟨rest ++ (u.lli.heldOff.take (16 - rest.length)).map .waiting,
        u.lli.heldOff.drop (16 - rest.length)⟩ }) ∧
    ((∀ x rest, u.lli.queue ≠ .answered x :: rest) → exec .responseTaken s = .next u)) ∧
  ∀ s : State,
    (∀ x rest, s.lli.queue = .answered x :: rest → s.linkResponse = some (match x.body with
      | .okayRead data => ⟨x.tag, 0, some data, none, none, none⟩
      | .okayWrite => ⟨x.tag, 0, none, none, none, none⟩
      | .fixed data n => ⟨x.tag, 1, some data, some n, none, none⟩
      | .fault w .uncorrectable => ⟨x.tag, 2, none, none, some w, some 1⟩
      | .fault w .poison => ⟨x.tag, 2, none, none, some w, some 2⟩
      | .noaddr => ⟨x.tag, 3, none, none, none, none⟩
      | .badreq => ⟨x.tag, 4, none, none, none, none⟩
      | .offline => ⟨x.tag, 5, none, none, none, none⟩)) ∧
    ((∀ x rest, s.lli.queue ≠ .answered x :: rest) → s.linkResponse = none)

/-- REQUEST_EXECUTE begins the oldest WAITING request when none is executing: OFFLINE in CONFIG, BADREQ for a shape R45 refuses, and otherwise its first operation, held when its logical
segment is under fill and raised when not; a full write carries the data of its fully enabled words and no other word. While a request executes, and in INIT, nothing begins. In ONLINE a request that is not
refused begins so of itself with the event that let it (log entry 3, DESIGN CHOICE). -/
def Obligations.RequestExecutionBegins : Prop :=
  (∀ (r : Request) (pre post : List Slot) (s : State), r.wf = true →
    s.lli.queue = pre ++ .waiting r :: post → (∀ x ∈ pre, ∃ resp, x = .answered resp) →
    (∀ x ∈ post, ∃ r', x = .waiting r') →
    let begun := fun x => Host.Outcome.next { s with lli := { s.lli with queue := pre ++ x :: post } }
    let lowest := r.address.toNat % 64 / 8
    let bad := r.count = 0 ∨ 8 < r.count ∨ 8 < lowest + r.count ∨
      ∃ ws, r.kind = .write ws ∧ ∀ w ∈ ws, w.enables = 0
    let full := fun (ws : List WriteWord) => (List.range 8).map fun w =>
      if lowest ≤ w ∧ w < lowest + r.count then
        match ws[w - lowest]? with
        | some x => if x.enables = 0xFF then some (StoreWord.data x.data) else none
        | none => none
      else none
    let first := match r.kind with
      | .read => .read
      | .write ws => if ∃ w ∈ ws, w.enables ≠ 0 ∧ w.enables ≠ 0xFF then .mergeRead else .write (full ws) none
    (s.mode = .config → exec .requestExecute s = begun (.answered ⟨r.tag, .offline⟩)) ∧
    (s.mode = .online → bad → exec .requestExecute s = begun (.answered ⟨r.tag, .badreq⟩)) ∧
    (s.mode = .online → ¬bad → (∃ g, s.translate r.cls r.address = some g ∧ s.underFill = some g) →
      exec .requestExecute s = begun (.executing r first .held)) ∧
    (s.mode = .online → ¬bad → (¬∃ g, s.translate r.cls r.address = some g ∧ s.underFill = some g) →
      exec .requestExecute s = begun (.executing r first .raised)) ∧
    (s.mode = .online → ¬bad → exec .requestExecute s = .next s.beginRequests)) ∧
  ∀ s : State, s.executing ≠ none ∨ s.mode = .init → exec .requestExecute s = .next s

/-- The translation of R35: through the shared window, or through the partition the class selects, to a logical segment below L, and NOADDR in every other case. -/
def Obligations.TranslationFollowsThePartitions : Prop :=
  ∀ (s : State) (c : ReqClass) (a : BitVec 28) (g : Nat),
    let u := a.toNat / 0x40000
    let base := if s.settings.split = true ∧ c = .b then s.settings.baseB else s.settings.baseA
    let len := if s.settings.split = true ∧ c = .b then s.settings.lenB else s.settings.lenA
    s.translate c a = some g ↔
      g < s.numL ∧ ((u < s.settings.window ∧ g = u) ∨
        (s.settings.window ≤ u ∧ u - s.settings.window < len ∧ g = base + (u - s.settings.window)))

/-! ## Grants of the array port -/

/-- ARRAY_GRANT at a FREE port with DEMAND chosen for a LINE_READ (of a READ or of a merge): the read of the line the translation and the lookup name is issued, the fairness count rises. -/
def Obligations.DemandReadIsGranted : Prop :=
  ∀ (r : Request) (ph : DemandPhase) (g : Nat) (s u : State), s.beginRequests.migrationStart = u → u.aa.grant = none →
    u.executing = some (r, ph, .raised) → ph = .read ∨ ph = .mergeRead → u.translate r.cls r.address = some g →
    u.aa.fairness < 8 ∨ u.backgroundChoice = none →
    exec .arrayGrant s = .next { u with
      lli := { u.lli with queue := u.lli.queue.map (Slot.executing r ph (.outstanding g none)).replaceExec }
      aa := { u.aa with
        grant := some ⟨.demand, u.physOf g, r.address.toNat % 0x40000 / 64, none, true⟩
        fairness := min 8 (u.aa.fairness + 1) } }

/-- ARRAY_GRANT with DEMAND chosen for a LINE_WRITE: the words are encoded, the repair entries they cover leave the Repair Queue, the ME gets a redo mark for its in-flight line, and a write
below the cursor is to be made to the target too. -/
def Obligations.DemandWriteIsGranted : Prop :=
  ∀ (r : Request) (store : LineStore) (failed : Option (Nat × BadClass)) (g : Nat) (s u : State),
    s.beginRequests.migrationStart = u → u.aa.grant = none → u.executing = some (r, .write store failed, .raised) →
    u.translate r.cls r.address = some g → u.aa.fairness < 8 ∨ u.backgroundChoice = none →
    let p := u.physOf g
    let n := r.address.toNat % 0x40000 / 64
    let words := store.map fun x => x.map StoreWord.encode
    ∃ t dual, exec .arrayGrant s = .next t ∧ t = { u with lli := t.lli, aa := t.aa, ru := t.ru, me := t.me } ∧
      t.aa = { u.aa with
        grant := some ⟨.demand, p, n, some words, true⟩
        fairness := min 8 (u.aa.fairness + 1) } ∧
      t.lli = { u.lli with
        queue := u.lli.queue.map (Slot.executing r (.write store failed) (.outstanding g dual)).replaceExec } ∧
      t.ru.record = u.ru.record ∧
      t.ru.queue = u.ru.queue.filter (fun e =>
        !(e.addr.segment == p && e.addr.line == n && (words.getD e.addr.word none).isSome)) ∧
      (∀ i e, u.copying = some (i, e) → e.current = p → n < e.cursor → dual = some e.target) ∧
      (u.copying = none → dual = none) ∧
      (∀ i e, u.copying = some (i, e) → e.current ≠ p ∨ e.cursor ≤ n → dual = none) ∧
      t.me.queue = u.me.queue ∧ t.me.step = u.me.step ∧ t.me.quiesced = u.me.quiesced ∧
      (∀ i e b redo, u.copying = some (i, e) → e.current = p → e.cursor = n →
        (u.me.state = .copyRead redo → t.me.state = .copyRead true) ∧
        (u.me.state = .copyWrite b redo → t.me.state = .copyWrite b true) ∧
        (u.me.state = .verifyRead b redo → t.me.state = .verifyRead b true)) ∧
      (∀ i e, u.copying = some (i, e) → e.current ≠ p ∨ e.cursor ≠ n → t.me = u.me) ∧
      (u.me.state = .cancelling → t.me = u.me) ∧ (u.copying = none → t.me = u.me)

/-- ARRAY_GRANT with DEMAND chosen and a translation that ends NOADDR: no operation, the response NOADDR, one NOADDR report, and the port, the fairness count and the hold-off as they were. With
nothing else raised and no request waiting that is all; otherwise the arbiter chooses again in the same event, as it would choose at that state: the next request, or REPAIR, MIGRATION, SWEEP. -/
def Obligations.NoaddrIsAnsweredWithoutAGrant : Prop :=
  ∀ (r : Request) (ph : DemandPhase) (s u : State), s.beginRequests.migrationStart = u → u.aa.grant = none →
    u.executing = some (r, ph, .raised) → u.translate r.cls r.address = none →
    let rep : FaultReport := ⟨.noaddr, match r.kind with
      | .read => .demandRead
      | .write _ => .demandMerge, none, none, some (r.address, r.cls)⟩
    let answered := { u with
      lli := { u.lli with queue := u.lli.queue.map (Slot.answered ⟨r.tag, .noaddr⟩).replaceExec }
      fcu := u.fcu.report rep
      alu := { u.alu with causes := u.alu.causes ||| 0x040 } }
    (u.backgroundChoice = none → (∀ x ∈ u.lli.queue, ∀ r', x ≠ .waiting r') → exec .arrayGrant s = .next answered) ∧
    (u.aa.fairness < 8 ∨ u.backgroundChoice = none → exec .arrayGrant s = exec .arrayGrant answered)

/-- ARRAY_GRANT to REPAIR and to MIGRATION: the repair write of the head's word alone, and the ME's operation for its state; the fairness count becomes 0. REPAIR outranks MIGRATION, and the
hold-off blocks MIGRATION only. -/
def Obligations.RepairAndMigrationAreGranted : Prop :=
  ∀ s u : State, s.beginRequests.migrationStart = u → u.aa.grant = none → u.demandRaised = false ∨ 8 ≤ u.aa.fairness →
    (∀ e rest, u.ru.queue = e :: rest → u.ru.record = none → ∃ t words, exec .arrayGrant s = .next t ∧
      t = { u with ru := ⟨u.ru.queue, some e.addr⟩, aa := t.aa } ∧
      t.aa = ⟨some ⟨.repair, e.addr.segment, e.addr.line, some words, true⟩, 0, u.aa.holdOff⟩ ∧
      ∀ w < 8, words.getD w none = if w = e.addr.word then some (encodeWord e.data) else none) ∧
    (∀ i e, u.ru.queue = [] ∨ u.ru.record ≠ none → u.aa.holdOff = none → u.me.step = .raised →
      u.copying = some (i, e) →
      (∀ redo, u.me.state = .copyRead redo → exec .arrayGrant s = .next { u with
        me := { u.me with state := .copyRead false, step := .outstanding }
        aa := ⟨some ⟨.migration, e.current, e.cursor, none, true⟩, 0, none⟩ }) ∧
      (∀ b redo, u.me.state = .verifyRead b redo → exec .arrayGrant s = .next { u with
        me := { u.me with step := .outstanding }
        aa := ⟨some ⟨.migration, e.target, e.cursor, none, true⟩, 0, none⟩ }) ∧
      (∀ b redo, u.me.state = .copyWrite b redo → ∃ t, exec .arrayGrant s = .next t ∧
        t = { u with me := { u.me with step := .outstanding }, ru := t.ru, aa := t.aa } ∧
        t.aa = ⟨some ⟨.migration, e.target, e.cursor, some (b.map fun x => some x.encode), true⟩, 0, none⟩ ∧
        (∀ x ∈ u.ru.queue, x.addr.segment ≠ e.target → x ∈ t.ru.queue) ∧ ∀ x ∈ t.ru.queue, x ∈ u.ru.queue))

/-- ARRAY_GRANT to SWEEP, DEMAND not being raised or the fairness count standing at 8, and nothing else of higher rank being eligible: the patrol read of the cursor's line, the FILL write of zeros,
or the VERIFY read of the segment that serves the position now. -/
def Obligations.SweepIsGranted : Prop :=
  ∀ s u : State, s.beginRequests.migrationStart = u → u.aa.grant = none → u.aa.holdOff = none →
    u.demandRaised = false ∨ 8 ≤ u.aa.fairness →
    u.ru.queue = [] ∨ u.ru.record ≠ none → u.me.step ≠ .raised →
    (u.se.patrolPending = .raised → exec .arrayGrant s = .next { u with
      se := { u.se with patrolPending := .outstanding }
      aa := ⟨some ⟨.sweep, u.se.cursorSegment, u.se.cursorLine, none, true⟩, 0, none⟩ }) ∧
    (∀ run pos, u.se.patrolPending ≠ .raised → u.se.mode = .fill run → run.step = .raised → run.pos = some pos →
      ∃ t, exec .arrayGrant s = .next t ∧
        t = { u with se := { u.se with mode := .fill { run with step := .outstanding } }, ru := t.ru, aa := t.aa } ∧
        t.aa = ⟨some ⟨.sweep, pos.physical, pos.line, some (List.replicate 8 (some ⟨0, 0⟩)), true⟩, 0, none⟩ ∧
        t.ru.record = u.ru.record ∧
        t.ru.queue = u.ru.queue.filter fun e =>
          !(e.addr.segment == pos.physical && e.addr.line == pos.line && decide (e.addr.word < 8))) ∧
    (∀ run pos, u.se.patrolPending ≠ .raised → u.se.mode = .verify run → run.step = .raised → run.pos = some pos →
      exec .arrayGrant s = .next { u with
        se := { u.se with
          mode := .verify { run with pos := some { pos with physical := u.physOf pos.logical }, step := .outstanding } }
        aa := ⟨some ⟨.sweep, u.physOf pos.logical, pos.line, none, true⟩, 0, none⟩ })

/-- While the hold-off runs, a grant goes to DEMAND or REPAIR. HOLD_OFF_END turns the hold-off off, whatever time of it remains (log entry 7, DESIGN CHOICE), and changes nothing else of the
state the due events leave. -/
def Obligations.HoldOffBlocksMigrationAndSweep : Prop :=
  (∀ (s t : State) (op : PortOp), s.aa.holdOff ≠ none → s.aa.grant = none → exec .arrayGrant s = .next t →
    t.aa.grant = some op → op.requester = .demand ∨ op.requester = .repair) ∧
  ∀ s u : State, s.settle = u → exec .holdOffEnd s = .next { u with aa := { u.aa with holdOff := none } }

/-! ## Completions of demand operations -/

/-- DEMAND_READ_COMPLETE: the READ's own words alone decide the response, OKAY, FIXED or FAULT; a line whose words are all CLEAN changes nothing else. Each CORRECTED word is counted and offered for
repair, an UNCORRECTABLE one starts the hold-off and alarms its segment, a BASELINE record so alarmed leaves the calibration, and one fault
report tells of the lowest word that failed. `word w` is the stored word read. That the hold-off stands as the retire offer is made is log entry 30 (DESIGN CHOICE). -/
def Obligations.ReadIsAnsweredByItsWords : Prop :=
  ∀ (r : Request) (g : Nat) (d : Option Nat) (op : PortOp) (flips : LineFlips) (s u : State), s.settle = u →
    u.aa.grant = some op → op.requester = .demand → op.deliver = true →
    u.executing = some (r, .read, .outstanding g d) →
    let array := Memory.flipLine u.array op.segment op.line flips
    let word := fun w => Memory.read array (op.segment * 32768 + op.line * 8 + w)
    let ws := (List.range 8).filter fun w => r.address.toNat % 64 / 8 ≤ w && w < r.address.toNat % 64 / 8 + r.count
    let answered := fun body => u.lli.queue.map (Slot.answered ⟨r.tag, body⟩).replaceExec
    ((∀ w ∈ ws, classify (word w) = .clean) → exec (.demandReadComplete flips) s = .next { u with
      array := array
      lli := { u.lli with queue := answered (.okayRead (ws.map fun w => (word w).data)) }
      aa := { u.aa with grant := none } }) ∧
    ∃ t, exec (.demandReadComplete flips) s = .next t ∧
      t = { u with
        array := array
        lli := { u.lli with queue := t.lli.queue }
        aa := { u.aa with grant := none, holdOff := t.aa.holdOff }
        rc := t.rc, me := t.me, se := t.se, ru := t.ru, hm := t.hm, fcu := t.fcu, alu := t.alu, mp := t.mp } ∧
      ((∀ w ∈ ws, badClass (word w) = none) → (∃ w ∈ ws, classify (word w) = .corrected) →
        t.lli.queue = answered (.fixed (ws.map fun w => deliveredData (word w))
          (ws.filter fun w => classify (word w) == .corrected).length)) ∧
      (∀ w ∈ ws, ∀ c, badClass (word w) = some c → (∀ v ∈ ws, v < w → badClass (word v) = none) →
        t.lli.queue = answered (.fault w c)) ∧
      CountsCorrected op.segment word ws u t ∧ HandlesUncorrectable op.segment word ws u t ∧
      CountsCalibration op.segment word ws u t ∧ CompletesCalibrate op.segment word ws u t ∧
      RechecksPatrol op.segment word ws u t ∧
      OffersRetirement op.segment word ws u t ∧ OffersInOrder op.segment op.line word ws u t ∧
      ReportsLowest (fun k w => ⟨k, .demandRead, some (⟨op.segment, op.line, w⟩, syndromeByte (word w)), some g,
        some (r.address, r.cls)⟩) word ws u t

/-- DEMAND_READ_COMPLETE with an UNCORRECTABLE word among the READ's: the hold-off starts with its full length, a QUIET, WATCH or BASELINE record of the segment goes to ALARM with the values of R124
and makes its retire offer, a BASELINE record is counted and, as the last, ends the CALIBRATE, and the causes are set; with no such word the hold-off timer is as it was. That the hold-off comes
before the offer, so that an entry appended then waits, is log entry 30 (DESIGN CHOICE). -/
def Obligations.UncorrectableWordsAreReported : Prop :=
  ∀ (r : Request) (g : Nat) (d : Option Nat) (op : PortOp) (flips : LineFlips) (s u : State), s.settle = u →
    u.aa.grant = some op → op.requester = .demand → op.deliver = true →
    u.executing = some (r, .read, .outstanding g d) →
    let array := Memory.flipLine u.array op.segment op.line flips
    let word := fun w => Memory.read array (op.segment * 32768 + op.line * 8 + w)
    let ws := (List.range 8).filter fun w => r.address.toNat % 64 / 8 ≤ w && w < r.address.toNat % 64 / 8 + r.count
    let old := u.health op.segment
    let held := { u with aa := { u.aa with
      holdOff := if u.settings.holdOffLength = 0 then u.aa.holdOff else some (1000 * u.settings.holdOffLength) } }
    let offered := State.retireOffer op.segment held
    let ends := u.hm.cal.active = true ∧ u.hm.cal.baselineCount - 1 = 0
    ∃ t, exec (.demandReadComplete flips) s = .next t ∧
      ((∃ w ∈ ws, classify (word w) = .uncorrectable) →
        t.aa.holdOff = held.aa.holdOff ∧
        (old.tracked = true → ∃ reason, (t.health op.segment).state = .alarm reason) ∧
        (old.state ≠ .untracked → (∀ reason, old.state ≠ .alarm reason) →
          t.health op.segment = ⟨.alarm .uncorrectable, old.role, (t.health op.segment).raw, old.f, old.l, 0, .none, 0⟩ ∧
          t.alu.isSet .alarmEntered = true ∧ t.me = offered.me ∧ t.rc = offered.rc ∧
          (offered.alu.isSet .sparesExhausted = true → t.alu.isSet .sparesExhausted = true)) ∧
        (∀ left, old.state = .baseline left →
          t.hm.cal = { u.hm.cal with
            uncAlarms := u.hm.cal.uncAlarms + 1
            baselineCount := u.hm.cal.baselineCount - 1
            active := if ends then false else u.hm.cal.active } ∧
          (ends → t.alu.isSet .commandDone = true ∧ t.mp = { u.mp with
            lastOutcome := .ok, longOutcome := .ok, busy := false
            results := [BitVec.ofNat 16 u.hm.cal.calAlarms, BitVec.ofNat 16 u.hm.cal.returnedQuiet,
              BitVec.ofNat 16 (u.hm.cal.uncAlarms + 1), BitVec.ofNat 16 u.hm.cal.retired,
              BitVec.ofNat 16 u.hm.cal.taken, 0xFFFF, 0xFFFF, 0xFFFF] } ∧
            t.se.patrolTimer = if u.settings.patrolInterval = 0 then none else some u.settings.patrolInterval) ∧
          (¬ends → t.mp = u.mp ∧ t.se = u.se)) ∧
        ((∀ left, old.state ≠ .baseline left) → t.hm.cal = u.hm.cal ∧ t.mp = u.mp ∧ t.se = u.se) ∧
        t.alu.isSet .uncorrectableSeen = true) ∧
      ((∀ w ∈ ws, classify (word w) ≠ .uncorrectable) → t.aa.holdOff = u.aa.holdOff)

/-- DEMAND_MERGE_READ_COMPLETE: full words as given, partial words merged or poison by the class read, the lowest failed merge kept for the response, the LINE_WRITE held or raised. The partial words
read are counted and reported, a BASELINE record alarmed by one leaves the calibration, and none is offered for repair. That the hold-off stands as the retire offer is made is log entry 30 (DESIGN
CHOICE). -/
def Obligations.MergeReadFormsTheWrite : Prop :=
  ∀ (r : Request) (g : Nat) (d : Option Nat) (op : PortOp) (flips : LineFlips) (s u : State), s.settle = u →
    u.aa.grant = some op → op.requester = .demand → op.deliver = true →
    u.executing = some (r, .mergeRead, .outstanding g d) →
    let array := Memory.flipLine u.array op.segment op.line flips
    let word := fun w => Memory.read array (op.segment * 32768 + op.line * 8 + w)
    let ws := (List.range 8).filter fun w => (r.wordAt w).enables != 0 && (r.wordAt w).enables != 0xFF
    ∃ t store failed step, exec (.demandMergeReadComplete flips) s = .next t ∧
      t = { u with
        array := array
        lli := { u.lli with queue := u.lli.queue.map (Slot.executing r (.write store failed) step).replaceExec }
        aa := { u.aa with grant := none, holdOff := t.aa.holdOff }
        rc := t.rc, me := t.me, se := t.se, hm := t.hm, fcu := t.fcu, alu := t.alu, mp := t.mp } ∧
      (step = .held ↔ ∃ g', u.translate r.cls r.address = some g' ∧ u.underFill = some g') ∧
      (step = .held ∨ step = .raised) ∧
      (∀ w < 8,
        ((r.wordAt w).enables = 0xFF → store.getD w none = some (.data (r.wordAt w).data)) ∧
        ((r.wordAt w).enables = 0 → store.getD w none = none) ∧
        ((r.wordAt w).enables ≠ 0xFF → (r.wordAt w).enables ≠ 0 → badClass (word w) = none →
          ∃ m, store.getD w none = some (.data m) ∧
            ∀ k < 64, m.getLsbD k =
              if (r.wordAt w).enables.getLsbD (k / 8) then (r.wordAt w).data.getLsbD k
              else (deliveredData (word w)).getLsbD k) ∧
        ((r.wordAt w).enables ≠ 0xFF → (r.wordAt w).enables ≠ 0 → badClass (word w) ≠ none →
          store.getD w none = some .poison)) ∧
      (∀ w c, failed = some (w, c) ↔ w < 8 ∧ r.partialWord w = true ∧ badClass (word w) = some c ∧
        ∀ v < w, r.partialWord v = true → badClass (word v) = none) ∧
      CountsCorrected op.segment word ws u t ∧ HandlesUncorrectable op.segment word ws u t ∧
      CountsCalibration op.segment word ws u t ∧ CompletesCalibrate op.segment word ws u t ∧
      RechecksPatrol op.segment word ws u t ∧
      OffersRetirement op.segment word ws u t ∧
      ReportsLowest (fun k w => ⟨k, .demandMerge, some (⟨op.segment, op.line, w⟩, syndromeByte (word w)), some g,
        some (r.address, r.cls)⟩) word ws u t

/-- DEMAND_WRITE_COMPLETE: the words reach the array; where a dual write is due it is issued at once, and otherwise the response is formed and the port is FREE. DUAL_WRITE_COMPLETE: the words
reach the target, the response is formed and the port is FREE. -/
def Obligations.WritesAreCarriedToTheTarget : Prop :=
  ∀ (r : Request) (store : LineStore) (failed : Option (Nat × BadClass)) (g : Nat) (d : Option Nat) (op : PortOp)
    (ws : List (Option StoredWord)) (s u : State), s.settle = u →
    u.aa.grant = some op → op.requester = .demand → op.deliver = true → op.write = some ws →
    let array := Memory.storeLine u.array op.segment op.line ws
    let body := match failed with
      | none => .okayWrite
      | some (w, c) => .fault w c
    let done := Host.Outcome.next { u with
      array := array
      lli := { u.lli with queue := u.lli.queue.map (Slot.answered ⟨r.tag, body⟩).replaceExec }
      aa := { u.aa with grant := none } }
    (u.executing = some (r, .write store failed, .outstanding g d) → d = none → exec .demandWriteComplete s = done) ∧
    (∀ t, u.executing = some (r, .write store failed, .outstanding g d) → d = some t →
      (∀ i e, u.copying = some (i, e) → e.target ≠ t) → exec .demandWriteComplete s = done) ∧
    (∀ t i e, u.executing = some (r, .write store failed, .outstanding g d) → d = some t → u.copying = some (i, e) →
      e.target = t → ∃ v words, exec .demandWriteComplete s = .next v ∧
        words = store.map (fun x => x.map StoreWord.encode) ∧
        v = { u with
          array := array
          lli := { u.lli with
            queue := u.lli.queue.map (Slot.executing r (.dual failed) (.outstanding g none)).replaceExec }
          ru := v.ru
          aa := { u.aa with grant := some ⟨.demand, t, op.line, some words, true⟩ } } ∧
        v.ru.record = u.ru.record ∧
        v.ru.queue = u.ru.queue.filter fun e =>
          !(e.addr.segment == t && e.addr.line == op.line && (words.getD e.addr.word none).isSome)) ∧
    (u.executing = some (r, .dual failed, .outstanding g d) → exec .dualWriteComplete s = done)

/-! ## Completions of background operations -/

/-- REPAIR_WRITE_COMPLETE: the word reaches the array, its entry leaves the queue if it is still there, and the record is cleared. DISCARDED_COMPLETION: a LINE_WRITE reaches the array as issued,
a LINE_READ changes nothing, and the port is FREE. -/
def Obligations.RepairsAndDiscardedOperationsComplete : Prop :=
  ∀ (op : PortOp) (s u : State), s.settle = u → u.aa.grant = some op →
    (∀ ws, op.requester = .repair → op.deliver = true → op.write = some ws →
      exec .repairWriteComplete s = .next { u with
        array := Memory.storeLine u.array op.segment op.line ws
        ru := ⟨u.ru.queue.filter fun e => some e.addr != u.ru.record, none⟩
        aa := { u.aa with grant := none } }) ∧
    (∀ ws, op.deliver = false → op.write = some ws → exec .discardedCompletion s = .next { u with
      array := Memory.storeLine u.array op.segment op.line ws
      aa := { u.aa with grant := none } }) ∧
    (op.deliver = false → op.write = none →
      exec .discardedCompletion s = .next { u with aa := { u.aa with grant := none } })

/-- PATROL_READ_COMPLETE: a line of an eligible segment has its words counted, offered for repair and reported, and moves the cursor to the next line, or from line 4095 to the next eligible
segment; the read of a segment no longer eligible makes no count, offer or report, and the cursor moves on likewise. A FILL or VERIFY that waited for the read then starts. That the cursor comes to
line 0 of the read's own segment when none is eligible is log entry 18 (DEDUCED); that the hold-off stands as a word's retire offer is made is log entry 30 (DESIGN CHOICE). A BASELINE record alarmed
by a word leaves the calibration. -/
def Obligations.PatrolReadAdvancesTheCursor : Prop :=
  ∀ (op : PortOp) (flips : LineFlips) (s u : State), s.settle = u → u.aa.grant = some op → op.requester = .sweep →
    op.deliver = true → u.se.patrolPending = .outstanding →
    let array := Memory.flipLine u.array op.segment op.line flips
    let word := fun w => Memory.read array (op.segment * 32768 + op.line * 8 + w)
    let ws := List.range 8
    let clean := ∀ w < 8, classify (word w) = .clean
    let moved := fun p n => Host.Outcome.next { u with
      array := array
      se := { u.se with patrolPending := .none, cursorSegment := p, cursorLine := n }
      aa := { u.aa with grant := none } }
    let eligible := (u.seg op.segment).role = .inUse ∧ (u.seg op.segment).filled = true
    let beyond := (u.nextEligible op.segment).getD op.segment
    (u.se.mode = .patrol → eligible → clean → op.line < 4095 →
      exec (.patrolReadComplete flips) s = moved op.segment (op.line + 1)) ∧
    (u.se.mode = .patrol → eligible → clean → 4095 ≤ op.line → exec (.patrolReadComplete flips) s = moved beyond 0) ∧
    (u.se.mode = .patrol → ¬eligible → exec (.patrolReadComplete flips) s = moved beyond 0) ∧
    ∃ t, exec (.patrolReadComplete flips) s = .next t ∧
      t = { u with
        array := array
        aa := { u.aa with grant := none, holdOff := t.aa.holdOff }
        se := { u.se with
          mode := t.se.mode, cursorSegment := t.se.cursorSegment, cursorLine := t.se.cursorLine, patrolPending := .none
          patrolTimer := t.se.patrolTimer }
        lli := t.lli, rc := t.rc, me := t.me, ru := t.ru, hm := t.hm, fcu := t.fcu, alu := t.alu, mp := t.mp } ∧
      (eligible → op.line < 4095 → t.se.cursorSegment = op.segment ∧ t.se.cursorLine = op.line + 1) ∧
      (¬eligible ∨ 4095 ≤ op.line → t.se.cursorSegment = beyond ∧ t.se.cursorLine = 0) ∧
      (¬eligible → t.rc = u.rc ∧ t.me = u.me ∧ t.ru = u.ru ∧ t.hm = u.hm ∧ t.fcu = u.fcu ∧ t.alu = u.alu ∧ t.mp = u.mp ∧
        t.aa.holdOff = u.aa.holdOff ∧ t.se.patrolTimer = u.se.patrolTimer) ∧
      t.hm.epochTimer = u.hm.epochTimer ∧
      (eligible → CountsCorrected op.segment word ws u t ∧ HandlesUncorrectable op.segment word ws u t ∧
        CountsCalibration op.segment word ws u t ∧ CompletesCalibrate op.segment word ws u t ∧
        OffersRetirement op.segment word ws u t ∧ OffersInOrder op.segment op.line word ws u t ∧
        ReportsLowest (fun k w => ⟨k, .patrol, some (⟨op.segment, op.line, w⟩, syndromeByte (word w)),
          u.logicalOf op.segment, none⟩) word ws u t) ∧
      (u.se.mode = .patrol → t.se.mode = .patrol ∧ t.lli = u.lli) ∧
      (∀ run, u.se.mode = .fill run → run.pos = none → HoldRetested (some run.first) u t ∧
        t.se.mode = .fill { run with pos := some ⟨run.first, u.physOf run.first, 0⟩, step := .raised }) ∧
      (∀ run, u.se.mode = .verify run → run.step = .none →
        t.lli = u.lli ∧ t.se.mode = .verify { run with step := .raised })

/-- FILL_WRITE_COMPLETE: the next line's write is raised; at line 4095 the segment is filled with a fresh QUIET record, and the FILL goes on with the next segment or completes OK with its count. The
demand operation that the fill hold keeps is tested again as the segment under fill changes or is cleared. -/
def Obligations.FillAdvancesAndCompletes : Prop :=
  ∀ (op : PortOp) (ws : List (Option StoredWord)) (run : SweepRun) (pos : SweepPos) (s u : State), s.settle = u →
    u.aa.grant = some op → op.requester = .sweep → op.deliver = true → op.write = some ws → u.se.mode = .fill run →
    run.pos = some pos → run.step = .outstanding →
    let array := Memory.storeLine u.array op.segment op.line ws
    (pos.line < 4095 → exec .fillWriteComplete s = .next { u with
      array := array
      se := { u.se with mode := .fill { run with pos := some { pos with line := pos.line + 1 }, step := .raised } }
      aa := { u.aa with grant := none } }) ∧
    (4095 ≤ pos.line → ∃ t, exec .fillWriteComplete s = .next t ∧
      t = { u with
        array := array
        aa := { u.aa with grant := none }
        rc := t.rc, hm := t.hm, se := t.se, mp := t.mp, alu := t.alu, lli := t.lli } ∧
      t.rc = { u.rc with segs := u.rc.segs.set pos.physical ⟨(u.seg pos.physical).role, true⟩ } ∧
      t.hm = { u.hm with
        table := u.hm.table.set pos.physical ⟨.quiet, (u.health pos.physical).role, 0, 0, 0, 0, .none, 0⟩ } ∧
      (pos.logical = run.last → t.se = { u.se with mode := .patrol } ∧ HoldRetested none u t ∧
        t.mp = { u.mp with
          lastOutcome := .ok
          longOutcome := .ok
          busy := false
          results := BitVec.ofNat 16 (run.count + 1) :: List.replicate 7 0xFFFF } ∧
        t.alu = { u.alu with causes := u.alu.causes ||| 0x800 }) ∧
      (pos.logical ≠ run.last → t.mp = u.mp ∧ t.alu = u.alu ∧ HoldRetested (some (pos.logical + 1)) u t ∧ t.se = { u.se with
        mode := .fill ⟨run.first, run.last, run.count + 1,
          some ⟨pos.logical + 1, u.physOf (pos.logical + 1), 0⟩, .raised⟩ }))

/-- VERIFY_SWEEP_READ_COMPLETE: the line's words are counted, offered for repair and reported; a word that cannot be delivered stops the command with the results of R103; otherwise the position
moves on, with the CORRECTED words in the total, and past the last line the command completes OK. The physical segment put in the position as it enters the next segment is log entry 17 (DEDUCED);
that the hold-off stands as a word's retire offer is made is log entry 30 (DESIGN CHOICE). -/
def Obligations.VerifyStopsOrGoesOn : Prop :=
  ∀ (op : PortOp) (flips : LineFlips) (run : SweepRun) (pos : SweepPos) (s u : State), s.settle = u →
    u.aa.grant = some op → op.requester = .sweep → op.deliver = true → u.se.mode = .verify run → run.pos = some pos →
    run.step = .outstanding →
    let array := Memory.flipLine u.array op.segment op.line flips
    let word := fun w => Memory.read array (op.segment * 32768 + op.line * 8 + w)
    let ws := List.range 8
    let total := run.count + ((List.range 8).filter fun w => classify (word w) == .corrected).length
    let delivers := ∀ w < 8, badClass (word w) = none
    ((∀ w < 8, classify (word w) = .clean) →
      (pos.line < 4095 → exec (.verifySweepReadComplete flips) s = .next { u with
        array := array
        se := { u.se with mode := .verify { run with pos := some { pos with line := pos.line + 1 }, step := .raised } }
        aa := { u.aa with grant := none } }) ∧
      (4095 ≤ pos.line → pos.logical ≠ run.last → exec (.verifySweepReadComplete flips) s = .next { u with
        array := array
        se := { u.se with mode := .verify { run with
          pos := some ⟨pos.logical + 1, u.physOf (pos.logical + 1), 0⟩, step := .raised } }
        aa := { u.aa with grant := none } }) ∧
      (4095 ≤ pos.line → pos.logical = run.last → exec (.verifySweepReadComplete flips) s = .next { u with
        array := array
        se := { u.se with mode := .patrol }
        mp := { u.mp with
          lastOutcome := .ok
          longOutcome := .ok
          busy := false
          results := [0xFFFF, 0xFFFF, 0xFFFF, 0xFFFF, 0xFFFF, BitVec.ofNat 16 run.count,
            BitVec.ofNat 16 (run.count / 65536), 0xFFFF] }
        alu := { u.alu with causes := u.alu.causes ||| 0x800 }
        aa := { u.aa with grant := none } })) ∧
    ∃ t, exec (.verifySweepReadComplete flips) s = .next t ∧
      t = { u with
        array := array
        aa := { u.aa with grant := none, holdOff := t.aa.holdOff }
        rc := t.rc, me := t.me, se := t.se, ru := t.ru, hm := t.hm, fcu := t.fcu, alu := t.alu, mp := t.mp } ∧
      CountsCorrected op.segment word ws u t ∧ HandlesUncorrectable op.segment word ws u t ∧
      CountsCalibration op.segment word ws u t ∧
      OffersRetirement op.segment word ws u t ∧ OffersInOrder op.segment op.line word ws u t ∧
      ReportsLowest (fun k w => ⟨k, .verify, some (⟨op.segment, op.line, w⟩, syndromeByte (word w)),
        u.logicalOf op.segment, none⟩) word ws u t ∧
      (∀ w < 8, ∀ c, badClass (word w) = some c → (∀ v < w, badClass (word v) = none) →
        t.se = { u.se with
          mode := .patrol, patrolTimer := t.se.patrolTimer, patrolPending := t.se.patrolPending } ∧
        t.alu.isSet .commandDone = true ∧ t.mp = { u.mp with
          lastOutcome := .uncorrectable
          longOutcome := .uncorrectable
          busy := false
          results := [BitVec.ofNat 16 pos.logical, BitVec.ofNat 16 op.segment, BitVec.ofNat 16 op.line,
            BitVec.ofNat 16 (w + 256 * (if c = .uncorrectable then 1 else 2)), BitVec.ofNat 16 (run.last + 1 - pos.logical),
            BitVec.ofNat 16 total, BitVec.ofNat 16 (total / 65536), 0xFFFF] }) ∧
      (delivers → pos.line < 4095 → t.mp = u.mp ∧ t.se = { u.se with mode := .verify { run with
        count := total, pos := some { pos with line := pos.line + 1 }, step := .raised } }) ∧
      (delivers → 4095 ≤ pos.line → pos.logical ≠ run.last → t.mp = u.mp ∧ t.se = { u.se with mode := .verify { run with
        count := total, pos := some ⟨pos.logical + 1, u.physOf (pos.logical + 1), 0⟩, step := .raised } }) ∧
      (delivers → 4095 ≤ pos.line → pos.logical = run.last → t.alu.isSet .commandDone = true ∧
        t.se = { u.se with mode := .patrol } ∧ t.mp = { u.mp with
          lastOutcome := .ok
          longOutcome := .ok
          busy := false
          results := [0xFFFF, 0xFFFF, 0xFFFF, 0xFFFF, 0xFFFF, BitVec.ofNat 16 total, BitVec.ofNat 16 (total / 65536),
            0xFFFF] })

/-- COPY_READ_COMPLETE and COPY_WRITE_COMPLETE in the line loop: the line buffer holds each word as delivered or poison, then the written line is to be read back. The source's words are counted, an
UNCORRECTABLE one starts the hold-off and alarms the segment, whose BASELINE record leaves the calibration, and the lowest of these alone is reported; none is offered for repair. -/
def Obligations.CopyFollowsTheLineLoop : Prop :=
  ∀ (op : PortOp) (s u : State), s.settle = u → u.aa.grant = some op → op.requester = .migration → op.deliver = true →
    (∀ flips i e redo, u.copying = some (i, e) → u.me.state = .copyRead redo →
      let array := Memory.flipLine u.array op.segment op.line flips
      let word := fun w => Memory.read array (op.segment * 32768 + op.line * 8 + w)
      let ws := List.range 8
      let moved := (∃ w < 8, classify (word w) = .uncorrectable) ∧ (u.health op.segment).state ≠ .untracked ∧
        ∀ reason, (u.health op.segment).state ≠ .alarm reason
      ∃ t buffer, exec (.copyReadComplete flips) s = .next t ∧
        t = { u with
          array := array
          aa := { u.aa with grant := none, holdOff := t.aa.holdOff }
          me := t.me, se := t.se, hm := t.hm, fcu := t.fcu, alu := t.alu, mp := t.mp } ∧
        (¬moved → t.me = { u.me with state := .copyWrite buffer redo, step := .raised }) ∧
        (moved → t.me = { (State.retireOffer op.segment u).me with state := .copyWrite buffer redo, step := .raised }) ∧
        buffer.length = 8 ∧
        (∀ w < 8, buffer[w]? = some (if badClass (word w) = none then .data (deliveredData (word w)) else .poison)) ∧
        CountsCorrected op.segment word ws u t ∧ HandlesUncorrectable op.segment word ws u t ∧
        CountsCalibration op.segment word ws u t ∧ CompletesCalibrate op.segment word ws u t ∧
        RechecksPatrol op.segment word ws u t ∧
        (∀ w < 8, classify (word w) = .uncorrectable → (∀ v < w, classify (word v) ≠ .uncorrectable) →
          t.fcu = u.fcu.report ⟨.uncorrectable, .migrationCopy, some (⟨op.segment, op.line, w⟩, syndromeByte (word w)),
            some e.logical, none⟩ ∧ t.alu.isSet .uncorrectableSeen = true) ∧
        ((∀ w < 8, classify (word w) ≠ .uncorrectable) → t.fcu = u.fcu)) ∧
    (∀ ws b redo, op.write = some ws → u.me.state = .copyWrite b redo →
      exec .copyWriteComplete s = .next { u with
        array := Memory.storeLine u.array op.segment op.line ws
        me := { u.me with state := .verifyRead b redo, step := .raised }
        aa := { u.aa with grant := none } })

/-- VERIFY_READ_COMPLETE of a line that passes (a poison word reads POISON, every other word CLEAN): copied again under a redo mark, and otherwise the cursor and the poisoned count advance. -/
def Obligations.VerifiedLineAdvancesTheCursor : Prop :=
  ∀ (op : PortOp) (flips : LineFlips) (i : Nat) (e : CopyingEntry) (b : List StoreWord) (redo : Bool) (s u : State),
    s.settle = u → u.aa.grant = some op → op.requester = .migration → op.deliver = true → u.copying = some (i, e) →
    u.me.state = .verifyRead b redo → b.length = 8 →
    let array := Memory.flipLine u.array op.segment op.line flips
    (∀ w < 8, classify (Memory.read array (op.segment * 32768 + op.line * 8 + w)) =
      if b[w]? = some .poison then .poison else .clean) →
    (redo = true → exec (.verifyReadComplete flips) s = .next { u with
      array := array
      me := { u.me with state := .copyRead false, step := .raised }
      aa := { u.aa with grant := none } }) ∧
    (redo = false → e.cursor < 4095 → exec (.verifyReadComplete flips) s = .next { u with
      array := array
      rc := { u.rc with remap := u.rc.remap.set i (.copying { e with
        cursor := e.cursor + 1
        poisoned := e.poisoned + (b.filter fun x => x == .poison).length }) }
      me := { u.me with state := .copyRead false, step := .raised }
      aa := { u.aa with grant := none } })

/-- VERIFY_READ_COMPLETE of the last line: the commit of R23 and R162. An old current in BASELINE leaves the calibration as retired, and as the last one it completes the CALIBRATE; a patrol read
raised for a segment no longer eligible is withdrawn. -/
def Obligations.CommitMovesTheSegment : Prop :=
  ∀ (op : PortOp) (flips : LineFlips) (i : Nat) (e : CopyingEntry) (b : List StoreWord) (s u : State),
    s.settle = u → u.aa.grant = some op → op.requester = .migration → op.deliver = true → u.copying = some (i, e) →
    u.me.state = .verifyRead b false → b.length = 8 → 4095 ≤ e.cursor → e.current ≠ e.target →
    e.current < u.rc.segs.length → e.target < u.rc.segs.length → e.target < u.hm.table.length →
    e.current < u.hm.table.length →
    let array := Memory.flipLine u.array op.segment op.line flips
    (∀ w < 8, classify (Memory.read array (op.segment * 32768 + op.line * 8 + w)) =
      if b[w]? = some .poison then .poison else .clean) →
    let leaves := ∃ left, (u.health e.current).state = .baseline left
    let last := u.hm.cal.active = true ∧ u.hm.cal.baselineCount - 1 = 0
    ∃ t, exec (.verifyReadComplete flips) s = .next t ∧
      t = { u with
        array := array
        aa := { u.aa with grant := none }
        rc := { u.rc with segs := t.rc.segs, remap := t.rc.remap }
        me := t.me, se := t.se, ru := t.ru, hm := t.hm, alu := t.alu, mp := t.mp } ∧
      t.rc.remap = u.rc.remap.set i (.active ⟨e.logical, e.target, e.origin,
        e.poisoned + (b.filter fun x => x == .poison).length, e.restarts⟩) ∧
      t.seg e.current = ⟨.retired, (u.seg e.current).filled⟩ ∧ t.seg e.target = ⟨.inUse, true⟩ ∧
      (∀ p, p ≠ e.current → p ≠ e.target → t.seg p = u.seg p ∧ t.health p = u.health p) ∧
      t.health e.current = ⟨.untracked, (u.health e.current).role, 0, 0, 0, 0, .none, 0⟩ ∧
      t.health e.target = ⟨.quiet, (u.health e.target).role, 0, 0, 0, 0, .none, 0⟩ ∧
      t.ru.queue = u.ru.queue.filter (fun x => x.addr.segment != e.current) ∧ t.ru.record = u.ru.record ∧
      t.me = { u.me with state := .idle, step := .none } ∧ t.alu.isSet .migrationDone = true ∧
      (∀ c : Cause, c ≠ .migrationDone → c ≠ .commandDone → t.alu.isSet c = u.alu.isSet c) ∧
      t.rc.segs.length = u.rc.segs.length ∧ t.hm.table.length = u.hm.table.length ∧
      t.hm.epochTimer = u.hm.epochTimer ∧ PatrolRechecked u t ∧
      (¬leaves → t.hm.cal = u.hm.cal) ∧
      (leaves → t.hm.cal = { u.hm.cal with
        retired := u.hm.cal.retired + 1
        baselineCount := u.hm.cal.baselineCount - 1
        active := if last then false else u.hm.cal.active }) ∧
      (leaves → last → t.alu.isSet .commandDone = true ∧
        t.se.patrolTimer = (if u.settings.patrolInterval = 0 then none else some u.settings.patrolInterval) ∧
        t.mp = { u.mp with
          lastOutcome := .ok, longOutcome := .ok, busy := false
          results := [BitVec.ofNat 16 u.hm.cal.calAlarms, BitVec.ofNat 16 u.hm.cal.returnedQuiet,
            BitVec.ofNat 16 u.hm.cal.uncAlarms, BitVec.ofNat 16 (u.hm.cal.retired + 1),
            BitVec.ofNat 16 u.hm.cal.taken, 0xFFFF, 0xFFFF, 0xFFFF] }) ∧
      (¬(leaves ∧ last) → t.alu.isSet .commandDone = u.alu.isSet .commandDone ∧ t.mp = u.mp ∧
        t.se.patrolTimer = u.se.patrolTimer)

/-- VERIFY_READ_COMPLETE of a line in which a word fails: one fault report by R160, the target becomes SPARE_BAD, and the copy starts again on the lowest-numbered SPARE_FREE segment; with none left
the migration is reverted, with MIGRATION_FAILED and SPARES_EXHAUSTED set. The source is not touched: every record but the target's and the new spare's stays as it was. -/
def Obligations.FailedTargetIsAbandoned : Prop :=
  ∀ (op : PortOp) (flips : LineFlips) (i : Nat) (e : CopyingEntry) (b : List StoreWord) (redo : Bool) (s u : State),
    s.settle = u → u.aa.grant = some op → op.requester = .migration → op.deliver = true → u.copying = some (i, e) →
    u.me.state = .verifyRead b redo → b.length = 8 → (u.seg e.target).role = .spareBound →
    let array := Memory.flipLine u.array op.segment op.line flips
    let word := fun w => Memory.read array (op.segment * 32768 + op.line * 8 + w)
    let fails := fun w => classify (word w) ≠ if b[w]? = some .poison then .poison else .clean
    let named := fun w (k : FaultKind) (syn : Byte) => fails w ∧
      (classify (word w) = .uncorrectable ∧ k = .uncorrectable ∧ syn = syndromeByte (word w) ∨
        classify (word w) = .poison ∧ k = .poison ∧ syn = syndromeByte (word w) ∨
        classify (word w) = .clean ∧ k = .uncorrectable ∧ syn = 0)
    let report := fun w k syn => u.fcu.report ⟨k, .migrationVerify, some (⟨op.segment, op.line, w⟩, syn), none, none⟩
    (∃ w < 8, fails w) →
    ∃ t, exec (.verifyReadComplete flips) s = .next t ∧
      t = { u with array := array, aa := { u.aa with grant := none }, rc := t.rc, me := t.me, fcu := t.fcu, alu := t.alu } ∧
      t.seg e.target = ⟨.spareBad, (u.seg e.target).filled⟩ ∧
      (∀ p, p ≠ e.target → u.lowestSpare ≠ some p → t.seg p = u.seg p) ∧
      (∀ n, u.lowestSpare = some n →
        t.seg n = ⟨.spareBound, (u.seg n).filled⟩ ∧
        t.rc.remap = u.rc.remap.set i (.copying { e with
          target := n, cursor := 0, poisoned := 0, restarts := e.restarts + 1 }) ∧
        t.me = { u.me with state := .copyRead false, step := .raised }) ∧
      (u.lowestSpare = none →
        t.rc.remap = u.rc.remap.set i (if e.previous = .free then .free
          else .active ⟨e.logical, e.current, e.origin, e.poisoned, e.restarts + 1⟩) ∧
        t.me = { u.me with state := .idle, step := .none } ∧
        t.alu.isSet .migrationFailed = true ∧ t.alu.isSet .sparesExhausted = true) ∧
      (∀ w < 8, ∀ k syn, named w k syn → (∀ v < w, ∀ k' syn', ¬named v k' syn') →
        t.fcu = report w k syn ∧ t.alu.isSet .uncorrectableSeen = true) ∧
      ((∀ w < 8, ∀ k syn, ¬named w k syn) → ∀ w < 8, fails w → (∀ v < w, ¬fails v) →
        (u.settings.captureCorrected = true → t.fcu = report w .corrected (syndromeByte (word w)) ∧
          (u.fcu.record = none → t.alu.isSet .correctedCaptured = true)) ∧
        (u.settings.captureCorrected = false → t.fcu = u.fcu))

/-! ## Timers and the engines' own events -/

/-- PATROL_TICK, whatever time of the timer remains (log entry 7, DESIGN CHOICE): with the timer running it restarts with the pace; a tick while the patrol is not active or a read is pending is
lost, and otherwise a read of the cursor's segment, or of line 0 of the next eligible one, is raised. -/
def Obligations.PatrolTickRaisesARead : Prop :=
  ∀ (n : Nat) (s u : State), s.settle = u → u.se.patrolTimer = some n →
    let timer := if u.pace = 0 then none else some u.pace
    let lost := Host.Outcome.next { u with se := { u.se with patrolTimer := timer } }
    let raised := fun p l => Host.Outcome.next { u with se := { u.se with
      cursorSegment := p, cursorLine := l, patrolPending := .raised, patrolTimer := timer } }
    let active := u.mode = .online ∧ u.se.mode = .patrol ∧ u.me.quiesced = false ∧ u.pace ≠ 0
    let eligible := fun p => (u.seg p).role = .inUse ∧ (u.seg p).filled = true
    (¬active → exec .patrolTick s = lost) ∧
    (u.se.patrolPending ≠ .none → exec .patrolTick s = lost) ∧
    (active → u.se.patrolPending = .none → eligible u.se.cursorSegment →
      exec .patrolTick s = raised u.se.cursorSegment u.se.cursorLine) ∧
    (∀ p, active → u.se.patrolPending = .none → ¬eligible u.se.cursorSegment → p < u.rc.segs.length → eligible p →
      u.se.cursorSegment < p → (∀ q, u.se.cursorSegment < q → q < p → ¬eligible q) →
      exec .patrolTick s = raised p 0) ∧
    (∀ p, active → u.se.patrolPending = .none → ¬eligible u.se.cursorSegment → eligible p →
      (∀ q, u.se.cursorSegment < q → ¬eligible q) → (∀ q < p, ¬eligible q) → exec .patrolTick s = raised p 0) ∧
    (active → u.se.patrolPending = .none → (∀ p, ¬eligible p) → exec .patrolTick s = lost)

/-- EPOCH_END, whatever time of the timer remains (log entry 7, DESIGN CHOICE): every raw count becomes 0 and each record becomes what R112 to R123, R139 and R140 give it by its state; the causes of
the entries are set, the records that end in ALARM make their retire offers in the order of the pass, a CALIBRATE whose last record leaves BASELINE completes, and the timer restarts. A retire offer
follows R125's table, an entry appended having the start test made at once. -/
def Obligations.EpochEndFiltersEveryRecord : Prop :=
  (∀ (n : Nat) (s u : State), s.settle = u → u.hm.epochTimer = some n → ∃ t, exec .epochEnd s = .next t ∧
    t = { u with hm := t.hm, me := t.me, rc := t.rc, alu := t.alu, se := t.se, mp := t.mp } ∧
    t.hm.table.length = u.hm.table.length ∧ t.hm.epochTimer = some (1000 * 2 ^ u.settings.epochExp) ∧
    let st := u.settings
    let clamp := fun (x : Int) => (max 0 (min 4095 x)).toNat
    let F := fun p => clamp ((u.health p).f + Int.tdiv (16 * (u.health p).raw - (u.health p).f) (2 ^ st.betaF))
    let counted := fun p (k : RunKind) => if (u.health p).runKind = k then min 15 ((u.health p).runCount + 1) else 1
    (∀ p < u.hm.table.length,
      let old := u.health p
      let new := t.health p
      new.raw = 0 ∧ new.role = old.role ∧ (old.state = .untracked → new = { old with raw := 0 }) ∧
      (old.state = .quiet →
        let d : Int := F p - old.l
        let L := clamp (old.l + Int.tdiv d (2 ^ (if d.natAbs ≤ st.band then st.betaL else st.betaFast)))
        let hit := (st.watchThreshold : Int) ≤ d
        let run := if hit then counted p .watch else 0
        (st.watchDebounce ≤ run → new = ⟨.watch (F p) none, old.role, 0, F p, L, 0, .none, 0⟩) ∧
        (run < st.watchDebounce →
          new = ⟨.quiet, old.role, 0, F p, L, run, if hit then .watch else .none, old.settle⟩)) ∧
      (∀ left, old.state = .baseline left →
        (1 < left → new = ⟨.baseline (left - 1), old.role, 0, F p, F p, old.runCount, old.runKind, old.settle⟩) ∧
        (left ≤ 1 → st.calBoundary < F p → new = ⟨.alarm .calibration, old.role, 0, F p, F p, 0, .none, 0⟩) ∧
        (left ≤ 1 → F p ≤ st.calBoundary → new = ⟨.quiet, old.role, 0, F p, F p, 0, .none, 0⟩)) ∧
      (∀ a snap, old.state = .watch a snap →
        let change := fun (x : Nat) =>
          if x < u.hm.table.length ∧ (u.health x).role = .reference then
            match (u.health x).state with
            | .quiet => ((t.health x).l : Int) - (u.health x).l
            | .baseline _ => ((t.health x).l : Int) - (u.health x).l
            | _ => 0
          else 0
        let comp := match old.role with
          | .follower ref weight => Int.tdiv (change ref * weight) 4096
          | .independent => 0
          | .reference => 0
        let L := clamp (old.l + comp)
        let a' := clamp (a + Int.tdiv (F p - a) (2 ^ st.betaA))
        let settle := if ((F p : Int) - a').natAbs < st.settleThreshold then min 255 (old.settle + 1) else 0
        let d : Int := F p - L
        let snap' : Option Nat := match snap with
          | some v => some v
          | none => if st.settleEpochs ≤ settle then some (clamp d) else none
        let alarmHit := (st.alarmThreshold : Int) ≤ d
        let exitHit := d < (st.watchThreshold : Int) - st.hysteresis
        let alarms := alarmHit ∧ st.alarmDebounce ≤ counted p .alarm
        let releases := ∃ v, snap' = some v ∧ Int.tdiv ((v : Int) * st.releasePct) 128 < (a' : Int) - F p
        let exits := ¬alarmHit ∧ exitHit ∧ st.exitDebounce ≤ counted p .exit
        (alarms → new = ⟨.alarm .threshold, old.role, 0, F p, L, 0, .none, 0⟩) ∧
        (¬alarms → releases → new = ⟨.quiet, old.role, 0, F p, F p, 0, .none, 0⟩) ∧
        (¬alarms → ¬releases → exits → new = ⟨.quiet, old.role, 0, F p, L, 0, .none, 0⟩) ∧
        (¬alarms → ¬releases → ¬exits → new = ⟨.watch a' snap', old.role, 0, F p, L,
          if alarmHit then counted p .alarm else if exitHit then counted p .exit else 0,
          if alarmHit then .alarm else if exitHit then .exit else .none, settle⟩)) ∧
      (∀ reason, old.state = .alarm reason → new = { old with raw := 0, f := F p })) ∧
    (let ps := List.range u.hm.table.length
     let order := (ps.filter fun p => (u.health p).role == .reference) ++ ps.filter fun p => (u.health p).role != .reference
     let alarmed := order.filter fun p => match (t.health p).state with
       | .alarm _ => true
       | _ => false
     let offered := alarmed.foldl (fun x p => State.retireOffer p x) u
     let leaving := ps.filter fun p => match (u.health p).state with
       | .baseline left => left ≤ 1
       | _ => false
     let failing := (leaving.filter fun p => st.calBoundary < F p).length
     let cal := { u.hm.cal with
       calAlarms := u.hm.cal.calAlarms + failing
       returnedQuiet := u.hm.cal.returnedQuiet + (leaving.length - failing)
       baselineCount := u.hm.cal.baselineCount - leaving.length }
     let ends := cal.active = true ∧ cal.baselineCount = 0
     let entered := fun (f : HealthState → Prop) (g : HealthState → Prop) =>
       ∃ p < u.hm.table.length, f (u.health p).state ∧ g (t.health p).state
     t.me = offered.me ∧ t.rc = offered.rc ∧
     (∀ c : Cause, t.alu.isSet c = true ↔ u.alu.isSet c = true ∨
       c = .watchEntered ∧ entered (fun x => x = .quiet) (fun x => ∃ a snap, x = .watch a snap) ∨
       c = .alarmEntered ∧ entered (fun x => ∃ a snap, x = .watch a snap) (fun x => x = .alarm .threshold) ∨
       c = .calError ∧ entered (fun x => ∃ left, x = .baseline left) (fun x => x = .alarm .calibration) ∨
       c = .sparesExhausted ∧ offered.alu.isSet .sparesExhausted = true ∨
       c = .commandDone ∧ ends) ∧
     t.alu.enables = u.alu.enables ∧ t.alu.master = u.alu.master ∧
     (¬ends → t.hm.cal = cal ∧ t.mp = u.mp ∧ t.se = u.se) ∧
     (ends → t.hm.cal = { cal with active := false } ∧
       t.mp = { u.mp with
         lastOutcome := .ok, longOutcome := .ok, busy := false
         results := [BitVec.ofNat 16 cal.calAlarms, BitVec.ofNat 16 cal.returnedQuiet, BitVec.ofNat 16 cal.uncAlarms,
           BitVec.ofNat 16 cal.retired, BitVec.ofNat 16 cal.taken, 0xFFFF, 0xFFFF, 0xFFFF] } ∧
       PatrolRechecked u t ∧
       t.se.patrolTimer = if st.patrolInterval = 0 then none else some st.patrolInterval))) ∧
  ∀ (p : Nat) (s t : State), State.retireOffer p s = t →
    (s.logicalOf p = none → t = s) ∧
    ∀ g, s.logicalOf p = some g →
      let claimed := (∃ x ∈ s.me.queue, x.logical = g) ∨
        ∃ i e, s.entryIndex g = some i ∧ s.rc.remap[i]? = some (RemapEntry.copying e)
      let spare := ∃ x ∈ s.rc.segs, x.role = .spareFree
      (s.settings.autoRetire = false → t = s) ∧
      (s.settings.autoRetire = true → claimed → t = s) ∧
      (s.settings.autoRetire = true → ¬claimed → ¬spare →
        t = { s with alu := { s.alu with causes := s.alu.causes ||| 0x004 } }) ∧
      (s.settings.autoRetire = true → ¬claimed → spare → 8 ≤ s.me.queue.length → t = s) ∧
      (s.settings.autoRetire = true → ¬claimed → spare → s.me.queue.length < 8 →
        exec .migrationStart { s with me := { s.me with queue := s.me.queue ++ [⟨g, .auto⟩] } } = .next t)

/-- MIGRATION_START: with R150's conditions met and a spare left, the head's entry becomes COPYING onto the lowest-numbered spare and the ME raises the copy read of line 0; with no spare left
the head is dropped; with a condition failing nothing changes. -/
def Obligations.MigrationStartTakesTheHead : Prop :=
  ∀ (h : RetireEntry) (rest : List RetireEntry) (s : State), s.me.queue = h :: rest →
    let may := s.mode = .online ∧ s.me.state = .idle ∧ s.me.quiesced = false ∧ s.aa.holdOff = none
    let origin := match h.origin with
      | .auto => RemapOrigin.auto
      | .manual => RemapOrigin.manual
    (¬may → exec .migrationStart s = .next s) ∧
    (s.inRemainingFill h.logical = true → exec .migrationStart s = .next s) ∧
    (∀ n i c, may → s.inRemainingFill h.logical = false → s.lowestSpare = some n →
      (∃ a, s.entryIndex h.logical = some i ∧ s.rc.remap[i]? = some (.active a) ∧ c = a.current ∨
        s.entryIndex h.logical = none ∧ s.rc.remap.findIdx? (fun x => x == .free) = some i ∧ c = h.logical) →
      exec .migrationStart s = .next { s with
        me := { s.me with queue := rest, state := .copyRead false, step := .raised }
        rc := { s.rc with
          segs := s.rc.segs.set n ⟨.spareBound, (s.seg n).filled⟩
          remap := s.rc.remap.set i (.copying ⟨h.logical, c, n, 0, origin, 0, 0,
            if s.entryIndex h.logical = none then .free else .active⟩) } }) ∧
    (may → (∀ g, s.inRemainingFill g = false) → s.lowestSpare = none → exec .migrationStart s = .next { s with
      me := { s.me with queue := [] }
      alu := { s.alu with causes := s.alu.causes ||| 0x004 } })

/-- QUIESCE_COMPLETE: a waiting QUIESCE completes OK exactly when the ME is IDLE and the Repair Queue is empty. -/
def Obligations.QuiesceWaitsForTheEngines : Prop :=
  ∀ s : State,
    (s.mp.busy = true → s.mp.longCommand = 0x22 → s.me.state = .idle → s.ru.queue = [] →
      exec .quiesceComplete s = .next { s with
        mp := { s.mp with lastOutcome := .ok, longOutcome := .ok, busy := false }
        alu := { s.alu with causes := s.alu.causes ||| 0x800 } }) ∧
    (s.mp.busy = false ∨ s.mp.longCommand ≠ 0x22 ∨ s.me.state ≠ .idle ∨ s.ru.queue ≠ [] →
      exec .quiesceComplete s = .next s)

/-! ## Transfers of the management port -/

/-- SETTINGS_WRITE, EPOCH_EXPONENT_WRITE, PATROL_INTERVAL_WRITE: each setting of which the transfer wrote every byte takes the value clamped to its range (the geometry not in ONLINE), every other
setting stays, parameters take both bytes or none, and a write of k or of the current pace restarts its timer in ONLINE. A transfer to another address than 5Ch plus the latched pins has no effect.
A byte takes the last value written to its index; two bytes take the last pair written one after the other, the low byte first (log entry 21, DEDUCED). -/
def Obligations.SettingsTakeCompleteClampedValues : Prop :=
  (∀ s u : State, s.settle = u → u.mode ≠ .init →
    let own := 0x5C + u.aselLatch.setWidth 7
    let written := fun (t : Transfer) (x : Setting) =>
      if x.wide then (heldWord t x.index).map BitVec.toNat else (heldByte t x.index).map BitVec.toNat
    let effect := fun (t : Transfer) (v : State) =>
      v = { u with settings := v.settings, mp := v.mp, hm := v.hm, se := v.se } ∧
      (∀ x val, written t x = some val → ¬(u.mode = .online ∧ (x = .geomP ∨ x = .geomS)) →
        v.settings.get x = max x.range.1 (min val x.range.2)) ∧
      (∀ x, written t x = none ∨ u.mode = .online ∧ (x = .geomP ∨ x = .geomS) →
        v.settings.get x = u.settings.get x) ∧
      v.mp = { u.mp with
        index := v.mp.index
        param0 := (heldWord t 0x18).getD u.mp.param0
        param1 := (heldWord t 0x1A).getD u.mp.param1
        param2 := (heldWord t 0x1C).getD u.mp.param2
        param3 := (heldWord t 0x1E).getD u.mp.param3 } ∧
      (∀ i data, t.bytes = i :: data → v.mp.index = i + BitVec.ofNat 8 data.length) ∧
      v.hm = { u.hm with
        epochTimer :=
          if u.mode = .online ∧ (written t .epochExp).isSome = true then some (1000 * 2 ^ v.settings.epochExp)
          else u.hm.epochTimer } ∧
      (u.mode = .online → (written t (if u.hm.cal.active = true then .calInterval else .patrolInterval)).isSome = true →
        v.se.patrolTimer = if v.pace = 0 then none else some v.pace) ∧
      (u.mode ≠ .online ∨ written t (if u.hm.cal.active = true then .calInterval else .patrolInterval) = none →
        v.se = u.se)
    (∀ t, t.address = own → ∃ v, exec (.settingsWrite t) s = .next v ∧ effect t v) ∧
    (∀ t, t.address ≠ own → exec (.settingsWrite t) s = .next u) ∧
    (∀ k : Byte, ∃ v, exec (.epochExponentWrite k) s = .next v ∧ effect ⟨own, [0x43, k]⟩ v) ∧
    (∀ val : BitVec 16, ∃ v, exec (.patrolIntervalWrite .patrol val) s = .next v ∧
      effect ⟨own, [0x44, val.setWidth 8, (val >>> 8).setWidth 8]⟩ v) ∧
    (∀ val : BitVec 16, ∃ v, exec (.patrolIntervalWrite .calibration val) s = .next v ∧
      effect ⟨own, [0x46, val.setWidth 8, (val >>> 8).setWidth 8]⟩ v)) ∧
  ∀ (t : Transfer) (i : Byte) (data : List Byte) (k : Nat), t.bytes = i :: data →
    let place := fun j => (i.toNat + j) % 256
    (∀ j b, data[j]? = some b → place j = k → (∀ j' < data.length, j < j' → place j' ≠ k) → heldByte t k = some b) ∧
    ((∀ j < data.length, place j ≠ k) → heldByte t k = none) ∧
    (∀ j lo hi, data[j]? = some lo → data[j + 1]? = some hi → place j = k →
      (∀ j', j' + 1 < data.length → j < j' → place j' ≠ k) → heldWord t k = some (hi ++ lo)) ∧
    ((∀ j, j + 1 < data.length → place j ≠ k) → heldWord t k = none)

/-- ENABLE_WRITE: an enable takes the bit its byte was written with and keeps its value where the byte was not written; the master enable is on for any value but 0; no flag changes.
ACKNOWLEDGE_MASK_WRITE clears each flag whose position was written as 1, whatever its enable, leaves the others, and the mask reads back as 0. A transfer to another address has no effect. -/
def Obligations.EnablesAndAcknowledgeAreTakenByByte : Prop :=
  ∀ (t : Transfer) (s u : State), s.settle = u → u.mode ≠ .init →
    (t.address = 0x5C + u.aselLatch.setWidth 7 →
      (∃ v, exec (.enableWrite t) s = .next v ∧
        v = { u with alu := v.alu, mp := { u.mp with index := v.mp.index } } ∧
        (∀ i data, t.bytes = i :: data → v.mp.index = i + BitVec.ofNat 8 data.length) ∧ v.alu.causes = u.alu.causes ∧
        (∀ n < 8, v.alu.enables.getLsbD n = match heldByte t 0x72 with
          | some b => b.getLsbD n
          | none => u.alu.enables.getLsbD n) ∧
        (∀ n, 8 ≤ n → n < 12 → v.alu.enables.getLsbD n = match heldByte t 0x73 with
          | some b => b.getLsbD (n - 8)
          | none => u.alu.enables.getLsbD n) ∧
        v.alu.master = match heldByte t 0x74 with
          | some b => decide (b ≠ 0)
          | none => u.alu.master) ∧
      (∃ v, exec (.acknowledgeMaskWrite t) s = .next v ∧
        v = { u with alu := v.alu, mp := { u.mp with index := v.mp.index } } ∧
        (∀ i data, t.bytes = i :: data → v.mp.index = i + BitVec.ofNat 8 data.length) ∧
        v.alu.enables = u.alu.enables ∧ v.alu.master = u.alu.master ∧
        (∀ c : Cause, v.alu.isSet c = true ↔ u.alu.isSet c = true ∧
          ¬∃ b, heldByte t (if c.bit < 8 then 0x75 else 0x76) = some b ∧
            b.getLsbD (if c.bit < 8 then c.bit else c.bit - 8) = true) ∧
        v.fieldByte 0x75 = 0 ∧ v.fieldByte 0x76 = 0)) ∧
    (t.address ≠ 0x5C + u.aselLatch.setWidth 7 →
      exec (.enableWrite t) s = .next u ∧ exec (.acknowledgeMaskWrite t) s = .next u)

/-- While a long command executes every command but ENGINE_RESET is refused: REFUSED_BUSY and the refused code are all that changes. With none executing an unknown code answers BAD_PARAMETER, and
00h is no command. In INIT none is taken. That UNKNOWN_COMMAND with a code that R192 names is taken as unknown too is log entry 23 (DESIGN CHOICE): such a command is ill-formed. -/
def Obligations.CommandsAreRefusedWhileBusy : Prop :=
  ∀ s u : State, s.settle = u →
    let codes : List (Instr × Byte) :=
      [(.goOnline, 0x01), (.fill, 0x10), (.verify, 0x11), (.retire, 0x20), (.cancelMigration, 0x21), (.quiesce, 0x22),
       (.resume, 0x23), (.restore, 0x30), (.translate, 0x31), (.readRemap, 0x32), (.setRole, 0x40), (.reseed, 0x41),
       (.readHealth, 0x42), (.calibrate, 0x43), (.clearCapture, 0x50), (.readCapture, 0x51)]
    (u.mode = .init → (∀ x ∈ codes, exec x.1 s = .next u) ∧ exec .engineReset s = .next u ∧
      ∀ code, exec (.unknownCommand code) s = .next u) ∧
    (u.mode ≠ .init → u.mp.busy = true → ∀ x ∈ codes,
      exec x.1 s = .next { u with mp := { u.mp with refusedBusy := true, refusedCommand := x.2 } }) ∧
    (u.mode ≠ .init → u.mp.busy = true → ∀ code, code ≠ 0 →
      exec (.unknownCommand code) s = .next { u with mp := { u.mp with refusedBusy := true, refusedCommand := code } }) ∧
    (u.mode ≠ .init → u.mp.busy = false → ∀ code, code ≠ 0 →
      exec (.unknownCommand code) s = .next { u with mp := { u.mp with
        lastCommand := code, lastOutcome := .badParameter, refusedBusy := false, refusedCommand := 0 } }) ∧
    exec (.unknownCommand 0) s = .next u

/-- READ_TRANSFER to the part's address, 5Ch plus the latched pins, returns the field bytes of one moment from the current index on, wrapping from FFh to 00h, and raises the index by as many; to
another address it does nothing. The field map is R186's and R195's: each field at its index, its low byte first, and FFh at every index that holds none. -/
def Obligations.ReadTransferShowsOneMoment : Prop :=
  ∀ (a : BitVec 7) (n : Nat) (s u : State), s.settle = u → u.mode ≠ .init →
    let low := fun (x : Nat) => BitVec.ofNat 8 x
    let high := fun (x : Nat) => BitVec.ofNat 8 (x / 256)
    let outcome := fun (o : CmdOutcome) => (match o with
      | .none => 0x00
      | .ok => 0x01
      | .badParameter => 0x02
      | .notOnline => 0x03
      | .notConfig => 0x04
      | .segmentBusy => 0x05
      | .queueFull => 0x06
      | .noSpare => 0x07
      | .notFound => 0x08
      | .notFilled => 0x09
      | .uncorrectable => 0x0A
      | .aborted => 0x0B : Byte)
    let st := u.settings
    let bytes : List (Nat × Nat) :=
      [(0x42, st.geomS), (0x43, st.epochExp), (0x48, st.betaF), (0x49, st.betaL), (0x4A, st.betaFast), (0x4B, st.betaA),
       (0x54, st.watchDebounce), (0x55, st.alarmDebounce), (0x56, st.exitDebounce), (0x59, st.settleEpochs),
       (0x5A, st.releasePct), (0x5B, st.calEpochs), (0x5E, if st.autoRetire = true then 1 else 0), (0x5F, st.holdOffLength),
       (0x60, if st.captureCorrected = true then 1 else 0), (0x64, if st.split = true then 1 else 0)]
    let words : List (Nat × Nat) :=
      [(0x40, st.geomP), (0x44, st.patrolInterval), (0x46, st.calInterval), (0x4C, st.band), (0x4E, st.watchThreshold),
       (0x50, st.alarmThreshold), (0x52, st.hysteresis), (0x57, st.settleThreshold), (0x5C, st.calBoundary),
       (0x65, st.window), (0x67, st.baseA), (0x69, st.lenA), (0x6B, st.baseB), (0x6D, st.lenB)]
    let unassigned : List Nat :=
      (List.range 6).map (fun k => 0x0A + k) ++ (List.range 7).map (fun k => 0x11 + k) ++ [0x27] ++
        (List.range 8).map (fun k => 0x38 + k) ++ [0x61, 0x62, 0x63, 0x6F] ++ (List.range 136).map fun k => 0x78 + k
    (a ≠ 0x5C + u.aselLatch.setWidth 7 → exec (.readTransfer ⟨a, n⟩) s = .next u) ∧
    (a = 0x5C + u.aselLatch.setWidth 7 → ∃ v, exec (.readTransfer ⟨a, n⟩) s = .next v ∧
      v = { u with mp := { u.mp with
        index := u.mp.index + BitVec.ofNat 8 n, readCopy := v.mp.readCopy, readBytes := v.mp.readBytes } } ∧
      v.mp.readBytes.length = n ∧
      ∀ j < n, v.mp.readBytes[j]? = some (u.fieldByte ((u.mp.index.toNat + j) % 256))) ∧
    (List.range 10).map u.fieldByte = [0x24, 0x41, 0x01, 16, 32, 8, 8, 32, 0x00, 0x04] ∧
    u.fieldByte 0x10 = (if u.mode = .online then 0x02 else 0x01) ∧
    (u.fieldByte 0x18 = low u.mp.param0.toNat ∧ u.fieldByte 0x19 = high u.mp.param0.toNat ∧
      u.fieldByte 0x1A = low u.mp.param1.toNat ∧ u.fieldByte 0x1B = high u.mp.param1.toNat ∧
      u.fieldByte 0x1C = low u.mp.param2.toNat ∧ u.fieldByte 0x1D = high u.mp.param2.toNat ∧
      u.fieldByte 0x1E = low u.mp.param3.toNat ∧ u.fieldByte 0x1F = high u.mp.param3.toNat) ∧
    (u.fieldByte 0x20 = 0x00 ∧ u.fieldByte 0x21 = low (u.mp.busy.toNat + 2 * u.mp.refusedBusy.toNat) ∧
      u.fieldByte 0x22 = u.mp.lastCommand ∧ u.fieldByte 0x23 = outcome u.mp.lastOutcome ∧
      u.fieldByte 0x24 = u.mp.longCommand ∧ u.fieldByte 0x25 = outcome u.mp.longOutcome ∧
      u.fieldByte 0x26 = u.mp.refusedCommand) ∧
    (∀ k < 8, u.fieldByte (0x28 + 2 * k) = low (u.mp.results.getD k 0xFFFF).toNat ∧
      u.fieldByte (0x29 + 2 * k) = high (u.mp.results.getD k 0xFFFF).toNat) ∧
    (∀ x ∈ bytes, u.fieldByte x.1 = low x.2) ∧
    (∀ x ∈ words, u.fieldByte x.1 = low x.2 ∧ u.fieldByte (x.1 + 1) = high x.2) ∧
    (u.fieldByte 0x70 = low u.alu.causes.toNat ∧ u.fieldByte 0x71 = high u.alu.causes.toNat ∧
      u.fieldByte 0x72 = low u.alu.enables.toNat ∧ u.fieldByte 0x73 = high u.alu.enables.toNat ∧
      u.fieldByte 0x74 = (if u.alu.master = true then 1 else 0) ∧ u.fieldByte 0x75 = 0 ∧ u.fieldByte 0x76 = 0 ∧
      u.fieldByte 0x77 = low u.summaryCode) ∧
    ∀ k ∈ unassigned, u.fieldByte k = 0xFF

/-! ## Commands -/

/-- FILL: the first of R96's conditions that holds answers at once, with every result word FFFFh and COMMAND_DONE; otherwise the command starts, the patrol is suspended, and the first segment
is under fill, with the fill hold tested again, unless a patrol read is outstanding. -/
def Obligations.FillIsCheckedAndStarts : Prop :=
  ∀ s u : State, s.settle = u → u.mp.busy = false → u.mode ≠ .init →
    let f := u.mp.param0.toNat
    let L := u.numL
    let n := if u.mp.param1 = 0 then L - f else u.mp.param1.toNat
    let inRange := f < L ∧ f + n ≤ L
    let copying := ∃ e, RemapEntry.copying e ∈ u.rc.remap ∧ f ≤ e.logical ∧ e.logical < f + n
    let refused := fun (o : CmdOutcome) => Host.Outcome.next { u with
      mp := { u.mp with
        lastCommand := 0x10, lastOutcome := o, longCommand := 0x10, longOutcome := o, refusedBusy := false
        refusedCommand := 0, results := List.replicate 8 0xFFFF }
      alu := { u.alu with causes := u.alu.causes ||| 0x800 } }
    (u.mode ≠ .online → exec .fill s = refused .notOnline) ∧
    (u.mode = .online → ¬inRange → exec .fill s = refused .badParameter) ∧
    (u.mode = .online → inRange → copying → exec .fill s = refused .segmentBusy) ∧
    (u.mode = .online → inRange → ¬copying → ∃ t, exec .fill s = .next t ∧
      t = { u with mp := t.mp, se := t.se, lli := t.lli } ∧
      t.mp = { u.mp with
        lastCommand := 0x10, lastOutcome := .none, longCommand := 0x10, longOutcome := .none, busy := true
        refusedBusy := false, refusedCommand := 0 } ∧
      t.se.cursorSegment = u.se.cursorSegment ∧ t.se.cursorLine = u.se.cursorLine ∧
      t.se.patrolTimer = u.se.patrolTimer ∧
      (u.se.patrolPending = .outstanding → t.lli = u.lli ∧ t.se.patrolPending = .outstanding ∧
        t.se.mode = .fill ⟨f, f + n - 1, 0, none, .none⟩) ∧
      (u.se.patrolPending ≠ .outstanding → t.se.patrolPending = .none ∧
        t.se.mode = .fill ⟨f, f + n - 1, 0, some ⟨f, u.physOf f, 0⟩, .raised⟩ ∧
        HoldRetested (some f) u t ∧
        ∀ r ph, u.executing = some (r, ph, .raised) → u.translate r.cls r.address = some f →
          t.executing = some (r, ph, .held)))

/-- VERIFY: the first of R101's conditions that holds answers at once; otherwise the command starts at line 0 of its first segment, its first read raised unless a patrol read is outstanding. The
physical segment put in the position at the start is log entry 17 (DEDUCED). -/
def Obligations.VerifyIsCheckedAndStarts : Prop :=
  ∀ s u : State, s.settle = u → u.mp.busy = false → u.mode ≠ .init →
    let f := u.mp.param0.toNat
    let L := u.numL
    let n := if u.mp.param1 = 0 then L - f else u.mp.param1.toNat
    let inRange := f < L ∧ f + n ≤ L
    let filled := ∀ g, f ≤ g → g < f + n → (u.seg (u.physOf g)).filled = true
    let refused := fun (o : CmdOutcome) => Host.Outcome.next { u with
      mp := { u.mp with
        lastCommand := 0x11, lastOutcome := o, longCommand := 0x11, longOutcome := o, refusedBusy := false
        refusedCommand := 0, results := List.replicate 8 0xFFFF }
      alu := { u.alu with causes := u.alu.causes ||| 0x800 } }
    (u.mode ≠ .online → exec .verify s = refused .notOnline) ∧
    (u.mode = .online → ¬inRange → exec .verify s = refused .badParameter) ∧
    (u.mode = .online → inRange → ¬filled → exec .verify s = refused .notFilled) ∧
    (u.mode = .online → inRange → filled → ∃ t, exec .verify s = .next t ∧ t = { u with mp := t.mp, se := t.se } ∧
      t.mp = { u.mp with
        lastCommand := 0x11, lastOutcome := .none, longCommand := 0x11, longOutcome := .none, busy := true
        refusedBusy := false, refusedCommand := 0 } ∧
      t.se = { u.se with
        mode := .verify ⟨f, f + n - 1, 0, some ⟨f, u.physOf f, 0⟩,
          if u.se.patrolPending = .outstanding then .none else .raised⟩
        patrolPending := if u.se.patrolPending = .outstanding then .outstanding else .none })

/-- RETIRE answers with the first of R148's conditions that holds, and appends an entry of origin MANUAL at the tail with outcome OK alone. -/
def Obligations.RetireIsCheckedInOrder : Prop :=
  ∀ s u : State, s.settle = u → u.mp.busy = false → u.mode ≠ .init →
    let g := u.mp.param0.toNat
    let copying := ∃ i e, u.entryIndex g = some i ∧ u.rc.remap[i]? = some (RemapEntry.copying e)
    let answered := fun (o : CmdOutcome) (me : MigEngine) => Host.Outcome.next { u with
      mp := { u.mp with lastCommand := 0x20, lastOutcome := o, refusedBusy := false, refusedCommand := 0 }
      me := me }
    (u.mode ≠ .online → exec .retire s = answered .notOnline u.me) ∧
    (u.mode = .online → u.numL ≤ g → exec .retire s = answered .badParameter u.me) ∧
    (u.mode = .online → g < u.numL → ((∃ x ∈ u.me.queue, x.logical = g) ∨ copying) →
      exec .retire s = answered .segmentBusy u.me) ∧
    (u.mode = .online → g < u.numL → ¬((∃ x ∈ u.me.queue, x.logical = g) ∨ copying) → 8 ≤ u.me.queue.length →
      exec .retire s = answered .queueFull u.me) ∧
    (u.mode = .online → g < u.numL → ¬((∃ x ∈ u.me.queue, x.logical = g) ∨ copying) → u.me.queue.length < 8 →
      (∀ x ∈ u.rc.segs, x.role ≠ .spareFree) → exec .retire s = answered .noSpare u.me) ∧
    (u.mode = .online → g < u.numL → ¬((∃ x ∈ u.me.queue, x.logical = g) ∨ copying) → u.me.queue.length < 8 →
      (∃ x ∈ u.rc.segs, x.role = .spareFree) →
      exec .retire s = answered .ok { u.me with queue := u.me.queue ++ [⟨g, .manual⟩] })

/-- CANCEL_MIGRATION: NOT_ONLINE, NOT_FOUND, the revert at once when the ME has no operation outstanding, and otherwise CANCELLING with BUSY shown; the completion of that operation, handled for
nothing else, then takes the revert and ends the command OK with its results. At the revert the dual write to come of an outstanding source write is dropped. -/
def Obligations.CancelRevertsTheMigration : Prop :=
  (∀ s u : State, s.settle = u → u.mp.busy = false → u.mode ≠ .init →
    let done := fun (o : CmdOutcome) (res : List (BitVec 16)) => { u.mp with
      lastCommand := 0x21, lastOutcome := o, longCommand := 0x21, longOutcome := o, refusedBusy := false
      refusedCommand := 0, results := res }
    let alu := { u.alu with causes := u.alu.causes ||| 0x800 }
    (u.mode ≠ .online → exec .cancelMigration s =
      .next { u with mp := done .notOnline (List.replicate 8 0xFFFF), alu := alu }) ∧
    (u.mode = .online → (∀ x ∈ u.rc.remap, x.copying? = none) → exec .cancelMigration s =
      .next { u with mp := done .notFound (List.replicate 8 0xFFFF), alu := alu }) ∧
    (∀ i e, u.mode = .online → u.copying = some (i, e) → u.me.step ≠ .outstanding → e.target < u.rc.segs.length →
      ∃ t, exec .cancelMigration s = .next t ∧
        t = { u with mp := t.mp, alu := alu, me := t.me, rc := t.rc, lli := { u.lli with queue := t.lli.queue } } ∧
        t.mp = done .ok (BitVec.ofNat 16 e.logical :: BitVec.ofNat 16 e.cursor :: List.replicate 6 0xFFFF) ∧
        t.me = { u.me with state := .idle, step := .none } ∧
        t.rc.geometry = u.rc.geometry ∧ t.rc.segs.length = u.rc.segs.length ∧
        t.rc.remap = u.rc.remap.set i (if e.previous = .free then .free
          else .active ⟨e.logical, e.current, e.origin, e.poisoned, e.restarts⟩) ∧
        t.seg e.target = ⟨.spareFree, false⟩ ∧ (∀ p, p ≠ e.target → t.seg p = u.seg p) ∧
        t.lli.queue = u.lli.queue.map fun x => match x with
          | .executing r ph (.outstanding g _) => .executing r ph (.outstanding g none)
          | x => x) ∧
    (∀ i e, u.mode = .online → u.copying = some (i, e) → u.me.step = .outstanding →
      exec .cancelMigration s = .next { u with
        mp := { u.mp with
          lastCommand := 0x21, lastOutcome := .none, longCommand := 0x21, longOutcome := .none, busy := true
          refusedBusy := false, refusedCommand := 0 }
        me := { u.me with state := .cancelling } })) ∧
  ∀ (op : PortOp) (i : Nat) (e : CopyingEntry) (s u : State), s.settle = u → u.aa.grant = some op →
    op.requester = .migration → op.deliver = true → u.copying = some (i, e) → u.me.state = .cancelling →
    e.target < u.rc.segs.length →
    let reverted := fun (array : Memory) (out : Host.Outcome State Fault Refusal) => ∃ t, out = .next t ∧
      t = { u with
        array := array
        aa := { u.aa with grant := none }
        mp := { u.mp with
          lastOutcome := .ok, longOutcome := .ok, busy := false
          results := BitVec.ofNat 16 e.logical :: BitVec.ofNat 16 e.cursor :: List.replicate 6 0xFFFF }
        alu := { u.alu with causes := u.alu.causes ||| 0x800 }
        me := { u.me with state := .idle, step := .none }
        rc := t.rc
        lli := { u.lli with queue := u.lli.queue.map fun x => match x with
          | .executing r ph (.outstanding g _) => .executing r ph (.outstanding g none)
          | x => x } } ∧
      t.rc.geometry = u.rc.geometry ∧ t.rc.segs.length = u.rc.segs.length ∧
      t.rc.remap = u.rc.remap.set i (if e.previous = .free then .free
        else .active ⟨e.logical, e.current, e.origin, e.poisoned, e.restarts⟩) ∧
      t.seg e.target = ⟨.spareFree, false⟩ ∧ ∀ p, p ≠ e.target → t.seg p = u.seg p
    (∀ flips, op.write = none → op.segment = e.current →
      reverted (Memory.flipLine u.array op.segment op.line flips) (exec (.copyReadComplete flips) s)) ∧
    (∀ ws, op.write = some ws →
      reverted (Memory.storeLine u.array op.segment op.line ws) (exec .copyWriteComplete s)) ∧
    (∀ flips, op.write = none → op.segment = e.target →
      reverted (Memory.flipLine u.array op.segment op.line flips) (exec (.verifyReadComplete flips) s))

/-- QUIESCE sets the quiesced flag, withdraws a raised patrol read and completes at once when nothing is left to wait for; RESUME clears the flag; both answer NOT_ONLINE outside ONLINE. -/
def Obligations.QuiesceAndResumeSetTheFlag : Prop :=
  ∀ s u : State, s.settle = u → u.mp.busy = false → u.mode ≠ .init →
    let alu := { u.alu with causes := u.alu.causes ||| 0x800 }
    let done := fun (o : CmdOutcome) => { u.mp with
      lastCommand := 0x22, lastOutcome := o, longCommand := 0x22, longOutcome := o, refusedBusy := false
      refusedCommand := 0 }
    let resumed := fun (o : CmdOutcome) => { u.mp with
      lastCommand := 0x23, lastOutcome := o, refusedBusy := false, refusedCommand := 0 }
    let patrol := { u.se with patrolPending := if u.se.patrolPending = .raised then .none else u.se.patrolPending }
    let quiet := u.me.state = .idle ∧ u.ru.queue = []
    (u.mode ≠ .online → exec .quiesce s = .next { u with mp := done .notOnline, alu := alu }) ∧
    (u.mode = .online → quiet → exec .quiesce s =
      .next { u with mp := done .ok, alu := alu, me := { u.me with quiesced := true }, se := patrol }) ∧
    (u.mode = .online → ¬quiet → exec .quiesce s = .next { u with
      mp := { u.mp with
        lastCommand := 0x22, lastOutcome := .none, longCommand := 0x22, longOutcome := .none, busy := true
        refusedBusy := false, refusedCommand := 0 }
      me := { u.me with quiesced := true }
      se := patrol }) ∧
    (u.mode ≠ .online → exec .resume s = .next { u with mp := resumed .notOnline }) ∧
    (u.mode = .online → ∃ t, exec .resume s = .next t ∧
      t = { u with mp := resumed .ok, me := { u.me with quiesced := false }, se := t.se } ∧
      t.se.cursorSegment = u.se.cursorSegment ∧ t.se.cursorLine = u.se.cursorLine ∧ t.se.mode = u.se.mode ∧
      t.se.patrolTimer = u.se.patrolTimer)

/-- RESTORE answers with the first of R28's conditions that holds; with outcome OK it makes R29's changes and no others: one entry, the roles and the health records of the two segments, the Repair
Queue's entries of the old one, and a raised patrol read of a segment that is not eligible any more. -/
def Obligations.RestoreReplaysAMove : Prop :=
  ∀ s u : State, s.settle = u → u.mp.busy = false → u.mode ≠ .init →
    let g := u.mp.param0.toNat
    let p := u.mp.param1.toNat
    let taken := fun (o : CmdOutcome) => { u.mp with
      lastCommand := 0x30, lastOutcome := o, refusedBusy := false, refusedCommand := 0 }
    let inRange := g < u.numL ∧ u.numL ≤ p ∧ p < u.numP
    let free := (u.seg p).role = .spareFree
    let claimed := (∃ i e, u.entryIndex g = some i ∧ u.rc.remap[i]? = some (RemapEntry.copying e)) ∨
      ∃ x ∈ u.me.queue, x.logical = g
    (u.mode ≠ .online → exec .restore s = .next { u with mp := taken .notOnline }) ∧
    (u.mode = .online → ¬inRange → exec .restore s = .next { u with mp := taken .badParameter }) ∧
    (u.mode = .online → inRange → ¬free → exec .restore s = .next { u with mp := taken .noSpare }) ∧
    (u.mode = .online → inRange → free → claimed → exec .restore s = .next { u with mp := taken .segmentBusy }) ∧
    (u.mode = .online → inRange → free → ¬claimed → u.physOf g ≠ p → u.physOf g < u.rc.segs.length →
      ∃ t, exec .restore s = .next t ∧
        t = { u with
          mp := taken .ok
          rc := { u.rc with segs := t.rc.segs, remap := t.rc.remap }
          hm := { u.hm with table := t.hm.table }
          ru := ⟨u.ru.queue.filter fun x => x.addr.segment != u.physOf g, u.ru.record⟩
          se := { u.se with patrolPending :=
            if u.se.patrolPending = .raised ∧
                (t.seg u.se.cursorSegment).role = .inUse ∧ (t.seg u.se.cursorSegment).filled = true ∧
                u.patrolActive = true
              then .raised else if u.se.patrolPending = .raised then .none else u.se.patrolPending } } ∧
        (∀ i, u.entryIndex g = some i → t.rc.remap = u.rc.remap.set i (.active ⟨g, p, .restored, 0, 0⟩)) ∧
        (∀ i, u.entryIndex g = none → u.rc.remap.findIdx? (fun x => x == .free) = some i →
          t.rc.remap = u.rc.remap.set i (.active ⟨g, p, .restored, 0, 0⟩)) ∧
        t.rc.segs.length = u.rc.segs.length ∧ t.hm.table.length = u.hm.table.length ∧
        t.seg (u.physOf g) = ⟨.retired, (u.seg (u.physOf g)).filled⟩ ∧ t.seg p = ⟨.inUse, (u.seg p).filled⟩ ∧
        (∀ q, q ≠ u.physOf g → q ≠ p → t.seg q = u.seg q ∧ t.health q = u.health q) ∧
        (t.health (u.physOf g)).state = .untracked ∧ (t.health p).state = .untracked ∧
        (∀ q, q = u.physOf g ∨ q = p → t.health q = ⟨.untracked, (u.health q).role, 0, 0, 0, 0, .none, 0⟩))

/-- TRANSLATE, READ_REMAP, READ_HEALTH, READ_CAPTURE leave results and change nothing but the command block; CLEAR_CAPTURE empties the Capture Record and its flags. The results lay out the state
the command finds, bit by bit as R196 gives it; that of a pair of flags seen is the lower bit is log entry 15 (DEDUCED). -/
def Obligations.ReadingCommandsLeaveResults : Prop :=
  ∀ s u : State, s.settle = u → u.mp.busy = false → u.mode ≠ .init →
    let taken := fun (code : Byte) (o : CmdOutcome) (res : List (BitVec 16)) => Host.Outcome.next { u with mp := { u.mp with
      lastCommand := code, lastOutcome := o, refusedBusy := false, refusedCommand := 0, results := res } }
    let none8 : List (BitVec 16) := List.replicate 8 0xFFFF
    let word := fun (x : Nat) => BitVec.ofNat 16 x
    let orAbsent := fun (x : Option Nat) => match x with
      | some v => BitVec.ofNat 16 v
      | none => 0xFFFF
    let healthCode := fun (x : HealthState) => match x with
      | .untracked => 0
      | .baseline _ => 1
      | .quiet => 2
      | .watch _ _ => 3
      | .alarm _ => 4
    let originCode := fun (x : RemapOrigin) => match x with
      | .auto => 0
      | .manual => 1
      | .restored => 2
    let k := u.mp.param0.toNat
    (u.mode ≠ .online → exec .translate s = taken 0x31 .notOnline none8) ∧
    (u.mode = .online → u.numL ≤ k → exec .translate s = taken 0x31 .badParameter none8) ∧
    (u.mode = .online → k < u.numL → u.entryIndex k = none → exec .translate s = taken 0x31 .ok
      [word k, 0xFFFF, 0xFFFF, 0xFFFF, 0xFFFF, if (u.seg k).filled = true then 1 else 0,
        word (healthCode (u.health k).state), 0xFFFF]) ∧
    (∀ i e, u.mode = .online → k < u.numL → u.entryIndex k = some i →
      u.rc.remap[i]? = some (RemapEntry.copying e) → exec .translate s = taken 0x31 .ok
        [word e.current, word i, 1, word e.target, word e.cursor, if (u.seg e.current).filled = true then 1 else 0,
          word (healthCode (u.health e.current).state), 0xFFFF]) ∧
    (∀ i e, u.mode = .online → k < u.numL → u.entryIndex k = some i →
      u.rc.remap[i]? = some (RemapEntry.active e) → exec .translate s = taken 0x31 .ok
        [word e.current, word i, 2, 0xFFFF, 0xFFFF, if (u.seg e.current).filled = true then 1 else 0,
          word (healthCode (u.health e.current).state), 0xFFFF]) ∧
    (32 ≤ k → exec .readRemap s = taken 0x32 .badParameter none8) ∧
    (k < 32 → u.rc.remap[k]? = some .free ∨ u.rc.remap[k]? = none → exec .readRemap s = taken 0x32 .ok
      [0, 0xFFFF, 0xFFFF, 0xFFFF, 0xFFFF, 0xFFFF, 0xFFFF, 0xFFFF]) ∧
    (∀ e, k < 32 → u.rc.remap[k]? = some (RemapEntry.active e) → exec .readRemap s = taken 0x32 .ok
      [2, word e.logical, word e.current, 0xFFFF, 0xFFFF, word (originCode e.origin + 256 * 0xFF), word e.poisoned,
        word e.restarts]) ∧
    (∀ e, k < 32 → u.rc.remap[k]? = some (RemapEntry.copying e) → exec .readRemap s = taken 0x32 .ok
      [1, word e.logical, word e.current, word e.target, word e.cursor,
        word (originCode e.origin + 256 * (if e.previous = .free then 0 else 2)), word e.poisoned, word e.restarts]) ∧
    (u.mode ≠ .online → exec .readHealth s = taken 0x42 .notOnline none8) ∧
    (u.mode = .online → u.numP ≤ k → exec .readHealth s = taken 0x42 .badParameter none8) ∧
    (u.mode = .online → k < u.numP →
      let h := u.health k
      let reason := match h.state with
        | .alarm .threshold => 0
        | .alarm .uncorrectable => 1
        | .alarm .calibration => 2
        | _ => 3
      let role := match h.role with
        | .independent => 0
        | .reference => 1
        | .follower _ _ => 2
      let kind := match h.runKind with
        | .none => 0
        | .watch => 1
        | .alarm => 2
        | .exit => 3
      let left := match h.state with
        | .baseline n => n
        | _ => 127
      let follows := match h.role with
        | .follower ref weight => some (ref, weight)
        | _ => none
      let active := match h.state with
        | .watch a _ => some a
        | _ => none
      let snapshot := match h.state with
        | .watch _ snap => snap
        | _ => none
      exec .readHealth s = taken 0x42 .ok
        [word (healthCode h.state + 8 * reason + 32 * role + 128 * kind + 512 * left), word (h.raw + 256 * h.settle),
          word (snapshot.getD 0 + 4096 * h.runCount), orAbsent (follows.map Prod.fst), orAbsent (follows.map Prod.snd),
          word h.f, word h.l,
          word (active.getD 0 + (if active = none then 0 else 4096) + if snapshot = none then 0 else 8192)]) ∧
    (let flags := fun (x : SeenAgain) => (if x.seen = true then 1 else 0) + if x.again = true then 2 else 0
     let flagBits := 256 * (flags u.fcu.corrected + 4 * flags u.fcu.uncorrectable + 16 * flags u.fcu.poison +
       64 * flags u.fcu.noaddr)
     let kind := fun (x : FaultKind) => match x with
       | .corrected => 0
       | .uncorrectable => 1
       | .poison => 2
       | .noaddr => 3
     let origin := fun (x : FaultOrigin) => match x with
       | .demandRead => 0
       | .demandMerge => 1
       | .patrol => 2
       | .verify => 3
       | .migrationCopy => 4
       | .migrationVerify => 5
     let cls := fun (x : Option (BitVec 28 × ReqClass)) => match x with
       | some (_, .a) => 128
       | some (_, .b) => 64 + 128
       | none => 0
     (u.fcu.record = none → exec .readCapture s = taken 0x51 .ok
       [word flagBits, 0xFFFF, 0xFFFF, 0, 0xFFFF, 0xFFFF, 0xFFFF, 0xFFFF]) ∧
     (∀ rep, u.fcu.record = some rep → exec .readCapture s = taken 0x51 .ok
       [word (1 + 2 * kind rep.kind + 8 * origin rep.origin + cls rep.upstream + flagBits),
         orAbsent (rep.location.map fun x => x.1.segment), orAbsent (rep.location.map fun x => x.1.line),
         (match rep.location with
           | some (a, syndrome) => word (a.word + 128 + 256 * syndrome.toNat)
           | none => 0),
         orAbsent rep.logical, orAbsent (rep.upstream.map fun x => x.1.toNat % 65536),
         orAbsent (rep.upstream.map fun x => x.1.toNat / 65536), 0xFFFF])) ∧
    exec .clearCapture s = .next { u with
      mp := { u.mp with lastCommand := 0x50, lastOutcome := .ok, refusedBusy := false, refusedCommand := 0 }
      fcu := ⟨none, ⟨false, false⟩, ⟨false, false⟩, ⟨false, false⟩, ⟨false, false⟩⟩ }

/-- SET_ROLE and RESEED answer by R128's and R129's conditions and change one record alone: its role, or its baseline and its state. -/
def Obligations.RolesAndReseedsChangeOneRecord : Prop :=
  ∀ s u : State, s.settle = u → u.mp.busy = false → u.mode ≠ .init →
    let p := u.mp.param0.toNat
    let role := u.mp.param1.toNat
    let ref := u.mp.param2.toNat
    let weight := u.mp.param3.toNat
    let taken := fun (code : Byte) (o : CmdOutcome) (hm : HealthMonitor) => Host.Outcome.next { u with
      mp := { u.mp with lastCommand := code, lastOutcome := o, refusedBusy := false, refusedCommand := 0 }
      hm := hm }
    let put := fun (r : HealthRecord) => { u.hm with table := u.hm.table.set p r }
    let followerOk := ref < u.numP ∧ ref ≠ p ∧ (u.health ref).role = .reference ∧ weight ≤ 8191
    (u.mode ≠ .online → exec .setRole s = taken 0x40 .notOnline u.hm) ∧
    (u.mode = .online → u.numP ≤ p ∨ 2 < role ∨ role = 2 ∧ ¬followerOk →
      exec .setRole s = taken 0x40 .badParameter u.hm) ∧
    (u.mode = .online → p < u.numP → role = 0 →
      exec .setRole s = taken 0x40 .ok (put { u.health p with role := .independent })) ∧
    (u.mode = .online → p < u.numP → role = 1 →
      exec .setRole s = taken 0x40 .ok (put { u.health p with role := .reference })) ∧
    (u.mode = .online → p < u.numP → role = 2 → followerOk →
      exec .setRole s = taken 0x40 .ok (put { u.health p with role := .follower ref weight })) ∧
    (u.mode ≠ .online → exec .reseed s = taken 0x41 .notOnline u.hm) ∧
    (u.mode = .online → u.numP ≤ p → exec .reseed s = taken 0x41 .badParameter u.hm) ∧
    (u.mode = .online → p < u.numP → (u.health p).state = .untracked → exec .reseed s = taken 0x41 .notFilled u.hm) ∧
    (u.mode = .online → p < u.numP → (u.health p).state ≠ .untracked → exec .reseed s = taken 0x41 .ok
      (put { u.health p with state := .quiet, l := (u.health p).f, runCount := 0, runKind := .none, settle := 0 }))

/-- CALIBRATE: NOT_ONLINE at once outside ONLINE; in ONLINE every record R136 takes enters BASELINE as R137 gives, the others stay, both timers restart, taken and the baseline count become the number
of those records and the other counts 0, and the command runs while a record was taken. -/
def Obligations.CalibrateTakesTheQuietRecords : Prop :=
  ∀ s u : State, s.settle = u → u.mp.busy = false → u.mode ≠ .init →
    let watched := fun p => ∃ q < u.hm.table.length, ∃ weight a snap,
      (u.health q).role = .follower p weight ∧ (u.health q).state = .watch a snap
    let takes := fun p => (u.health p).state = .quiet ∧ ¬((u.health p).role = .reference ∧ watched p)
    (u.mode ≠ .online → exec .calibrate s = .next { u with
      mp := { u.mp with
        lastCommand := 0x43, lastOutcome := .notOnline, longCommand := 0x43, longOutcome := .notOnline
        refusedBusy := false, refusedCommand := 0, results := List.replicate 8 0xFFFF }
      alu := { u.alu with causes := u.alu.causes ||| 0x800 } }) ∧
    (u.mode = .online → ∃ t, exec .calibrate s = .next t ∧
      t = { u with mp := t.mp, hm := t.hm, se := t.se, alu := t.alu } ∧
      t.hm.table.length = u.hm.table.length ∧ t.hm.epochTimer = some (1000 * 2 ^ u.settings.epochExp) ∧
      (∀ p < u.hm.table.length,
        (takes p → t.health p = { u.health p with
          state := .baseline u.settings.calEpochs, raw := 0, f := 0, runCount := 0, runKind := .none, settle := 0 }) ∧
        (¬takes p → t.health p = u.health p)) ∧
      (u.settings.calInterval ≠ 0 → PatrolRechecked u t) ∧
      ((∃ p < u.hm.table.length, takes p) → t.mp = { u.mp with
          lastCommand := 0x43, lastOutcome := .none, longCommand := 0x43, longOutcome := .none, busy := true
          refusedBusy := false, refusedCommand := 0 } ∧
        t.alu = u.alu ∧ 0 < t.hm.cal.taken ∧
        (∃ ps : List Nat, ps.Nodup ∧ (∀ p, p ∈ ps ↔ p < u.hm.table.length ∧ takes p) ∧
          t.hm.cal = ⟨true, ps.length, ps.length, 0, 0, 0, 0⟩) ∧
        t.se.patrolTimer = if u.settings.calInterval = 0 then none else some u.settings.calInterval) ∧
      ((∀ p < u.hm.table.length, ¬takes p) → t.mp = { u.mp with
          lastCommand := 0x43, lastOutcome := .ok, longCommand := 0x43, longOutcome := .ok, busy := false
          refusedBusy := false, refusedCommand := 0, results := [0, 0, 0, 0, 0, 0xFFFF, 0xFFFF, 0xFFFF] } ∧
        t.alu = { u.alu with causes := u.alu.causes ||| 0x800 } ∧ t.hm.cal = ⟨false, 0, 0, 0, 0, 0, 0⟩ ∧
        t.se.patrolTimer = if u.settings.patrolInterval = 0 then none else some u.settings.patrolInterval))

/-! ## The Check Unit, the Fault Capture Unit, the Alert Unit -/

/-- The check code: an encoded word reads CLEAN, one changed bit of its 72 is CORRECTED with the data delivered, and two changed bits are UNCORRECTABLE or the poison pattern, which reads POISON
with syndrome 03h. -/
def Obligations.CheckCodeCorrectsOneAndDetectsTwo : Prop :=
  let bit := fun (k : Nat) => if k < 64 then (⟨1#64 <<< k, 0⟩ : StoredWord) else ⟨0, 1#8 <<< (k - 64)⟩
  (∀ d : Word, classify (encodeWord d) = .clean ∧ deliveredData (encodeWord d) = d) ∧
  (∀ d : Word, ∀ k < 72, classify ((encodeWord d).flip (bit k)) = .corrected ∧
    deliveredData ((encodeWord d).flip (bit k)) = d) ∧
  (∀ d : Word, ∀ j < 72, ∀ k < 72, j ≠ k →
    classify (((encodeWord d).flip (bit j)).flip (bit k)) = .uncorrectable ∨
      ((encodeWord d).flip (bit j)).flip (bit k) = poisonPattern) ∧
  encodeWord 0 = ⟨0, 0x00⟩ ∧ encodeWord 1 = ⟨1, 0x83⟩ ∧
  poisonPattern = ((encodeWord 0xFFFFFFFFFFFFFFFF).flip (bit 64)).flip (bit 65) ∧ classify poisonPattern = .poison ∧
  syndromeByte poisonPattern = 0x03

/-- An offer to the Repair Unit, tested in R80's order: dropped where the segment is not IN_USE; the data of the entry with that address replaced in its place; dropped with REPAIR_OVERFLOW where 8
entries are held; and otherwise appended at the tail, with REPAIR raised. -/
def Obligations.RepairOffersAreTestedInOrder : Prop :=
  ∀ (a : WordAddr) (d : Word) (s t : State), State.offerRepair a d s = t →
    ((s.seg a.segment).role ≠ .inUse → t = s) ∧
    (∀ pre e post, (s.seg a.segment).role = .inUse → s.ru.queue = pre ++ e :: post → e.addr = a →
      (∀ x ∈ pre ++ post, x.addr ≠ a) → t = { s with ru := { s.ru with queue := pre ++ ⟨a, d⟩ :: post } }) ∧
    ((s.seg a.segment).role = .inUse → (∀ x ∈ s.ru.queue, x.addr ≠ a) → 8 ≤ s.ru.queue.length →
      t = { s with alu := { s.alu with causes := s.alu.causes ||| 0x200 } }) ∧
    ((s.seg a.segment).role = .inUse → (∀ x ∈ s.ru.queue, x.addr ≠ a) → s.ru.queue.length < 8 →
      t = { s with ru := { s.ru with queue := s.ru.queue ++ [⟨a, d⟩] } } ∧
        (s.ru.record = none → t.repairRaised = true))

/-- The Fault Capture Unit takes a report: the flags of its kind, the decision of R174, the cause of R175; nothing else changes. -/
def Obligations.FaultReportsAreCaptured : Prop :=
  ∀ (rep : FaultReport) (s t : State), State.report rep s = t →
    let flags := fun (u : FaultCapture) (k : FaultKind) => match k with
      | .corrected => u.corrected
      | .uncorrectable => u.uncorrectable
      | .poison => u.poison
      | .noaddr => u.noaddr
    t = { s with fcu := t.fcu, alu := { s.alu with causes := t.alu.causes } } ∧
    (∀ k, k ≠ rep.kind → flags t.fcu k = flags s.fcu k) ∧ (flags t.fcu rep.kind).seen = true ∧
    ((flags t.fcu rep.kind).again = true ↔
      (flags s.fcu rep.kind).again = true ∨ (flags s.fcu rep.kind).seen = true) ∧
    (s.fcu.record = none → t.fcu.record = some rep) ∧
    (∀ old, s.fcu.record = some old → old.kind = .corrected → rep.kind ≠ .corrected → t.fcu.record = some rep) ∧
    (∀ old, s.fcu.record = some old → old.kind = .corrected → rep.kind = .corrected → t.fcu.record = some old) ∧
    (∀ old, s.fcu.record = some old → old.kind ≠ .corrected → t.fcu.record = some old) ∧
    (rep.kind = .uncorrectable ∨ rep.kind = .poison → t.alu.causes = s.alu.causes ||| 0x002) ∧
    (rep.kind = .noaddr → t.alu.causes = s.alu.causes ||| 0x040) ∧
    (rep.kind = .corrected → s.fcu.record = none → t.alu.causes = s.alu.causes ||| 0x100) ∧
    (rep.kind = .corrected → s.fcu.record ≠ none → t.alu.causes = s.alu.causes)

/-- The summary code is the number of the highest-priority flag both set and enabled, 0 where there is none, whatever the master enable; ALERT is asserted exactly when the master enable is on and
at least one flag is both set and enabled. -/
def Obligations.SummaryNamesTheMostUrgentCause : Prop :=
  ∀ s : State,
    let counts := fun (c : Cause) => s.alu.isSet c = true ∧ s.alu.enables.getLsbD c.bit = true
    ((∀ c, ¬counts c) → s.summaryCode = 0) ∧
    (∀ c, counts c → (∀ c', c'.bit < c.bit → ¬counts c') → s.summaryCode = c.bit + 1) ∧ s.summaryCode ≤ 12 ∧
    (s.alert = true ↔ s.alu.master = true ∧ ∃ c, counts c)

/-! ## Frames -/

/-- What only certain commands change: the array is changed by completions and by power-on reset alone, and in the outstanding operation's line alone; the settings and parameters by the settings'
writes, the enables by ENABLE_WRITE, the mode by INIT_COMPLETE and GO_ONLINE, and all of them by POWER_ON_RESET. -/
def Obligations.CommandsKeepWhatTheyDoNotName : Prop :=
  ∀ (c : Instr) (s t : State), exec c s = .next t →
    (s.ArrayOk → ∀ a, (∀ op, s.settle.aa.grant = some op → ∀ w < 8, a ≠ op.segment * 32768 + op.line * 8 + w) →
      Memory.read t.array a = Memory.read s.array a) ∧
    (match c with
      | .powerOnReset _ _ | .demandReadComplete _ | .demandMergeReadComplete _ | .demandWriteComplete
      | .dualWriteComplete | .repairWriteComplete | .patrolReadComplete _ | .fillWriteComplete
      | .verifySweepReadComplete _ | .copyReadComplete _ | .copyWriteComplete | .verifyReadComplete _
      | .discardedCompletion => True
      | _ => t.array = s.array) ∧
    (match c with
      | .powerOnReset _ _ | .settingsWrite _ | .epochExponentWrite _ | .patrolIntervalWrite _ _ => True
      | _ => t.settings = s.settings ∧ t.mp.param0 = s.mp.param0 ∧ t.mp.param1 = s.mp.param1 ∧
          t.mp.param2 = s.mp.param2 ∧ t.mp.param3 = s.mp.param3) ∧
    (match c with
      | .powerOnReset _ _ | .enableWrite _ => True
      | _ => t.alu.enables = s.alu.enables ∧ t.alu.master = s.alu.master) ∧
    (match c with
      | .powerOnReset _ _ | .initComplete | .goOnline => True
      | _ => t.mode = s.mode ∧ t.rc.geometry = s.rc.geometry ∧ t.aselLatch = s.aselLatch ∧ t.aselPins = s.aselPins)

/-! ## What every step keeps -/

/-- Every step keeps the array's canonical form. -/
def Obligations.StepsKeepTheArrayCanonical : Prop := ∀ s t : State, s.ArrayOk → step s = .next t → t.ArrayOk

/-- Every step keeps the Request, Repair and Retire Queues within their capacity and order and without duplicates, the fairness count within 0..8, eight result words, and both outcomes NONE while a
long command executes. -/
def Obligations.StepsKeepTheQueuesInOrder : Prop :=
  (∀ s t : State, s.QueuesOk → step s = .next t → t.QueuesOk) ∧ ∀ s t : State, s.StatusOk → step s = .next t → t.StatusOk

/-- Every step keeps one record per physical segment in the Segment Status Table and the Health Table, 32 Remap Table entries, and no geometry before ONLINE. -/
def Obligations.StepsKeepTheTablesSized : Prop := ∀ s t : State, s.TablesOk → step s = .next t → t.TablesOk

/-- Every step keeps at most one Remap Table entry COPYING: none while the ME is IDLE, exactly one in its other states. Every step keeps entries, roles and queues in agreement too, and in a state
where they agree no two entries share a logical segment, a current or a target, the two lookups are inverse to each other, and no repair entry names a segment that is not IN_USE. -/
def Obligations.StepsKeepOneMigration : Prop :=
  (∀ s t : State, s.MigrationOk → step s = .next t → t.MigrationOk) ∧
  (∀ s t : State, s.RemapOk → step s = .next t → t.RemapOk) ∧
  ∀ s : State, s.RemapOk →
    (∀ (i j : Nat) (e e' : RemapEntry), s.rc.remap[i]? = some e → s.rc.remap[j]? = some e' → i ≠ j →
      (∀ g, e.logical? = some g → e'.logical? ≠ some g) ∧ (∀ p, e.current? = some p → e'.current? ≠ some p) ∧
      ∀ c, e.copying? = some c → e'.current? ≠ some c.target ∧ ∀ c', e'.copying? ≠ some c') ∧
    (∀ g < s.numL, (s.seg (s.physOf g)).role = .inUse ∧ s.logicalOf (s.physOf g) = some g) ∧
    (∀ p, (s.seg p).role = .inUse → ∃ g < s.numL, s.logicalOf p = some g ∧ s.physOf g = p) ∧
    (∀ p, (s.seg p).role ≠ .inUse → s.logicalOf p = none) ∧
    ∀ x ∈ s.ru.queue, (s.seg x.addr.segment).role = .inUse

/-- Every step keeps every setting and every field of every health record within its range, a FOLLOWER's reference below P among them. -/
def Obligations.StepsKeepTheRanges : Prop := ∀ s t : State, s.RangesOk → step s = .next t → t.RangesOk
end

