-- ==== Sys2Proof/Laws/State.lean ====
section
/-! SUPPORT. What each update of the state leaves and what it writes, field by field: one theorem per update, its clauses true by `rfl`.
`simp` takes each clause as a rewrite of its own, so no later proof unfolds a record update. -/

namespace Sys2Proof.Machine

@[simp] theorem State.setCause_fields (c : Cause) (s : State) :
    (State.setCause c s).pending = s.pending ∧ (State.setCause c s).mode = s.mode ∧ (State.setCause c s).aselPins = s.aselPins ∧
    (State.setCause c s).aselLatch = s.aselLatch ∧ (State.setCause c s).initElapsed = s.initElapsed ∧
    (State.setCause c s).settings = s.settings ∧ (State.setCause c s).mp = s.mp ∧ (State.setCause c s).lli = s.lli ∧
    (State.setCause c s).rc = s.rc ∧ (State.setCause c s).me = s.me ∧ (State.setCause c s).se = s.se ∧ (State.setCause c s).ru = s.ru ∧
    (State.setCause c s).aa = s.aa ∧ (State.setCause c s).hm = s.hm ∧ (State.setCause c s).fcu = s.fcu ∧
    (State.setCause c s).alu = s.alu.set c ∧ (State.setCause c s).array = s.array :=
  ⟨rfl, rfl, rfl, rfl, rfl, rfl, rfl, rfl, rfl, rfl, rfl, rfl, rfl, rfl, rfl, rfl, rfl⟩

@[simp] theorem State.leaveResults_fields (ws : List (BitVec 16)) (s : State) :
    (State.leaveResults ws s).pending = s.pending ∧ (State.leaveResults ws s).mode = s.mode ∧
    (State.leaveResults ws s).aselPins = s.aselPins ∧ (State.leaveResults ws s).aselLatch = s.aselLatch ∧
    (State.leaveResults ws s).initElapsed = s.initElapsed ∧ (State.leaveResults ws s).settings = s.settings ∧
    (State.leaveResults ws s).mp = { s.mp with results := ws } ∧ (State.leaveResults ws s).lli = s.lli ∧
    (State.leaveResults ws s).rc = s.rc ∧ (State.leaveResults ws s).me = s.me ∧ (State.leaveResults ws s).se = s.se ∧
    (State.leaveResults ws s).ru = s.ru ∧ (State.leaveResults ws s).aa = s.aa ∧ (State.leaveResults ws s).hm = s.hm ∧
    (State.leaveResults ws s).fcu = s.fcu ∧ (State.leaveResults ws s).alu = s.alu ∧ (State.leaveResults ws s).array = s.array :=
  ⟨rfl, rfl, rfl, rfl, rfl, rfl, rfl, rfl, rfl, rfl, rfl, rfl, rfl, rfl, rfl, rfl, rfl⟩

@[simp] theorem State.refuse_fields (code : Byte) (s : State) :
    (State.refuse code s).pending = s.pending ∧ (State.refuse code s).mode = s.mode ∧ (State.refuse code s).aselPins = s.aselPins ∧
    (State.refuse code s).aselLatch = s.aselLatch ∧ (State.refuse code s).initElapsed = s.initElapsed ∧
    (State.refuse code s).settings = s.settings ∧ (State.refuse code s).mp = { s.mp with refusedBusy := true, refusedCommand := code } ∧
    (State.refuse code s).lli = s.lli ∧ (State.refuse code s).rc = s.rc ∧ (State.refuse code s).me = s.me ∧
    (State.refuse code s).se = s.se ∧ (State.refuse code s).ru = s.ru ∧ (State.refuse code s).aa = s.aa ∧ (State.refuse code s).hm = s.hm ∧
    (State.refuse code s).fcu = s.fcu ∧ (State.refuse code s).alu = s.alu ∧ (State.refuse code s).array = s.array :=
  ⟨rfl, rfl, rfl, rfl, rfl, rfl, rfl, rfl, rfl, rfl, rfl, rfl, rfl, rfl, rfl, rfl, rfl⟩

@[simp] theorem State.clearRefusal_fields (s : State) :
    (State.clearRefusal s).pending = s.pending ∧ (State.clearRefusal s).mode = s.mode ∧ (State.clearRefusal s).aselPins = s.aselPins ∧
    (State.clearRefusal s).aselLatch = s.aselLatch ∧ (State.clearRefusal s).initElapsed = s.initElapsed ∧
    (State.clearRefusal s).settings = s.settings ∧ (State.clearRefusal s).mp = { s.mp with refusedBusy := false, refusedCommand := 0 } ∧
    (State.clearRefusal s).lli = s.lli ∧ (State.clearRefusal s).rc = s.rc ∧ (State.clearRefusal s).me = s.me ∧
    (State.clearRefusal s).se = s.se ∧ (State.clearRefusal s).ru = s.ru ∧ (State.clearRefusal s).aa = s.aa ∧
    (State.clearRefusal s).hm = s.hm ∧ (State.clearRefusal s).fcu = s.fcu ∧ (State.clearRefusal s).alu = s.alu ∧
    (State.clearRefusal s).array = s.array :=
  ⟨rfl, rfl, rfl, rfl, rfl, rfl, rfl, rfl, rfl, rfl, rfl, rfl, rfl, rfl, rfl, rfl, rfl⟩

@[simp] theorem State.completeImmediate_fields (code : Byte) (o : CmdOutcome) (s : State) :
    (State.completeImmediate code o s).pending = s.pending ∧ (State.completeImmediate code o s).mode = s.mode ∧
    (State.completeImmediate code o s).aselPins = s.aselPins ∧ (State.completeImmediate code o s).aselLatch = s.aselLatch ∧
    (State.completeImmediate code o s).initElapsed = s.initElapsed ∧ (State.completeImmediate code o s).settings = s.settings ∧
    (State.completeImmediate code o s).mp = { s.mp with lastCommand := code, lastOutcome := o } ∧
    (State.completeImmediate code o s).lli = s.lli ∧ (State.completeImmediate code o s).rc = s.rc ∧
    (State.completeImmediate code o s).me = s.me ∧ (State.completeImmediate code o s).se = s.se ∧
    (State.completeImmediate code o s).ru = s.ru ∧ (State.completeImmediate code o s).aa = s.aa ∧
    (State.completeImmediate code o s).hm = s.hm ∧ (State.completeImmediate code o s).fcu = s.fcu ∧
    (State.completeImmediate code o s).alu = s.alu ∧ (State.completeImmediate code o s).array = s.array :=
  ⟨rfl, rfl, rfl, rfl, rfl, rfl, rfl, rfl, rfl, rfl, rfl, rfl, rfl, rfl, rfl, rfl, rfl⟩

@[simp] theorem State.startLong_fields (code : Byte) (s : State) :
    (State.startLong code s).pending = s.pending ∧ (State.startLong code s).mode = s.mode ∧
    (State.startLong code s).aselPins = s.aselPins ∧ (State.startLong code s).aselLatch = s.aselLatch ∧
    (State.startLong code s).initElapsed = s.initElapsed ∧ (State.startLong code s).settings = s.settings ∧
    (State.startLong code s).mp = { s.mp with lastCommand := code, lastOutcome := .none, longCommand := code, longOutcome := .none, busy := true } ∧
    (State.startLong code s).lli = s.lli ∧ (State.startLong code s).rc = s.rc ∧ (State.startLong code s).me = s.me ∧
    (State.startLong code s).se = s.se ∧ (State.startLong code s).ru = s.ru ∧ (State.startLong code s).aa = s.aa ∧
    (State.startLong code s).hm = s.hm ∧ (State.startLong code s).fcu = s.fcu ∧ (State.startLong code s).alu = s.alu ∧
    (State.startLong code s).array = s.array :=
  ⟨rfl, rfl, rfl, rfl, rfl, rfl, rfl, rfl, rfl, rfl, rfl, rfl, rfl, rfl, rfl, rfl, rfl⟩

@[simp] theorem State.completeLong_fields (o : CmdOutcome) (s : State) :
    (State.completeLong o s).pending = s.pending ∧ (State.completeLong o s).mode = s.mode ∧
    (State.completeLong o s).aselPins = s.aselPins ∧ (State.completeLong o s).aselLatch = s.aselLatch ∧
    (State.completeLong o s).initElapsed = s.initElapsed ∧ (State.completeLong o s).settings = s.settings ∧
    (State.completeLong o s).mp = { s.mp with lastOutcome := o, longOutcome := o, busy := false } ∧ (State.completeLong o s).lli = s.lli ∧
    (State.completeLong o s).rc = s.rc ∧ (State.completeLong o s).me = s.me ∧ (State.completeLong o s).se = s.se ∧
    (State.completeLong o s).ru = s.ru ∧ (State.completeLong o s).aa = s.aa ∧ (State.completeLong o s).hm = s.hm ∧
    (State.completeLong o s).fcu = s.fcu ∧ (State.completeLong o s).alu = s.alu.set .commandDone ∧
    (State.completeLong o s).array = s.array :=
  ⟨rfl, rfl, rfl, rfl, rfl, rfl, rfl, rfl, rfl, rfl, rfl, rfl, rfl, rfl, rfl, rfl, rfl⟩

@[simp] theorem State.answerLong_fields (code : Byte) (o : CmdOutcome) (s : State) :
    (State.answerLong code o s).pending = s.pending ∧ (State.answerLong code o s).mode = s.mode ∧
    (State.answerLong code o s).aselPins = s.aselPins ∧ (State.answerLong code o s).aselLatch = s.aselLatch ∧
    (State.answerLong code o s).initElapsed = s.initElapsed ∧ (State.answerLong code o s).settings = s.settings ∧
    (State.answerLong code o s).mp = { s.mp with lastCommand := code, lastOutcome := o, longCommand := code, longOutcome := o, busy := false } ∧
    (State.answerLong code o s).lli = s.lli ∧ (State.answerLong code o s).rc = s.rc ∧ (State.answerLong code o s).me = s.me ∧
    (State.answerLong code o s).se = s.se ∧ (State.answerLong code o s).ru = s.ru ∧ (State.answerLong code o s).aa = s.aa ∧
    (State.answerLong code o s).hm = s.hm ∧ (State.answerLong code o s).fcu = s.fcu ∧
    (State.answerLong code o s).alu = s.alu.set .commandDone ∧ (State.answerLong code o s).array = s.array :=
  ⟨rfl, rfl, rfl, rfl, rfl, rfl, rfl, rfl, rfl, rfl, rfl, rfl, rfl, rfl, rfl, rfl, rfl⟩

@[simp] theorem State.restartPatrolTimer_fields (s : State) :
    (State.restartPatrolTimer s).pending = s.pending ∧ (State.restartPatrolTimer s).mode = s.mode ∧
    (State.restartPatrolTimer s).aselPins = s.aselPins ∧ (State.restartPatrolTimer s).aselLatch = s.aselLatch ∧
    (State.restartPatrolTimer s).initElapsed = s.initElapsed ∧ (State.restartPatrolTimer s).settings = s.settings ∧
    (State.restartPatrolTimer s).mp = s.mp ∧ (State.restartPatrolTimer s).lli = s.lli ∧ (State.restartPatrolTimer s).rc = s.rc ∧
    (State.restartPatrolTimer s).me = s.me ∧ (State.restartPatrolTimer s).se = { s.se with patrolTimer := loadTimer s.pace } ∧
    (State.restartPatrolTimer s).ru = s.ru ∧ (State.restartPatrolTimer s).aa = s.aa ∧ (State.restartPatrolTimer s).hm = s.hm ∧
    (State.restartPatrolTimer s).fcu = s.fcu ∧ (State.restartPatrolTimer s).alu = s.alu ∧ (State.restartPatrolTimer s).array = s.array :=
  ⟨rfl, rfl, rfl, rfl, rfl, rfl, rfl, rfl, rfl, rfl, rfl, rfl, rfl, rfl, rfl, rfl, rfl⟩

@[simp] theorem State.restartEpochTimer_fields (s : State) :
    (State.restartEpochTimer s).pending = s.pending ∧ (State.restartEpochTimer s).mode = s.mode ∧
    (State.restartEpochTimer s).aselPins = s.aselPins ∧ (State.restartEpochTimer s).aselLatch = s.aselLatch ∧
    (State.restartEpochTimer s).initElapsed = s.initElapsed ∧ (State.restartEpochTimer s).settings = s.settings ∧
    (State.restartEpochTimer s).mp = s.mp ∧ (State.restartEpochTimer s).lli = s.lli ∧ (State.restartEpochTimer s).rc = s.rc ∧
    (State.restartEpochTimer s).me = s.me ∧ (State.restartEpochTimer s).se = s.se ∧ (State.restartEpochTimer s).ru = s.ru ∧
    (State.restartEpochTimer s).aa = s.aa ∧
    (State.restartEpochTimer s).hm = { s.hm with epochTimer := some (Config.periodsPerMs * 2 ^ s.settings.epochExp) } ∧
    (State.restartEpochTimer s).fcu = s.fcu ∧ (State.restartEpochTimer s).alu = s.alu ∧ (State.restartEpochTimer s).array = s.array :=
  ⟨rfl, rfl, rfl, rfl, rfl, rfl, rfl, rfl, rfl, rfl, rfl, rfl, rfl, rfl, rfl, rfl, rfl⟩

@[simp] theorem State.putHealth_fields (p : Nat) (r : HealthRecord) (s : State) :
    (State.putHealth p r s).pending = s.pending ∧ (State.putHealth p r s).mode = s.mode ∧ (State.putHealth p r s).aselPins = s.aselPins ∧
    (State.putHealth p r s).aselLatch = s.aselLatch ∧ (State.putHealth p r s).initElapsed = s.initElapsed ∧
    (State.putHealth p r s).settings = s.settings ∧ (State.putHealth p r s).mp = s.mp ∧ (State.putHealth p r s).lli = s.lli ∧
    (State.putHealth p r s).rc = s.rc ∧ (State.putHealth p r s).me = s.me ∧ (State.putHealth p r s).se = s.se ∧
    (State.putHealth p r s).ru = s.ru ∧ (State.putHealth p r s).aa = s.aa ∧
    (State.putHealth p r s).hm = { s.hm with table := s.hm.table.set p r } ∧ (State.putHealth p r s).fcu = s.fcu ∧
    (State.putHealth p r s).alu = s.alu ∧ (State.putHealth p r s).array = s.array :=
  ⟨rfl, rfl, rfl, rfl, rfl, rfl, rfl, rfl, rfl, rfl, rfl, rfl, rfl, rfl, rfl, rfl, rfl⟩

@[simp] theorem State.untrack_fields (p : Nat) (s : State) :
    (State.untrack p s).pending = s.pending ∧ (State.untrack p s).mode = s.mode ∧ (State.untrack p s).aselPins = s.aselPins ∧
    (State.untrack p s).aselLatch = s.aselLatch ∧ (State.untrack p s).initElapsed = s.initElapsed ∧
    (State.untrack p s).settings = s.settings ∧ (State.untrack p s).mp = s.mp ∧ (State.untrack p s).lli = s.lli ∧
    (State.untrack p s).rc = s.rc ∧ (State.untrack p s).me = s.me ∧ (State.untrack p s).se = s.se ∧ (State.untrack p s).ru = s.ru ∧
    (State.untrack p s).aa = s.aa ∧ (State.untrack p s).hm = { s.hm with table := s.hm.table.set p (.untracked (s.health p).role) } ∧
    (State.untrack p s).fcu = s.fcu ∧ (State.untrack p s).alu = s.alu ∧ (State.untrack p s).array = s.array :=
  ⟨rfl, rfl, rfl, rfl, rfl, rfl, rfl, rfl, rfl, rfl, rfl, rfl, rfl, rfl, rfl, rfl, rfl⟩

@[simp] theorem State.freshen_fields (p : Nat) (s : State) :
    (State.freshen p s).pending = s.pending ∧ (State.freshen p s).mode = s.mode ∧ (State.freshen p s).aselPins = s.aselPins ∧
    (State.freshen p s).aselLatch = s.aselLatch ∧ (State.freshen p s).initElapsed = s.initElapsed ∧
    (State.freshen p s).settings = s.settings ∧ (State.freshen p s).mp = s.mp ∧ (State.freshen p s).lli = s.lli ∧
    (State.freshen p s).rc = s.rc ∧ (State.freshen p s).me = s.me ∧ (State.freshen p s).se = s.se ∧ (State.freshen p s).ru = s.ru ∧
    (State.freshen p s).aa = s.aa ∧ (State.freshen p s).hm = { s.hm with table := s.hm.table.set p (.fresh (s.health p).role) } ∧
    (State.freshen p s).fcu = s.fcu ∧ (State.freshen p s).alu = s.alu ∧ (State.freshen p s).array = s.array :=
  ⟨rfl, rfl, rfl, rfl, rfl, rfl, rfl, rfl, rfl, rfl, rfl, rfl, rfl, rfl, rfl, rfl, rfl⟩

@[simp] theorem State.appendRetire_fields (g : Nat) (o : RetireOrigin) (s : State) :
    (State.appendRetire g o s).pending = s.pending ∧ (State.appendRetire g o s).mode = s.mode ∧
    (State.appendRetire g o s).aselPins = s.aselPins ∧ (State.appendRetire g o s).aselLatch = s.aselLatch ∧
    (State.appendRetire g o s).initElapsed = s.initElapsed ∧ (State.appendRetire g o s).settings = s.settings ∧
    (State.appendRetire g o s).mp = s.mp ∧ (State.appendRetire g o s).lli = s.lli ∧ (State.appendRetire g o s).rc = s.rc ∧
    (State.appendRetire g o s).me = { s.me with queue := s.me.queue ++ [⟨g, o⟩] } ∧ (State.appendRetire g o s).se = s.se ∧
    (State.appendRetire g o s).ru = s.ru ∧ (State.appendRetire g o s).aa = s.aa ∧ (State.appendRetire g o s).hm = s.hm ∧
    (State.appendRetire g o s).fcu = s.fcu ∧ (State.appendRetire g o s).alu = s.alu ∧ (State.appendRetire g o s).array = s.array :=
  ⟨rfl, rfl, rfl, rfl, rfl, rfl, rfl, rfl, rfl, rfl, rfl, rfl, rfl, rfl, rfl, rfl, rfl⟩

@[simp] theorem State.setRole_fields (p : Nat) (r : SegRole) (s : State) :
    (State.setRole p r s).pending = s.pending ∧ (State.setRole p r s).mode = s.mode ∧ (State.setRole p r s).aselPins = s.aselPins ∧
    (State.setRole p r s).aselLatch = s.aselLatch ∧ (State.setRole p r s).initElapsed = s.initElapsed ∧
    (State.setRole p r s).settings = s.settings ∧ (State.setRole p r s).mp = s.mp ∧ (State.setRole p r s).lli = s.lli ∧
    (State.setRole p r s).rc = { s.rc with segs := s.rc.segs.set p { s.seg p with role := r } } ∧ (State.setRole p r s).me = s.me ∧
    (State.setRole p r s).se = s.se ∧ (State.setRole p r s).ru = s.ru ∧ (State.setRole p r s).aa = s.aa ∧ (State.setRole p r s).hm = s.hm ∧
    (State.setRole p r s).fcu = s.fcu ∧ (State.setRole p r s).alu = s.alu ∧ (State.setRole p r s).array = s.array :=
  ⟨rfl, rfl, rfl, rfl, rfl, rfl, rfl, rfl, rfl, rfl, rfl, rfl, rfl, rfl, rfl, rfl, rfl⟩

@[simp] theorem State.setFilled_fields (p : Nat) (b : Bool) (s : State) :
    (State.setFilled p b s).pending = s.pending ∧ (State.setFilled p b s).mode = s.mode ∧ (State.setFilled p b s).aselPins = s.aselPins ∧
    (State.setFilled p b s).aselLatch = s.aselLatch ∧ (State.setFilled p b s).initElapsed = s.initElapsed ∧
    (State.setFilled p b s).settings = s.settings ∧ (State.setFilled p b s).mp = s.mp ∧ (State.setFilled p b s).lli = s.lli ∧
    (State.setFilled p b s).rc = { s.rc with segs := s.rc.segs.set p { s.seg p with filled := b } } ∧ (State.setFilled p b s).me = s.me ∧
    (State.setFilled p b s).se = s.se ∧ (State.setFilled p b s).ru = s.ru ∧ (State.setFilled p b s).aa = s.aa ∧
    (State.setFilled p b s).hm = s.hm ∧ (State.setFilled p b s).fcu = s.fcu ∧ (State.setFilled p b s).alu = s.alu ∧
    (State.setFilled p b s).array = s.array :=
  ⟨rfl, rfl, rfl, rfl, rfl, rfl, rfl, rfl, rfl, rfl, rfl, rfl, rfl, rfl, rfl, rfl, rfl⟩

@[simp] theorem State.setEntry_fields (i : Nat) (e : RemapEntry) (s : State) :
    (State.setEntry i e s).pending = s.pending ∧ (State.setEntry i e s).mode = s.mode ∧ (State.setEntry i e s).aselPins = s.aselPins ∧
    (State.setEntry i e s).aselLatch = s.aselLatch ∧ (State.setEntry i e s).initElapsed = s.initElapsed ∧
    (State.setEntry i e s).settings = s.settings ∧ (State.setEntry i e s).mp = s.mp ∧ (State.setEntry i e s).lli = s.lli ∧
    (State.setEntry i e s).rc = { s.rc with remap := s.rc.remap.set i e } ∧ (State.setEntry i e s).me = s.me ∧
    (State.setEntry i e s).se = s.se ∧ (State.setEntry i e s).ru = s.ru ∧ (State.setEntry i e s).aa = s.aa ∧
    (State.setEntry i e s).hm = s.hm ∧ (State.setEntry i e s).fcu = s.fcu ∧ (State.setEntry i e s).alu = s.alu ∧
    (State.setEntry i e s).array = s.array :=
  ⟨rfl, rfl, rfl, rfl, rfl, rfl, rfl, rfl, rfl, rfl, rfl, rfl, rfl, rfl, rfl, rfl, rfl⟩

@[simp] theorem State.setMe_fields (m : MigState) (st : OpStep) (s : State) :
    (State.setMe m st s).pending = s.pending ∧ (State.setMe m st s).mode = s.mode ∧ (State.setMe m st s).aselPins = s.aselPins ∧
    (State.setMe m st s).aselLatch = s.aselLatch ∧ (State.setMe m st s).initElapsed = s.initElapsed ∧
    (State.setMe m st s).settings = s.settings ∧ (State.setMe m st s).mp = s.mp ∧ (State.setMe m st s).lli = s.lli ∧
    (State.setMe m st s).rc = s.rc ∧ (State.setMe m st s).me = { s.me with state := m, step := st } ∧ (State.setMe m st s).se = s.se ∧
    (State.setMe m st s).ru = s.ru ∧ (State.setMe m st s).aa = s.aa ∧ (State.setMe m st s).hm = s.hm ∧ (State.setMe m st s).fcu = s.fcu ∧
    (State.setMe m st s).alu = s.alu ∧ (State.setMe m st s).array = s.array :=
  ⟨rfl, rfl, rfl, rfl, rfl, rfl, rfl, rfl, rfl, rfl, rfl, rfl, rfl, rfl, rfl, rfl, rfl⟩

@[simp] theorem State.setCursor_fields (p n : Nat) (s : State) :
    (State.setCursor p n s).pending = s.pending ∧ (State.setCursor p n s).mode = s.mode ∧ (State.setCursor p n s).aselPins = s.aselPins ∧
    (State.setCursor p n s).aselLatch = s.aselLatch ∧ (State.setCursor p n s).initElapsed = s.initElapsed ∧
    (State.setCursor p n s).settings = s.settings ∧ (State.setCursor p n s).mp = s.mp ∧ (State.setCursor p n s).lli = s.lli ∧
    (State.setCursor p n s).rc = s.rc ∧ (State.setCursor p n s).me = s.me ∧
    (State.setCursor p n s).se = { s.se with cursorSegment := p, cursorLine := n } ∧ (State.setCursor p n s).ru = s.ru ∧
    (State.setCursor p n s).aa = s.aa ∧ (State.setCursor p n s).hm = s.hm ∧ (State.setCursor p n s).fcu = s.fcu ∧
    (State.setCursor p n s).alu = s.alu ∧ (State.setCursor p n s).array = s.array :=
  ⟨rfl, rfl, rfl, rfl, rfl, rfl, rfl, rfl, rfl, rfl, rfl, rfl, rfl, rfl, rfl, rfl, rfl⟩

@[simp] theorem State.raisePatrol_fields (p n : Nat) (s : State) :
    (State.raisePatrol p n s).pending = s.pending ∧ (State.raisePatrol p n s).mode = s.mode ∧
    (State.raisePatrol p n s).aselPins = s.aselPins ∧ (State.raisePatrol p n s).aselLatch = s.aselLatch ∧
    (State.raisePatrol p n s).initElapsed = s.initElapsed ∧ (State.raisePatrol p n s).settings = s.settings ∧
    (State.raisePatrol p n s).mp = s.mp ∧ (State.raisePatrol p n s).lli = s.lli ∧ (State.raisePatrol p n s).rc = s.rc ∧
    (State.raisePatrol p n s).me = s.me ∧
    (State.raisePatrol p n s).se = { s.se with cursorSegment := p, cursorLine := n, patrolPending := .raised } ∧
    (State.raisePatrol p n s).ru = s.ru ∧ (State.raisePatrol p n s).aa = s.aa ∧ (State.raisePatrol p n s).hm = s.hm ∧
    (State.raisePatrol p n s).fcu = s.fcu ∧ (State.raisePatrol p n s).alu = s.alu ∧ (State.raisePatrol p n s).array = s.array :=
  ⟨rfl, rfl, rfl, rfl, rfl, rfl, rfl, rfl, rfl, rfl, rfl, rfl, rfl, rfl, rfl, rfl, rfl⟩

@[simp] theorem State.endSweep_fields (s : State) :
    (State.endSweep s).pending = s.pending ∧ (State.endSweep s).mode = s.mode ∧ (State.endSweep s).aselPins = s.aselPins ∧
    (State.endSweep s).aselLatch = s.aselLatch ∧ (State.endSweep s).initElapsed = s.initElapsed ∧
    (State.endSweep s).settings = s.settings ∧ (State.endSweep s).mp = s.mp ∧ (State.endSweep s).lli = s.lli ∧
    (State.endSweep s).rc = s.rc ∧ (State.endSweep s).me = s.me ∧ (State.endSweep s).se = { s.se with mode := .patrol } ∧
    (State.endSweep s).ru = s.ru ∧ (State.endSweep s).aa = s.aa ∧ (State.endSweep s).hm = s.hm ∧ (State.endSweep s).fcu = s.fcu ∧
    (State.endSweep s).alu = s.alu ∧ (State.endSweep s).array = s.array :=
  ⟨rfl, rfl, rfl, rfl, rfl, rfl, rfl, rfl, rfl, rfl, rfl, rfl, rfl, rfl, rfl, rfl, rfl⟩

@[simp] theorem State.putExec_fields (x : Slot) (s : State) :
    (State.putExec x s).pending = s.pending ∧ (State.putExec x s).mode = s.mode ∧ (State.putExec x s).aselPins = s.aselPins ∧
    (State.putExec x s).aselLatch = s.aselLatch ∧ (State.putExec x s).initElapsed = s.initElapsed ∧
    (State.putExec x s).settings = s.settings ∧ (State.putExec x s).mp = s.mp ∧
    (State.putExec x s).lli = { s.lli with queue := s.lli.queue.map x.replaceExec } ∧ (State.putExec x s).rc = s.rc ∧
    (State.putExec x s).me = s.me ∧ (State.putExec x s).se = s.se ∧ (State.putExec x s).ru = s.ru ∧ (State.putExec x s).aa = s.aa ∧
    (State.putExec x s).hm = s.hm ∧ (State.putExec x s).fcu = s.fcu ∧ (State.putExec x s).alu = s.alu ∧
    (State.putExec x s).array = s.array :=
  ⟨rfl, rfl, rfl, rfl, rfl, rfl, rfl, rfl, rfl, rfl, rfl, rfl, rfl, rfl, rfl, rfl, rfl⟩

@[simp] theorem State.answer_fields (r : Request) (b : RespBody) (s : State) :
    (State.answer r b s).pending = s.pending ∧ (State.answer r b s).mode = s.mode ∧ (State.answer r b s).aselPins = s.aselPins ∧
    (State.answer r b s).aselLatch = s.aselLatch ∧ (State.answer r b s).initElapsed = s.initElapsed ∧
    (State.answer r b s).settings = s.settings ∧ (State.answer r b s).mp = s.mp ∧
    (State.answer r b s).lli = { s.lli with queue := s.lli.queue.map (Slot.answered ⟨r.tag, b⟩).replaceExec } ∧
    (State.answer r b s).rc = s.rc ∧ (State.answer r b s).me = s.me ∧ (State.answer r b s).se = s.se ∧ (State.answer r b s).ru = s.ru ∧
    (State.answer r b s).aa = s.aa ∧ (State.answer r b s).hm = s.hm ∧ (State.answer r b s).fcu = s.fcu ∧ (State.answer r b s).alu = s.alu ∧
    (State.answer r b s).array = s.array :=
  ⟨rfl, rfl, rfl, rfl, rfl, rfl, rfl, rfl, rfl, rfl, rfl, rfl, rfl, rfl, rfl, rfl, rfl⟩

@[simp] theorem State.dropDual_fields (s : State) :
    (State.dropDual s).pending = s.pending ∧ (State.dropDual s).mode = s.mode ∧ (State.dropDual s).aselPins = s.aselPins ∧
    (State.dropDual s).aselLatch = s.aselLatch ∧ (State.dropDual s).initElapsed = s.initElapsed ∧
    (State.dropDual s).settings = s.settings ∧ (State.dropDual s).mp = s.mp ∧
    (State.dropDual s).lli = { s.lli with queue := s.lli.queue.map Slot.withoutDual } ∧ (State.dropDual s).rc = s.rc ∧
    (State.dropDual s).me = s.me ∧ (State.dropDual s).se = s.se ∧ (State.dropDual s).ru = s.ru ∧ (State.dropDual s).aa = s.aa ∧
    (State.dropDual s).hm = s.hm ∧ (State.dropDual s).fcu = s.fcu ∧ (State.dropDual s).alu = s.alu ∧ (State.dropDual s).array = s.array :=
  ⟨rfl, rfl, rfl, rfl, rfl, rfl, rfl, rfl, rfl, rfl, rfl, rfl, rfl, rfl, rfl, rfl, rfl⟩

@[simp] theorem State.freePort_fields (s : State) :
    (State.freePort s).pending = s.pending ∧ (State.freePort s).mode = s.mode ∧ (State.freePort s).aselPins = s.aselPins ∧
    (State.freePort s).aselLatch = s.aselLatch ∧ (State.freePort s).initElapsed = s.initElapsed ∧
    (State.freePort s).settings = s.settings ∧ (State.freePort s).mp = s.mp ∧ (State.freePort s).lli = s.lli ∧
    (State.freePort s).rc = s.rc ∧ (State.freePort s).me = s.me ∧ (State.freePort s).se = s.se ∧ (State.freePort s).ru = s.ru ∧
    (State.freePort s).aa = { s.aa with grant := none } ∧ (State.freePort s).hm = s.hm ∧ (State.freePort s).fcu = s.fcu ∧
    (State.freePort s).alu = s.alu ∧ (State.freePort s).array = s.array :=
  ⟨rfl, rfl, rfl, rfl, rfl, rfl, rfl, rfl, rfl, rfl, rfl, rfl, rfl, rfl, rfl, rfl, rfl⟩

@[simp] theorem State.issue_fields (q : Requester) (segment line : Nat) (write : Option (List (Option StoredWord))) (s : State) :
    (State.issue q segment line write s).pending = s.pending ∧ (State.issue q segment line write s).mode = s.mode ∧
    (State.issue q segment line write s).aselPins = s.aselPins ∧ (State.issue q segment line write s).aselLatch = s.aselLatch ∧
    (State.issue q segment line write s).initElapsed = s.initElapsed ∧ (State.issue q segment line write s).settings = s.settings ∧
    (State.issue q segment line write s).mp = s.mp ∧ (State.issue q segment line write s).lli = s.lli ∧
    (State.issue q segment line write s).rc = s.rc ∧ (State.issue q segment line write s).me = s.me ∧
    (State.issue q segment line write s).se = s.se ∧ (State.issue q segment line write s).ru = s.ru ∧
    (State.issue q segment line write s).aa = { s.aa with
      grant := some ⟨q, segment, line, write, true⟩
      fairness := if q = .demand then min Config.fairnessLimit (s.aa.fairness + 1) else 0 } ∧
    (State.issue q segment line write s).hm = s.hm ∧ (State.issue q segment line write s).fcu = s.fcu ∧
    (State.issue q segment line write s).alu = s.alu ∧ (State.issue q segment line write s).array = s.array :=
  ⟨rfl, rfl, rfl, rfl, rfl, rfl, rfl, rfl, rfl, rfl, rfl, rfl, rfl, rfl, rfl, rfl, rfl⟩

@[simp] theorem State.flipLine_fields (op : PortOp) (flips : LineFlips) (s : State) :
    (State.flipLine op flips s).pending = s.pending ∧ (State.flipLine op flips s).mode = s.mode ∧
    (State.flipLine op flips s).aselPins = s.aselPins ∧ (State.flipLine op flips s).aselLatch = s.aselLatch ∧
    (State.flipLine op flips s).initElapsed = s.initElapsed ∧ (State.flipLine op flips s).settings = s.settings ∧
    (State.flipLine op flips s).mp = s.mp ∧ (State.flipLine op flips s).lli = s.lli ∧ (State.flipLine op flips s).rc = s.rc ∧
    (State.flipLine op flips s).me = s.me ∧ (State.flipLine op flips s).se = s.se ∧ (State.flipLine op flips s).ru = s.ru ∧
    (State.flipLine op flips s).aa = s.aa ∧ (State.flipLine op flips s).hm = s.hm ∧ (State.flipLine op flips s).fcu = s.fcu ∧
    (State.flipLine op flips s).alu = s.alu ∧ (State.flipLine op flips s).array = Memory.flipLine s.array op.segment op.line flips :=
  ⟨rfl, rfl, rfl, rfl, rfl, rfl, rfl, rfl, rfl, rfl, rfl, rfl, rfl, rfl, rfl, rfl, rfl⟩

@[simp] theorem State.takeRaws_fields (s : State) :
    (State.takeRaws s).pending = s.pending ∧ (State.takeRaws s).mode = s.mode ∧ (State.takeRaws s).aselPins = s.aselPins ∧
    (State.takeRaws s).aselLatch = s.aselLatch ∧ (State.takeRaws s).initElapsed = s.initElapsed ∧
    (State.takeRaws s).settings = s.settings ∧ (State.takeRaws s).mp = s.mp ∧ (State.takeRaws s).lli = s.lli ∧
    (State.takeRaws s).rc = s.rc ∧ (State.takeRaws s).me = s.me ∧ (State.takeRaws s).se = s.se ∧ (State.takeRaws s).ru = s.ru ∧
    (State.takeRaws s).aa = s.aa ∧ (State.takeRaws s).hm = { s.hm with table := s.hm.table.map fun r => { r with raw := 0 } } ∧
    (State.takeRaws s).fcu = s.fcu ∧ (State.takeRaws s).alu = s.alu ∧ (State.takeRaws s).array = s.array :=
  ⟨rfl, rfl, rfl, rfl, rfl, rfl, rfl, rfl, rfl, rfl, rfl, rfl, rfl, rfl, rfl, rfl, rfl⟩

@[simp] theorem State.endHoldOff_fields (s : State) :
    (State.endHoldOff s).pending = s.pending ∧ (State.endHoldOff s).mode = s.mode ∧ (State.endHoldOff s).aselPins = s.aselPins ∧
    (State.endHoldOff s).aselLatch = s.aselLatch ∧ (State.endHoldOff s).initElapsed = s.initElapsed ∧
    (State.endHoldOff s).settings = s.settings ∧ (State.endHoldOff s).mp = s.mp ∧ (State.endHoldOff s).lli = s.lli ∧
    (State.endHoldOff s).rc = s.rc ∧ (State.endHoldOff s).me = s.me ∧ (State.endHoldOff s).se = s.se ∧ (State.endHoldOff s).ru = s.ru ∧
    (State.endHoldOff s).aa = { s.aa with holdOff := none } ∧ (State.endHoldOff s).hm = s.hm ∧ (State.endHoldOff s).fcu = s.fcu ∧
    (State.endHoldOff s).alu = s.alu ∧ (State.endHoldOff s).array = s.array :=
  ⟨rfl, rfl, rfl, rfl, rfl, rfl, rfl, rfl, rfl, rfl, rfl, rfl, rfl, rfl, rfl, rfl, rfl⟩

@[simp] theorem State.bindTarget_fields (i : Nat) (e : CopyingEntry) (t : Nat) (s : State) :
    (State.bindTarget i e t s).pending = s.pending ∧ (State.bindTarget i e t s).mode = s.mode ∧
    (State.bindTarget i e t s).aselPins = s.aselPins ∧ (State.bindTarget i e t s).aselLatch = s.aselLatch ∧
    (State.bindTarget i e t s).initElapsed = s.initElapsed ∧ (State.bindTarget i e t s).settings = s.settings ∧
    (State.bindTarget i e t s).mp = s.mp ∧ (State.bindTarget i e t s).lli = s.lli ∧
    (State.bindTarget i e t s).rc = { s.rc with
      segs := s.rc.segs.set t { s.seg t with role := .spareBound }
      remap := s.rc.remap.set i (.copying { e with target := t, cursor := 0, poisoned := 0 }) } ∧
    (State.bindTarget i e t s).me = s.me ∧ (State.bindTarget i e t s).se = s.se ∧ (State.bindTarget i e t s).ru = s.ru ∧
    (State.bindTarget i e t s).aa = s.aa ∧ (State.bindTarget i e t s).hm = s.hm ∧ (State.bindTarget i e t s).fcu = s.fcu ∧
    (State.bindTarget i e t s).alu = s.alu ∧ (State.bindTarget i e t s).array = s.array :=
  ⟨rfl, rfl, rfl, rfl, rfl, rfl, rfl, rfl, rfl, rfl, rfl, rfl, rfl, rfl, rfl, rfl, rfl⟩

@[simp] theorem State.freeTarget_fields (t : Nat) (s : State) :
    (State.freeTarget t s).pending = s.pending ∧ (State.freeTarget t s).mode = s.mode ∧ (State.freeTarget t s).aselPins = s.aselPins ∧
    (State.freeTarget t s).aselLatch = s.aselLatch ∧ (State.freeTarget t s).initElapsed = s.initElapsed ∧
    (State.freeTarget t s).settings = s.settings ∧ (State.freeTarget t s).mp = s.mp ∧ (State.freeTarget t s).lli = s.lli ∧
    (State.freeTarget t s).rc = { s.rc with
      segs := (s.rc.segs.set t { s.seg t with role := .spareFree }).set t { (State.setRole t .spareFree s).seg t with filled := false } } ∧
    (State.freeTarget t s).me = s.me ∧ (State.freeTarget t s).se = s.se ∧ (State.freeTarget t s).ru = s.ru ∧
    (State.freeTarget t s).aa = s.aa ∧ (State.freeTarget t s).hm = s.hm ∧ (State.freeTarget t s).fcu = s.fcu ∧
    (State.freeTarget t s).alu = s.alu ∧ (State.freeTarget t s).array = s.array :=
  ⟨rfl, rfl, rfl, rfl, rfl, rfl, rfl, rfl, rfl, rfl, rfl, rfl, rfl, rfl, rfl, rfl, rfl⟩

@[simp] theorem State.removeCovered_fields (segment line : Nat) (store : List (Option StoredWord)) (s : State) :
    (State.removeCovered segment line store s).pending = s.pending ∧ (State.removeCovered segment line store s).mode = s.mode ∧
    (State.removeCovered segment line store s).aselPins = s.aselPins ∧ (State.removeCovered segment line store s).aselLatch = s.aselLatch ∧
    (State.removeCovered segment line store s).initElapsed = s.initElapsed ∧
    (State.removeCovered segment line store s).settings = s.settings ∧ (State.removeCovered segment line store s).mp = s.mp ∧
    (State.removeCovered segment line store s).lli = s.lli ∧ (State.removeCovered segment line store s).rc = s.rc ∧
    (State.removeCovered segment line store s).me = s.me ∧ (State.removeCovered segment line store s).se = s.se ∧
    (State.removeCovered segment line store s).ru = { s.ru with
      queue := s.ru.queue.filter fun e => !(e.addr.segment == segment && e.addr.line == line && (store.getD e.addr.word none).isSome) } ∧
    (State.removeCovered segment line store s).aa = s.aa ∧ (State.removeCovered segment line store s).hm = s.hm ∧
    (State.removeCovered segment line store s).fcu = s.fcu ∧ (State.removeCovered segment line store s).alu = s.alu ∧
    (State.removeCovered segment line store s).array = s.array :=
  ⟨rfl, rfl, rfl, rfl, rfl, rfl, rfl, rfl, rfl, rfl, rfl, rfl, rfl, rfl, rfl, rfl, rfl⟩

@[simp] theorem State.removeSegment_fields (segment : Nat) (s : State) :
    (State.removeSegment segment s).pending = s.pending ∧ (State.removeSegment segment s).mode = s.mode ∧
    (State.removeSegment segment s).aselPins = s.aselPins ∧ (State.removeSegment segment s).aselLatch = s.aselLatch ∧
    (State.removeSegment segment s).initElapsed = s.initElapsed ∧ (State.removeSegment segment s).settings = s.settings ∧
    (State.removeSegment segment s).mp = s.mp ∧ (State.removeSegment segment s).lli = s.lli ∧ (State.removeSegment segment s).rc = s.rc ∧
    (State.removeSegment segment s).me = s.me ∧ (State.removeSegment segment s).se = s.se ∧
    (State.removeSegment segment s).ru = { s.ru with queue := s.ru.queue.filter fun e => e.addr.segment != segment } ∧
    (State.removeSegment segment s).aa = s.aa ∧ (State.removeSegment segment s).hm = s.hm ∧ (State.removeSegment segment s).fcu = s.fcu ∧
    (State.removeSegment segment s).alu = s.alu ∧ (State.removeSegment segment s).array = s.array :=
  ⟨rfl, rfl, rfl, rfl, rfl, rfl, rfl, rfl, rfl, rfl, rfl, rfl, rfl, rfl, rfl, rfl, rfl⟩

@[simp] theorem State.cancelRevert_fields (i : Nat) (e : CopyingEntry) (s : State) :
    (State.cancelRevert i e s).pending = s.pending ∧ (State.cancelRevert i e s).mode = s.mode ∧
    (State.cancelRevert i e s).aselPins = s.aselPins ∧ (State.cancelRevert i e s).aselLatch = s.aselLatch ∧
    (State.cancelRevert i e s).initElapsed = s.initElapsed ∧ (State.cancelRevert i e s).settings = s.settings ∧
    (State.cancelRevert i e s).mp = s.mp ∧ (State.cancelRevert i e s).lli = { s.lli with queue := s.lli.queue.map Slot.withoutDual } ∧
    (State.cancelRevert i e s).rc = (State.freeTarget e.target (State.setEntry i e.reverted s)).rc ∧
    (State.cancelRevert i e s).me = { s.me with state := .idle, step := .none } ∧ (State.cancelRevert i e s).se = s.se ∧
    (State.cancelRevert i e s).ru = s.ru ∧ (State.cancelRevert i e s).aa = s.aa ∧ (State.cancelRevert i e s).hm = s.hm ∧
    (State.cancelRevert i e s).fcu = s.fcu ∧ (State.cancelRevert i e s).alu = s.alu ∧ (State.cancelRevert i e s).array = s.array := by
  simp [State.cancelRevert]

end Sys2Proof.Machine
end

