-- ==== Sys2Proof/Laws/Frames.lean ====
section
/-! SUPPORT. What each shared operation leaves as it was: one theorem per operation, its clauses the fields it never writes.
A proof about a command cites these in place of unfolding the operations under it. -/

namespace Sys2Proof.Machine

@[simp] theorem State.report_frame (r : FaultReport) (s : State) :
    (State.report r s).pending = s.pending ∧ (State.report r s).mode = s.mode ∧ (State.report r s).aselPins = s.aselPins ∧
    (State.report r s).aselLatch = s.aselLatch ∧ (State.report r s).initElapsed = s.initElapsed ∧
    (State.report r s).settings = s.settings ∧ (State.report r s).mp = s.mp ∧ (State.report r s).lli = s.lli ∧
    (State.report r s).rc = s.rc ∧ (State.report r s).me = s.me ∧ (State.report r s).se = s.se ∧ (State.report r s).ru = s.ru ∧
    (State.report r s).aa = s.aa ∧ (State.report r s).hm = s.hm ∧ (State.report r s).array = s.array := by
  unfold State.report
  repeat' split
  all_goals simp

@[simp] theorem State.recheckPatrol_frame (s : State) :
    (State.recheckPatrol s).pending = s.pending ∧ (State.recheckPatrol s).mode = s.mode ∧ (State.recheckPatrol s).aselPins = s.aselPins ∧
    (State.recheckPatrol s).aselLatch = s.aselLatch ∧ (State.recheckPatrol s).initElapsed = s.initElapsed ∧
    (State.recheckPatrol s).settings = s.settings ∧ (State.recheckPatrol s).mp = s.mp ∧ (State.recheckPatrol s).lli = s.lli ∧
    (State.recheckPatrol s).rc = s.rc ∧ (State.recheckPatrol s).me = s.me ∧ (State.recheckPatrol s).ru = s.ru ∧
    (State.recheckPatrol s).aa = s.aa ∧ (State.recheckPatrol s).hm = s.hm ∧ (State.recheckPatrol s).fcu = s.fcu ∧
    (State.recheckPatrol s).alu = s.alu ∧ (State.recheckPatrol s).array = s.array := by
  unfold State.recheckPatrol
  repeat' split
  all_goals simp

@[simp] theorem State.startHoldOff_frame (s : State) :
    (State.startHoldOff s).pending = s.pending ∧ (State.startHoldOff s).mode = s.mode ∧ (State.startHoldOff s).aselPins = s.aselPins ∧
    (State.startHoldOff s).aselLatch = s.aselLatch ∧ (State.startHoldOff s).initElapsed = s.initElapsed ∧
    (State.startHoldOff s).settings = s.settings ∧ (State.startHoldOff s).mp = s.mp ∧ (State.startHoldOff s).lli = s.lli ∧
    (State.startHoldOff s).rc = s.rc ∧ (State.startHoldOff s).me = s.me ∧ (State.startHoldOff s).se = s.se ∧
    (State.startHoldOff s).ru = s.ru ∧ (State.startHoldOff s).hm = s.hm ∧ (State.startHoldOff s).fcu = s.fcu ∧
    (State.startHoldOff s).alu = s.alu ∧ (State.startHoldOff s).array = s.array := by
  unfold State.startHoldOff
  repeat' split
  all_goals simp

@[simp] theorem State.beginMigration_frame (h : RetireEntry) (rest : List RetireEntry) (t : Nat) (s : State) :
    (State.beginMigration h rest t s).pending = s.pending ∧ (State.beginMigration h rest t s).mode = s.mode ∧
    (State.beginMigration h rest t s).aselPins = s.aselPins ∧ (State.beginMigration h rest t s).aselLatch = s.aselLatch ∧
    (State.beginMigration h rest t s).initElapsed = s.initElapsed ∧ (State.beginMigration h rest t s).settings = s.settings ∧
    (State.beginMigration h rest t s).mp = s.mp ∧ (State.beginMigration h rest t s).lli = s.lli ∧
    (State.beginMigration h rest t s).rc.geometry = s.rc.geometry ∧ (State.beginMigration h rest t s).rc.segs.length = s.rc.segs.length ∧
    (State.beginMigration h rest t s).rc.remap.length = s.rc.remap.length ∧ (State.beginMigration h rest t s).se = s.se ∧
    (State.beginMigration h rest t s).ru = s.ru ∧ (State.beginMigration h rest t s).aa = s.aa ∧
    (State.beginMigration h rest t s).hm = s.hm ∧ (State.beginMigration h rest t s).fcu = s.fcu ∧
    (State.beginMigration h rest t s).alu = s.alu ∧ (State.beginMigration h rest t s).array = s.array := by
  unfold State.beginMigration
  repeat' split
  all_goals simp

@[simp] theorem State.startFrom_frame (q : List RetireEntry) (s : State) :
    (State.startFrom q s).pending = s.pending ∧ (State.startFrom q s).mode = s.mode ∧ (State.startFrom q s).aselPins = s.aselPins ∧
    (State.startFrom q s).aselLatch = s.aselLatch ∧ (State.startFrom q s).initElapsed = s.initElapsed ∧
    (State.startFrom q s).settings = s.settings ∧ (State.startFrom q s).mp = s.mp ∧ (State.startFrom q s).lli = s.lli ∧
    (State.startFrom q s).rc.geometry = s.rc.geometry ∧ (State.startFrom q s).rc.segs.length = s.rc.segs.length ∧
    (State.startFrom q s).rc.remap.length = s.rc.remap.length ∧ (State.startFrom q s).se = s.se ∧ (State.startFrom q s).ru = s.ru ∧
    (State.startFrom q s).aa = s.aa ∧ (State.startFrom q s).hm = s.hm ∧ (State.startFrom q s).fcu = s.fcu ∧
    (State.startFrom q s).array = s.array := by
  induction q generalizing s with
  | nil => simp [State.startFrom]
  | cons h rest ih =>
    unfold State.startFrom
    repeat' split
    all_goals simp [ih]

@[simp] theorem State.migrationStart_frame (s : State) :
    (State.migrationStart s).pending = s.pending ∧ (State.migrationStart s).mode = s.mode ∧
    (State.migrationStart s).aselPins = s.aselPins ∧ (State.migrationStart s).aselLatch = s.aselLatch ∧
    (State.migrationStart s).initElapsed = s.initElapsed ∧ (State.migrationStart s).settings = s.settings ∧
    (State.migrationStart s).mp = s.mp ∧ (State.migrationStart s).lli = s.lli ∧ (State.migrationStart s).rc.geometry = s.rc.geometry ∧
    (State.migrationStart s).rc.segs.length = s.rc.segs.length ∧ (State.migrationStart s).rc.remap.length = s.rc.remap.length ∧
    (State.migrationStart s).se = s.se ∧ (State.migrationStart s).ru = s.ru ∧ (State.migrationStart s).aa = s.aa ∧
    (State.migrationStart s).hm = s.hm ∧ (State.migrationStart s).fcu = s.fcu ∧ (State.migrationStart s).array = s.array := by
  unfold State.migrationStart
  repeat' split
  all_goals simp

@[simp] theorem State.retireOffer_frame (p : Nat) (s : State) :
    (State.retireOffer p s).pending = s.pending ∧ (State.retireOffer p s).mode = s.mode ∧ (State.retireOffer p s).aselPins = s.aselPins ∧
    (State.retireOffer p s).aselLatch = s.aselLatch ∧ (State.retireOffer p s).initElapsed = s.initElapsed ∧
    (State.retireOffer p s).settings = s.settings ∧ (State.retireOffer p s).mp = s.mp ∧ (State.retireOffer p s).lli = s.lli ∧
    (State.retireOffer p s).rc.geometry = s.rc.geometry ∧ (State.retireOffer p s).rc.segs.length = s.rc.segs.length ∧
    (State.retireOffer p s).rc.remap.length = s.rc.remap.length ∧ (State.retireOffer p s).se = s.se ∧ (State.retireOffer p s).ru = s.ru ∧
    (State.retireOffer p s).aa = s.aa ∧ (State.retireOffer p s).hm = s.hm ∧ (State.retireOffer p s).fcu = s.fcu ∧
    (State.retireOffer p s).array = s.array := by
  unfold State.retireOffer
  repeat' split
  all_goals simp

@[simp] theorem State.enterAlarm_frame (p : Nat) (reason : AlarmReason) (s : State) :
    (State.enterAlarm p reason s).pending = s.pending ∧ (State.enterAlarm p reason s).mode = s.mode ∧
    (State.enterAlarm p reason s).aselPins = s.aselPins ∧ (State.enterAlarm p reason s).aselLatch = s.aselLatch ∧
    (State.enterAlarm p reason s).initElapsed = s.initElapsed ∧ (State.enterAlarm p reason s).settings = s.settings ∧
    (State.enterAlarm p reason s).mp = s.mp ∧ (State.enterAlarm p reason s).lli = s.lli ∧
    (State.enterAlarm p reason s).rc.geometry = s.rc.geometry ∧ (State.enterAlarm p reason s).rc.segs.length = s.rc.segs.length ∧
    (State.enterAlarm p reason s).rc.remap.length = s.rc.remap.length ∧ (State.enterAlarm p reason s).se = s.se ∧
    (State.enterAlarm p reason s).ru = s.ru ∧ (State.enterAlarm p reason s).aa = s.aa ∧ (State.enterAlarm p reason s).fcu = s.fcu ∧
    (State.enterAlarm p reason s).array = s.array := by
  simp [State.enterAlarm]

@[simp] theorem State.countCorrected_frame (p : Nat) (s : State) :
    (State.countCorrected p s).pending = s.pending ∧ (State.countCorrected p s).mode = s.mode ∧
    (State.countCorrected p s).aselPins = s.aselPins ∧ (State.countCorrected p s).aselLatch = s.aselLatch ∧
    (State.countCorrected p s).initElapsed = s.initElapsed ∧ (State.countCorrected p s).settings = s.settings ∧
    (State.countCorrected p s).mp = s.mp ∧ (State.countCorrected p s).lli = s.lli ∧ (State.countCorrected p s).rc = s.rc ∧
    (State.countCorrected p s).me = s.me ∧ (State.countCorrected p s).se = s.se ∧ (State.countCorrected p s).ru = s.ru ∧
    (State.countCorrected p s).aa = s.aa ∧ (State.countCorrected p s).fcu = s.fcu ∧ (State.countCorrected p s).alu = s.alu ∧
    (State.countCorrected p s).array = s.array := by
  unfold State.countCorrected
  repeat' split
  all_goals simp

@[simp] theorem State.offerRepair_frame (a : WordAddr) (d : Word) (s : State) :
    (State.offerRepair a d s).pending = s.pending ∧ (State.offerRepair a d s).mode = s.mode ∧
    (State.offerRepair a d s).aselPins = s.aselPins ∧ (State.offerRepair a d s).aselLatch = s.aselLatch ∧
    (State.offerRepair a d s).initElapsed = s.initElapsed ∧ (State.offerRepair a d s).settings = s.settings ∧
    (State.offerRepair a d s).mp = s.mp ∧ (State.offerRepair a d s).lli = s.lli ∧ (State.offerRepair a d s).rc = s.rc ∧
    (State.offerRepair a d s).me = s.me ∧ (State.offerRepair a d s).se = s.se ∧ (State.offerRepair a d s).aa = s.aa ∧
    (State.offerRepair a d s).hm = s.hm ∧ (State.offerRepair a d s).fcu = s.fcu ∧ (State.offerRepair a d s).array = s.array := by
  unfold State.offerRepair
  repeat' split
  all_goals simp

@[simp] theorem State.completeCalibrate_frame (s : State) :
    (State.completeCalibrate s).pending = s.pending ∧ (State.completeCalibrate s).mode = s.mode ∧
    (State.completeCalibrate s).aselPins = s.aselPins ∧ (State.completeCalibrate s).aselLatch = s.aselLatch ∧
    (State.completeCalibrate s).initElapsed = s.initElapsed ∧ (State.completeCalibrate s).settings = s.settings ∧
    (State.completeCalibrate s).lli = s.lli ∧ (State.completeCalibrate s).rc = s.rc ∧ (State.completeCalibrate s).me = s.me ∧
    (State.completeCalibrate s).ru = s.ru ∧ (State.completeCalibrate s).aa = s.aa ∧ (State.completeCalibrate s).fcu = s.fcu ∧
    (State.completeCalibrate s).array = s.array := by
  unfold State.completeCalibrate
  repeat' split
  all_goals simp

@[simp] theorem State.uncorrectableReport_frame (p : Nat) (s : State) :
    (State.uncorrectableReport p s).pending = s.pending ∧ (State.uncorrectableReport p s).mode = s.mode ∧
    (State.uncorrectableReport p s).aselPins = s.aselPins ∧ (State.uncorrectableReport p s).aselLatch = s.aselLatch ∧
    (State.uncorrectableReport p s).initElapsed = s.initElapsed ∧ (State.uncorrectableReport p s).settings = s.settings ∧
    (State.uncorrectableReport p s).lli = s.lli ∧ (State.uncorrectableReport p s).rc.geometry = s.rc.geometry ∧
    (State.uncorrectableReport p s).rc.segs.length = s.rc.segs.length ∧
    (State.uncorrectableReport p s).rc.remap.length = s.rc.remap.length ∧ (State.uncorrectableReport p s).ru = s.ru ∧
    (State.uncorrectableReport p s).aa = s.aa ∧ (State.uncorrectableReport p s).fcu = s.fcu ∧
    (State.uncorrectableReport p s).array = s.array := by
  unfold State.uncorrectableReport
  repeat' split
  all_goals simp

@[simp] theorem State.retireHealth_frame (p : Nat) (s : State) :
    (State.retireHealth p s).pending = s.pending ∧ (State.retireHealth p s).mode = s.mode ∧
    (State.retireHealth p s).aselPins = s.aselPins ∧ (State.retireHealth p s).aselLatch = s.aselLatch ∧
    (State.retireHealth p s).initElapsed = s.initElapsed ∧ (State.retireHealth p s).settings = s.settings ∧
    (State.retireHealth p s).lli = s.lli ∧ (State.retireHealth p s).rc = s.rc ∧ (State.retireHealth p s).me = s.me ∧
    (State.retireHealth p s).ru = s.ru ∧ (State.retireHealth p s).aa = s.aa ∧ (State.retireHealth p s).fcu = s.fcu ∧
    (State.retireHealth p s).array = s.array := by
  unfold State.retireHealth
  repeat' split
  all_goals simp

@[simp] theorem State.handleWords_frame (offer : Bool) (segment line : Nat) (ws : List (Nat × StoredWord)) (s : State) :
    (State.handleWords offer segment line ws s).pending = s.pending ∧ (State.handleWords offer segment line ws s).mode = s.mode ∧
    (State.handleWords offer segment line ws s).aselPins = s.aselPins ∧
    (State.handleWords offer segment line ws s).aselLatch = s.aselLatch ∧
    (State.handleWords offer segment line ws s).initElapsed = s.initElapsed ∧
    (State.handleWords offer segment line ws s).settings = s.settings ∧ (State.handleWords offer segment line ws s).lli = s.lli ∧
    (State.handleWords offer segment line ws s).rc.geometry = s.rc.geometry ∧
    (State.handleWords offer segment line ws s).rc.segs.length = s.rc.segs.length ∧
    (State.handleWords offer segment line ws s).rc.remap.length = s.rc.remap.length ∧
    (State.handleWords offer segment line ws s).fcu = s.fcu ∧ (State.handleWords offer segment line ws s).array = s.array := by
  induction ws generalizing s with
  | nil => simp [State.handleWords]
  | cons x rest ih =>
    obtain ⟨w, x⟩ := x
    unfold State.handleWords
    split <;> simp [ih]
    split <;> simp

@[simp] theorem State.reportWords_frame (mk : FaultKind → Nat → Byte → FaultReport) (ws : List (Nat × StoredWord)) (s : State) :
    (State.reportWords mk ws s).pending = s.pending ∧ (State.reportWords mk ws s).mode = s.mode ∧
    (State.reportWords mk ws s).aselPins = s.aselPins ∧ (State.reportWords mk ws s).aselLatch = s.aselLatch ∧
    (State.reportWords mk ws s).initElapsed = s.initElapsed ∧ (State.reportWords mk ws s).settings = s.settings ∧
    (State.reportWords mk ws s).mp = s.mp ∧ (State.reportWords mk ws s).lli = s.lli ∧ (State.reportWords mk ws s).rc = s.rc ∧
    (State.reportWords mk ws s).me = s.me ∧ (State.reportWords mk ws s).se = s.se ∧ (State.reportWords mk ws s).ru = s.ru ∧
    (State.reportWords mk ws s).aa = s.aa ∧ (State.reportWords mk ws s).hm = s.hm ∧ (State.reportWords mk ws s).array = s.array := by
  unfold State.reportWords
  repeat' split
  all_goals simp

@[simp] theorem State.retestHold_frame (s : State) :
    (State.retestHold s).pending = s.pending ∧ (State.retestHold s).mode = s.mode ∧ (State.retestHold s).aselPins = s.aselPins ∧
    (State.retestHold s).aselLatch = s.aselLatch ∧ (State.retestHold s).initElapsed = s.initElapsed ∧
    (State.retestHold s).settings = s.settings ∧ (State.retestHold s).mp = s.mp ∧ (State.retestHold s).rc = s.rc ∧
    (State.retestHold s).me = s.me ∧ (State.retestHold s).se = s.se ∧ (State.retestHold s).ru = s.ru ∧ (State.retestHold s).aa = s.aa ∧
    (State.retestHold s).hm = s.hm ∧ (State.retestHold s).fcu = s.fcu ∧ (State.retestHold s).alu = s.alu ∧
    (State.retestHold s).array = s.array := by
  unfold State.retestHold
  repeat' split
  all_goals simp

@[simp] theorem State.beginRequests_frame (s : State) :
    (State.beginRequests s).pending = s.pending ∧ (State.beginRequests s).mode = s.mode ∧ (State.beginRequests s).aselPins = s.aselPins ∧
    (State.beginRequests s).aselLatch = s.aselLatch ∧ (State.beginRequests s).initElapsed = s.initElapsed ∧
    (State.beginRequests s).settings = s.settings ∧ (State.beginRequests s).mp = s.mp ∧ (State.beginRequests s).rc = s.rc ∧
    (State.beginRequests s).me = s.me ∧ (State.beginRequests s).se = s.se ∧ (State.beginRequests s).ru = s.ru ∧
    (State.beginRequests s).aa = s.aa ∧ (State.beginRequests s).hm = s.hm ∧ (State.beginRequests s).fcu = s.fcu ∧
    (State.beginRequests s).alu = s.alu ∧ (State.beginRequests s).array = s.array := by
  unfold State.beginRequests
  repeat' split
  all_goals simp

@[simp] theorem State.storeLine_frame (op : PortOp) (s : State) :
    (State.storeLine op s).pending = s.pending ∧ (State.storeLine op s).mode = s.mode ∧ (State.storeLine op s).aselPins = s.aselPins ∧
    (State.storeLine op s).aselLatch = s.aselLatch ∧ (State.storeLine op s).initElapsed = s.initElapsed ∧
    (State.storeLine op s).settings = s.settings ∧ (State.storeLine op s).mp = s.mp ∧ (State.storeLine op s).lli = s.lli ∧
    (State.storeLine op s).rc = s.rc ∧ (State.storeLine op s).me = s.me ∧ (State.storeLine op s).se = s.se ∧
    (State.storeLine op s).ru = s.ru ∧ (State.storeLine op s).aa = s.aa ∧ (State.storeLine op s).hm = s.hm ∧
    (State.storeLine op s).fcu = s.fcu ∧ (State.storeLine op s).alu = s.alu := by
  unfold State.storeLine
  repeat' split
  all_goals simp

@[simp] theorem State.markRedo_frame (p n : Nat) (s : State) :
    (State.markRedo p n s).pending = s.pending ∧ (State.markRedo p n s).mode = s.mode ∧ (State.markRedo p n s).aselPins = s.aselPins ∧
    (State.markRedo p n s).aselLatch = s.aselLatch ∧ (State.markRedo p n s).initElapsed = s.initElapsed ∧
    (State.markRedo p n s).settings = s.settings ∧ (State.markRedo p n s).mp = s.mp ∧ (State.markRedo p n s).lli = s.lli ∧
    (State.markRedo p n s).rc = s.rc ∧ (State.markRedo p n s).se = s.se ∧ (State.markRedo p n s).ru = s.ru ∧
    (State.markRedo p n s).aa = s.aa ∧ (State.markRedo p n s).hm = s.hm ∧ (State.markRedo p n s).fcu = s.fcu ∧
    (State.markRedo p n s).alu = s.alu ∧ (State.markRedo p n s).array = s.array := by
  unfold State.markRedo
  repeat' split
  all_goals simp

@[simp] theorem State.issueDemand_frame (r : Request) (ph : DemandPhase) (g : Nat) (s : State) :
    (State.issueDemand r ph g s).pending = s.pending ∧ (State.issueDemand r ph g s).mode = s.mode ∧
    (State.issueDemand r ph g s).aselPins = s.aselPins ∧ (State.issueDemand r ph g s).aselLatch = s.aselLatch ∧
    (State.issueDemand r ph g s).initElapsed = s.initElapsed ∧ (State.issueDemand r ph g s).settings = s.settings ∧
    (State.issueDemand r ph g s).mp = s.mp ∧ (State.issueDemand r ph g s).rc = s.rc ∧ (State.issueDemand r ph g s).se = s.se ∧
    (State.issueDemand r ph g s).hm = s.hm ∧ (State.issueDemand r ph g s).fcu = s.fcu ∧ (State.issueDemand r ph g s).alu = s.alu ∧
    (State.issueDemand r ph g s).array = s.array := by
  unfold State.issueDemand
  repeat' split
  all_goals simp

@[simp] theorem State.grantDemand_frame (s : State) :
    (State.grantDemand s).pending = s.pending ∧ (State.grantDemand s).mode = s.mode ∧ (State.grantDemand s).aselPins = s.aselPins ∧
    (State.grantDemand s).aselLatch = s.aselLatch ∧ (State.grantDemand s).initElapsed = s.initElapsed ∧
    (State.grantDemand s).settings = s.settings ∧ (State.grantDemand s).mp = s.mp ∧ (State.grantDemand s).rc = s.rc ∧
    (State.grantDemand s).se = s.se ∧ (State.grantDemand s).hm = s.hm ∧ (State.grantDemand s).array = s.array := by
  unfold State.grantDemand
  repeat' split
  all_goals simp

@[simp] theorem State.grantRepair_frame (s : State) :
    (State.grantRepair s).pending = s.pending ∧ (State.grantRepair s).mode = s.mode ∧ (State.grantRepair s).aselPins = s.aselPins ∧
    (State.grantRepair s).aselLatch = s.aselLatch ∧ (State.grantRepair s).initElapsed = s.initElapsed ∧
    (State.grantRepair s).settings = s.settings ∧ (State.grantRepair s).mp = s.mp ∧ (State.grantRepair s).lli = s.lli ∧
    (State.grantRepair s).rc = s.rc ∧ (State.grantRepair s).me = s.me ∧ (State.grantRepair s).se = s.se ∧ (State.grantRepair s).hm = s.hm ∧
    (State.grantRepair s).fcu = s.fcu ∧ (State.grantRepair s).alu = s.alu ∧ (State.grantRepair s).array = s.array := by
  unfold State.grantRepair
  repeat' split
  all_goals simp

@[simp] theorem State.grantMigration_frame (s : State) :
    (State.grantMigration s).pending = s.pending ∧ (State.grantMigration s).mode = s.mode ∧
    (State.grantMigration s).aselPins = s.aselPins ∧ (State.grantMigration s).aselLatch = s.aselLatch ∧
    (State.grantMigration s).initElapsed = s.initElapsed ∧ (State.grantMigration s).settings = s.settings ∧
    (State.grantMigration s).mp = s.mp ∧ (State.grantMigration s).lli = s.lli ∧ (State.grantMigration s).rc = s.rc ∧
    (State.grantMigration s).se = s.se ∧ (State.grantMigration s).hm = s.hm ∧ (State.grantMigration s).fcu = s.fcu ∧
    (State.grantMigration s).alu = s.alu ∧ (State.grantMigration s).array = s.array := by
  unfold State.grantMigration
  repeat' split
  all_goals simp

@[simp] theorem State.grantSweep_frame (s : State) :
    (State.grantSweep s).pending = s.pending ∧ (State.grantSweep s).mode = s.mode ∧ (State.grantSweep s).aselPins = s.aselPins ∧
    (State.grantSweep s).aselLatch = s.aselLatch ∧ (State.grantSweep s).initElapsed = s.initElapsed ∧
    (State.grantSweep s).settings = s.settings ∧ (State.grantSweep s).mp = s.mp ∧ (State.grantSweep s).lli = s.lli ∧
    (State.grantSweep s).rc = s.rc ∧ (State.grantSweep s).me = s.me ∧ (State.grantSweep s).hm = s.hm ∧ (State.grantSweep s).fcu = s.fcu ∧
    (State.grantSweep s).alu = s.alu ∧ (State.grantSweep s).array = s.array := by
  unfold State.grantSweep
  repeat' split
  all_goals simp

@[simp] theorem State.grantBackground_frame (s : State) :
    (State.grantBackground s).pending = s.pending ∧ (State.grantBackground s).mode = s.mode ∧
    (State.grantBackground s).aselPins = s.aselPins ∧ (State.grantBackground s).aselLatch = s.aselLatch ∧
    (State.grantBackground s).initElapsed = s.initElapsed ∧ (State.grantBackground s).settings = s.settings ∧
    (State.grantBackground s).mp = s.mp ∧ (State.grantBackground s).lli = s.lli ∧ (State.grantBackground s).rc = s.rc ∧
    (State.grantBackground s).hm = s.hm ∧ (State.grantBackground s).fcu = s.fcu ∧ (State.grantBackground s).alu = s.alu ∧
    (State.grantBackground s).array = s.array := by
  unfold State.grantBackground
  repeat' split
  all_goals simp

@[simp] theorem State.chooseFrom_frame (n : Nat) (s : State) :
    (State.chooseFrom n s).pending = s.pending ∧ (State.chooseFrom n s).mode = s.mode ∧ (State.chooseFrom n s).aselPins = s.aselPins ∧
    (State.chooseFrom n s).aselLatch = s.aselLatch ∧ (State.chooseFrom n s).initElapsed = s.initElapsed ∧
    (State.chooseFrom n s).settings = s.settings ∧ (State.chooseFrom n s).mp = s.mp ∧ (State.chooseFrom n s).rc = s.rc ∧
    (State.chooseFrom n s).hm = s.hm ∧ (State.chooseFrom n s).array = s.array := by
  induction n generalizing s with
  | zero => simp [State.chooseFrom]
  | succ n ih =>
    unfold State.chooseFrom
    repeat' split
    all_goals simp [ih]

@[simp] theorem State.arrayGrant_frame (s : State) :
    (State.arrayGrant s).pending = s.pending ∧ (State.arrayGrant s).mode = s.mode ∧ (State.arrayGrant s).aselPins = s.aselPins ∧
    (State.arrayGrant s).aselLatch = s.aselLatch ∧ (State.arrayGrant s).initElapsed = s.initElapsed ∧
    (State.arrayGrant s).settings = s.settings ∧ (State.arrayGrant s).mp = s.mp ∧ (State.arrayGrant s).rc = s.rc ∧
    (State.arrayGrant s).hm = s.hm ∧ (State.arrayGrant s).array = s.array := by
  unfold State.arrayGrant
  repeat' split
  all_goals simp

@[simp] theorem State.quiesceComplete_frame (s : State) :
    (State.quiesceComplete s).pending = s.pending ∧ (State.quiesceComplete s).mode = s.mode ∧
    (State.quiesceComplete s).aselPins = s.aselPins ∧ (State.quiesceComplete s).aselLatch = s.aselLatch ∧
    (State.quiesceComplete s).initElapsed = s.initElapsed ∧ (State.quiesceComplete s).settings = s.settings ∧
    (State.quiesceComplete s).lli = s.lli ∧ (State.quiesceComplete s).rc = s.rc ∧ (State.quiesceComplete s).me = s.me ∧
    (State.quiesceComplete s).se = s.se ∧ (State.quiesceComplete s).ru = s.ru ∧ (State.quiesceComplete s).aa = s.aa ∧
    (State.quiesceComplete s).hm = s.hm ∧ (State.quiesceComplete s).fcu = s.fcu ∧ (State.quiesceComplete s).array = s.array := by
  unfold State.quiesceComplete
  repeat' split
  all_goals simp

@[simp] theorem State.settle_frame (s : State) :
    (State.settle s).pending = s.pending ∧ (State.settle s).mode = s.mode ∧ (State.settle s).aselPins = s.aselPins ∧
    (State.settle s).aselLatch = s.aselLatch ∧ (State.settle s).initElapsed = s.initElapsed ∧ (State.settle s).settings = s.settings ∧
    (State.settle s).rc.geometry = s.rc.geometry ∧ (State.settle s).rc.segs.length = s.rc.segs.length ∧
    (State.settle s).rc.remap.length = s.rc.remap.length ∧ (State.settle s).hm = s.hm ∧ (State.settle s).array = s.array := by
  simp [State.settle]

end Sys2Proof.Machine
end

