-- ==== Sys2Proof/Laws/Reads.lean ====
section
/-! SUPPORT. What the words of a completed read do, said once: counts, the hold-off, the record, offers (R52, R73, R80, R109, R126), and the fault report (R53, R54, R94). -/

namespace Sys2Proof.Machine

/-- The record of `q` after the record of `p` is replaced. -/
theorem State.health_putHealth (p q : Nat) (r : HealthRecord) (s : State) :
    (State.putHealth p r s).health q = if q = p ∧ p < s.hm.table.length then r else s.health q := by
  unfold State.health State.putHealth
  simp only [List.getD_eq_getElem?_getD, List.getElem?_set]
  split_ifs <;> simp_all

/-- A record beyond the table reads UNTRACKED. -/
theorem State.health_of_le (p : Nat) (s : State) (h : s.hm.table.length ≤ p) : s.health p = .untracked .independent := by
  simp [State.health, List.getD_eq_getElem?_getD, h]

/-- Equal tables have equal records. -/
theorem State.health_congr {s t : State} (h : t.hm.table = s.hm.table) (p : Nat) : t.health p = s.health p := by
  simp [State.health, h]

/-- The end of a CALIBRATE changes no record. -/
@[simp] theorem State.completeCalibrate_table (s : State) : s.completeCalibrate.hm.table = s.hm.table := by
  unfold State.completeCalibrate
  split <;> simp

/-- One corrected word's count (R109). -/
theorem State.health_countCorrected (p q : Nat) (s : State) :
    (State.countCorrected p s).health q =
      if q = p ∧ (s.health p).state ≠ .untracked then { s.health p with raw := min 255 ((s.health p).raw + 1) }
      else s.health q := by
  unfold State.countCorrected
  by_cases h : (s.health p).state = .untracked
  · simp [HealthRecord.tracked, h]
  · have hp : p < s.hm.table.length := by
      by_contra hc
      exact h (by rw [State.health_of_le p s (by omega)]; rfl)
    simp [HealthRecord.tracked, h, State.health_putHealth, hp]

/-- The record entering ALARM (R124). -/
theorem State.health_enterAlarm (p q : Nat) (reason : AlarmReason) (s : State) :
    (State.enterAlarm p reason s).health q =
      if q = p ∧ p < s.hm.table.length then (s.health p).alarmed reason else s.health q := by
  rw [← State.health_putHealth]
  exact State.health_congr (by simp [State.enterAlarm]) q

/-- A cause flag once set stays set as others are. -/
theorem AlertUnit.isSet_set (a : AlertUnit) (c d : Cause) : (a.set c).isSet d = (a.isSet d || c == d) := by
  cases c <;> cases d <;> simp [AlertUnit.set, AlertUnit.isSet, Cause.mask, Cause.bit]

/-! ## Cause flags stay set within an event (R178) -/

/-- Flags set in `s` are set in `t`. -/
def State.KeepsCauses (s t : State) : Prop := ∀ c : Cause, s.alu.isSet c = true → t.alu.isSet c = true

theorem State.KeepsCauses.of_alu {s t : State} (h : t.alu = s.alu) : s.KeepsCauses t := by
  intro c hc
  rw [h]
  exact hc

theorem State.KeepsCauses.of_causes {s t : State} (h : t.alu.causes = s.alu.causes) : s.KeepsCauses t := by
  intro c hc
  simpa [AlertUnit.isSet, h] using hc

theorem State.KeepsCauses.of_set {s t : State} {d : Cause} (h : t.alu = s.alu.set d) : s.KeepsCauses t := by
  intro c hc
  rw [h, AlertUnit.isSet_set, hc]
  rfl

theorem State.KeepsCauses.trans {s t u : State} (h : s.KeepsCauses t) (h' : t.KeepsCauses u) : s.KeepsCauses u :=
  fun c hc => h' c (h c hc)

theorem State.keeps_startFrom (q : List RetireEntry) (s : State) : s.KeepsCauses (State.startFrom q s) := by
  induction q generalizing s with
  | nil => exact .of_alu rfl
  | cons h rest ih =>
    unfold State.startFrom
    split
    · exact .of_alu rfl
    · split
      · exact .of_alu (by simp)
      · exact .trans (t := State.setCause .sparesExhausted s) (.of_set rfl) (ih _)

theorem State.keeps_migrationStart (s : State) : s.KeepsCauses s.migrationStart := by
  unfold State.migrationStart
  split
  · exact State.keeps_startFrom _ _
  · exact .of_alu rfl

theorem State.keeps_retireOffer (p : Nat) (s : State) : s.KeepsCauses (State.retireOffer p s) := by
  unfold State.retireOffer
  split
  · exact .of_alu rfl
  · rename_i g _
    split_ifs
    · exact .of_alu rfl
    · exact .of_alu rfl
    · exact .of_set rfl
    · exact .of_alu rfl
    · exact .trans (t := State.appendRetire g .auto s) (.of_alu rfl) (State.keeps_migrationStart _)

theorem State.keeps_enterAlarm (p : Nat) (reason : AlarmReason) (s : State) : s.KeepsCauses (State.enterAlarm p reason s) :=
  .trans (t := State.setCause reason.cause (State.putHealth p ((s.health p).alarmed reason) s)) (.of_set rfl)
    (State.keeps_retireOffer _ _)

/-- Entering ALARM sets its cause (R124). -/
theorem State.enterAlarm_cause (p : Nat) (reason : AlarmReason) (s : State) :
    (State.enterAlarm p reason s).alu.isSet reason.cause = true :=
  State.keeps_retireOffer _ _ _ (by simp [AlertUnit.isSet_set])

theorem State.keeps_completeCalibrate (s : State) : s.KeepsCauses s.completeCalibrate := by
  unfold State.completeCalibrate
  split
  · exact .of_set (d := .commandDone) (by simp)
  · exact .of_alu rfl

theorem State.keeps_uncorrectableReport (p : Nat) (s : State) : s.KeepsCauses (State.uncorrectableReport p s) := by
  unfold State.uncorrectableReport
  split
  · exact .of_alu rfl
  · exact .of_alu rfl
  · exact State.keeps_enterAlarm _ _ _
  · exact State.keeps_enterAlarm _ _ _
  · intro c hc
    exact State.keeps_completeCalibrate _ c (State.keeps_enterAlarm p .uncorrectable s c hc)

theorem State.keeps_offerRepair (a : WordAddr) (d : Word) (s : State) : s.KeepsCauses (State.offerRepair a d s) := by
  unfold State.offerRepair
  split_ifs
  · exact .of_alu rfl
  · exact .of_alu rfl
  · exact .of_set rfl
  · exact .of_alu rfl

/-! ## One word (R52, R109, R126) -/

/-- An uncorrectable report moves a record in this state (R126). -/
def HealthState.open : HealthState → Bool
  | .untracked => false
  | .alarm _ => false
  | .quiet => true
  | .watch _ _ => true
  | .baseline _ => true

theorem HealthState.open_eq_false (x : HealthState) : x.open = false ↔ x = .untracked ∨ ∃ reason, x = .alarm reason := by
  cases x <;> simp [HealthState.open]

theorem State.health_cal (s : State) (c : CalState) (q : Nat) :
    State.health { s with hm := { s.hm with cal := c } } q = s.health q := rfl

/-- The record after an uncorrectable report (R126). -/
theorem State.health_uncorrectableReport (p q : Nat) (s : State) :
    (State.uncorrectableReport p s).health q =
      if q = p ∧ (s.health p).state.open = true then (s.health p).alarmed .uncorrectable else s.health q := by
  have hp : (s.health p).state ≠ .untracked → p < s.hm.table.length := by
    intro h
    by_contra hc
    exact h (by rw [State.health_of_le p s (by omega)]; rfl)
  have ha : p < s.hm.table.length → (State.enterAlarm p .uncorrectable s).health q =
      if q = p then (s.health p).alarmed .uncorrectable else s.health q := by
    intro hl
    simp [State.health_enterAlarm, hl]
  unfold State.uncorrectableReport
  cases h : (s.health p).state with
  | untracked => simp [HealthState.open]
  | alarm reason => simp [HealthState.open]
  | quiet => simp [ha (hp (by simp [h])), HealthState.open]
  | watch a snap => simp [ha (hp (by simp [h])), HealthState.open]
  | baseline left =>
    dsimp only
    rw [State.health_congr (State.completeCalibrate_table _) q, State.health_cal, ha (hp (by simp [h]))]
    simp [HealthState.open]

/-- An uncorrectable report for a record that it moves sets ALARM_ENTERED (R124, R126). -/
theorem State.uncorrectableReport_cause (p : Nat) (s : State) (h : (s.health p).state.open = true) :
    (State.uncorrectableReport p s).alu.isSet .alarmEntered = true := by
  unfold State.uncorrectableReport
  cases hs : (s.health p).state with
  | untracked => simp [hs, HealthState.open] at h
  | alarm reason => simp [hs, HealthState.open] at h
  | quiet => exact State.enterAlarm_cause p .uncorrectable s
  | watch a snap => exact State.enterAlarm_cause p .uncorrectable s
  | baseline left => exact State.keeps_completeCalibrate _ _ (State.enterAlarm_cause p .uncorrectable s)

/-! ## The words of a read -/

/-- One classified word's effects. -/
def State.handleWord (offer : Bool) (p line w : Nat) (x : StoredWord) (s : State) : State :=
  match classify x with
  | .clean => s
  | .poison => s
  | .corrected =>
    if offer then State.offerRepair ⟨p, line, w⟩ (deliveredData x) (State.countCorrected p s)
    else State.countCorrected p s
  | .uncorrectable => State.uncorrectableReport p (State.startHoldOff s)

theorem State.handleWords_cons (offer : Bool) (p line w : Nat) (x : StoredWord) (rest : List (Nat × StoredWord)) (s : State) :
    State.handleWords offer p line ((w, x) :: rest) s =
      State.handleWords offer p line rest (State.handleWord offer p line w x s) := rfl

/-- The record after one word. -/
theorem State.health_handleWord (offer : Bool) (p line w : Nat) (x : StoredWord) (q : Nat) (s : State) :
    (State.handleWord offer p line w x s).health q =
      if q = p then
        if classify x = .corrected ∧ (s.health p).state ≠ .untracked then
          { s.health p with raw := min 255 ((s.health p).raw + 1) }
        else if classify x = .uncorrectable ∧ (s.health p).state.open = true then (s.health p).alarmed .uncorrectable
        else s.health p
      else s.health q := by
  unfold State.handleWord
  cases h : classify x with
  | clean => by_cases hq : q = p <;> simp [hq]
  | poison => by_cases hq : q = p <;> simp [hq]
  | corrected =>
    have : ∀ t : State, (State.offerRepair ⟨p, line, w⟩ (deliveredData x) t).health q = t.health q :=
      fun t => State.health_congr (by simp) q
    have := this (State.countCorrected p s)
    by_cases hq : q = p <;> cases offer <;> simp_all [State.health_countCorrected]
  | uncorrectable =>
    have : ∀ r, (State.startHoldOff s).health r = s.health r := fun r => State.health_congr (by simp) r
    by_cases hq : q = p <;> simp [State.health_uncorrectableReport, this, hq]

/-- The hold-off after one word (R73). -/
theorem State.holdOff_handleWord (offer : Bool) (p line w : Nat) (x : StoredWord) (s : State) :
    (State.handleWord offer p line w x s).aa.holdOff =
      if classify x = .uncorrectable ∧ s.settings.holdOffLength ≠ 0 then some (1000 * s.settings.holdOffLength)
      else s.aa.holdOff := by
  unfold State.handleWord
  cases h : classify x with
  | clean => simp
  | poison => simp
  | corrected => cases offer <;> simp
  | uncorrectable =>
    unfold State.startHoldOff
    split_ifs <;> simp_all

theorem State.settings_handleWord (offer : Bool) (p line w : Nat) (x : StoredWord) (s : State) :
    (State.handleWord offer p line w x s).settings = s.settings := by
  unfold State.handleWord
  repeat' split
  all_goals simp

theorem State.keeps_handleWord (offer : Bool) (p line w : Nat) (x : StoredWord) (s : State) :
    s.KeepsCauses (State.handleWord offer p line w x s) := by
  unfold State.handleWord
  split
  · exact .of_alu rfl
  · exact .of_alu rfl
  · split
    · exact .trans (t := State.countCorrected p s) (.of_alu (by simp)) (State.keeps_offerRepair _ _ _)
    · exact .of_alu (by simp)
  · exact .trans (t := State.startHoldOff s) (.of_alu (by simp)) (State.keeps_uncorrectableReport _ _)

theorem State.keeps_handleWords (offer : Bool) (p line : Nat) (ws : List (Nat × StoredWord)) (s : State) :
    s.KeepsCauses (State.handleWords offer p line ws s) := by
  induction ws generalizing s with
  | nil => exact .of_alu rfl
  | cons x rest ih => exact .trans (State.keeps_handleWord offer p line x.1 x.2 s) (ih _)

/-- A record after a read that found `n` CORRECTED words and, where `met`, an UNCORRECTABLE one. -/
def HealthRecord.handled (n : Nat) (met : Bool) (r : HealthRecord) : HealthRecord :=
  let r' : HealthRecord := if n = 0 ∨ r.state = .untracked then r else { r with raw := min 255 (r.raw + n) }
  if met && r.state.open then r'.alarmed .uncorrectable else r'

theorem HealthRecord.handled_corrected (n : Nat) (met : Bool) (r : HealthRecord) :
    (r.handled 1 false).handled n met = r.handled (n + 1) met := by
  obtain ⟨state, role, raw, f, l, runCount, runKind, settle⟩ := r
  cases state <;> cases met <;> by_cases hn : n = 0 <;>
    simp [HealthRecord.handled, HealthState.open, HealthRecord.alarmed, hn] <;> omega

theorem HealthRecord.handled_uncorrectable (n : Nat) (met : Bool) (r : HealthRecord) :
    (r.handled 0 true).handled n met = r.handled n true := by
  obtain ⟨state, role, raw, f, l, runCount, runKind, settle⟩ := r
  cases state <;> cases met <;> by_cases hn : n = 0 <;>
    simp [HealthRecord.handled, HealthState.open, HealthRecord.alarmed, hn]

/-- After a read that met an UNCORRECTABLE word no further report moves the record. -/
theorem HealthRecord.handled_closed (n : Nat) (r : HealthRecord) : (r.handled n true).state.open = false := by
  obtain ⟨state, role, raw, f, l, runCount, runKind, settle⟩ := r
  cases state <;> by_cases hn : n = 0 <;> simp [HealthRecord.handled, HealthState.open, HealthRecord.alarmed, hn]

/-- An UNCORRECTABLE word is among the words. -/
def metUncorrectable (f : Nat → StoredWord) (ws : List Nat) : Bool := ws.any fun w => classify (f w) == .uncorrectable

theorem State.health_handleWord_handled (offer : Bool) (p line : Nat) (f : Nat → StoredWord) (w : Nat) (s : State) :
    (State.handleWord offer p line w (f w) s).health p =
      (s.health p).handled (correctedWords f [w]).length (metUncorrectable f [w]) := by
  rw [State.health_handleWord]
  by_cases hu : (s.health p).state = .untracked <;> cases h : classify (f w) <;>
    simp [correctedWords, metUncorrectable, h, hu, HealthRecord.handled, HealthState.open]

/-- The records after the words of a read (R109, R126). -/
theorem State.health_handleWords (offer : Bool) (p line : Nat) (f : Nat → StoredWord) (ws : List Nat) (q : Nat) (s : State) :
    (State.handleWords offer p line (ws.map fun w => (w, f w)) s).health q =
      if q = p then (s.health p).handled (correctedWords f ws).length (metUncorrectable f ws) else s.health q := by
  induction ws generalizing s with
  | nil => by_cases hq : q = p <;> simp [State.handleWords, correctedWords, metUncorrectable, HealthRecord.handled, hq]
  | cons w rest ih =>
    rw [List.map_cons, State.handleWords_cons, ih]
    by_cases hq : q = p
    · rw [if_pos hq, if_pos hq, State.health_handleWord_handled]
      cases h : classify (f w)
      all_goals simp [correctedWords, metUncorrectable, h]
      · simp [HealthRecord.handled]
      · exact HealthRecord.handled_corrected _ _ _
      · exact HealthRecord.handled_uncorrectable _ _ _
      · simp [HealthRecord.handled]
    · rw [if_neg hq, if_neg hq, State.health_handleWord, if_neg hq]

/-- The hold-off after the words of a read (R73). -/
theorem State.holdOff_handleWords (offer : Bool) (p line : Nat) (f : Nat → StoredWord) (ws : List Nat) (s : State) :
    (State.handleWords offer p line (ws.map fun w => (w, f w)) s).aa.holdOff =
      if metUncorrectable f ws = true ∧ s.settings.holdOffLength ≠ 0 then some (1000 * s.settings.holdOffLength)
      else s.aa.holdOff := by
  induction ws generalizing s with
  | nil => simp [State.handleWords, metUncorrectable]
  | cons w rest ih =>
    rw [List.map_cons, State.handleWords_cons, ih, State.settings_handleWord, State.holdOff_handleWord]
    by_cases h : classify (f w) = .uncorrectable <;> by_cases h0 : s.settings.holdOffLength = 0 <;>
      simp [metUncorrectable, h, h0]

/-- An UNCORRECTABLE word for a record that a report moves sets ALARM_ENTERED (R124). -/
theorem State.alarmEntered_handleWords (offer : Bool) (p line : Nat) (f : Nat → StoredWord) (ws : List Nat) (s : State)
    (hm : metUncorrectable f ws = true) (ho : (s.health p).state.open = true) :
    (State.handleWords offer p line (ws.map fun w => (w, f w)) s).alu.isSet .alarmEntered = true := by
  induction ws generalizing s with
  | nil => simp [metUncorrectable] at hm
  | cons w rest ih =>
    rw [List.map_cons, State.handleWords_cons]
    by_cases h : classify (f w) = .uncorrectable
    · refine State.keeps_handleWords _ _ _ _ _ _ ?_
      unfold State.handleWord
      rw [h]
      refine State.uncorrectableReport_cause p _ ?_
      rw [State.health_congr (s := s) (by simp) p]
      exact ho
    · refine ih _ (by simpa [metUncorrectable, h] using hm) ?_
      rw [State.health_handleWord_handled]
      simp only [metUncorrectable, List.any_cons, List.any_nil, beq_eq_false_iff_ne.mpr h, HealthRecord.handled]
      split_ifs <;> simp_all

/-- The words of a read, CORRECTED and UNCORRECTABLE alike: counts, hold-off, record (R73, R109, R126). -/
theorem State.handleWords_handles (offer : Bool) (p line : Nat) (f : Nat → StoredWord) (ws : List Nat) (s : State) :
    CountsCorrected p f ws s (State.handleWords offer p line (ws.map fun w => (w, f w)) s) ∧
      HandlesUncorrectable p f ws s (State.handleWords offer p line (ws.map fun w => (w, f w)) s) := by
  have hh := fun q => State.health_handleWords offer p line f ws q s
  have ho := State.holdOff_handleWords offer p line f ws s
  have ha := State.alarmEntered_handleWords offer p line f ws s
  have hmet : (∃ w ∈ ws, classify (f w) = .uncorrectable) ↔ metUncorrectable f ws = true := by simp [metUncorrectable]
  have hj := HealthState.open_eq_false (s.health p).state
  generalize State.handleWords offer p line (ws.map fun w => (w, f w)) s = t at *
  have hp := hh p
  simp only [if_true] at hp
  unfold CountsCorrected HandlesUncorrectable
  simp only [hmet, ← hj]
  refine ⟨?_, ?_, ?_, ?_, ?_, ?_⟩
  · rw [hp]
    unfold HealthRecord.handled
    split_ifs <;> simp_all [HealthRecord.alarmed]
  · intro hm
    rw [ho]
    by_cases h0 : s.settings.holdOffLength = 0 <;> simp [hm, h0]
  · intro hm
    simp [ho, hm]
  · intro hm hop
    refine ⟨ha hm (by simpa using hop), ?_⟩
    rw [hp]
    unfold HealthRecord.handled
    split_ifs <;> simp_all [HealthRecord.alarmed]
  · intro hm
    rw [hp]
    unfold HealthRecord.handled
    split_ifs <;> simp_all [HealthRecord.alarmed]
  · intro q hq
    rw [hh q, if_neg hq]

/-! ## Offers (R52, R80, R81) -/

/-- The Repair Unit finds the same in both states: its own state, and which segments are IN_USE (R80). -/
def State.OffersAlike (s t : State) : Prop := t.ru = s.ru ∧ ∀ p, (t.seg p).role = .inUse ↔ (s.seg p).role = .inUse

theorem State.OffersAlike.refl (s : State) : s.OffersAlike s := ⟨rfl, fun _ => Iff.rfl⟩

theorem State.OffersAlike.trans {s t u : State} (h : s.OffersAlike t) (h' : t.OffersAlike u) : s.OffersAlike u :=
  ⟨h'.1.trans h.1, fun p => (h'.2 p).trans (h.2 p)⟩

theorem State.OffersAlike.of_eq {s t : State} (hu : t.ru = s.ru) (hr : t.rc = s.rc) : s.OffersAlike t :=
  ⟨hu, fun p => by simp [State.seg, hr]⟩

/-- The lowest spare is SPARE_FREE (R21). -/
theorem State.lowestSpare_role {s : State} {t : Nat} (h : s.lowestSpare = some t) : (s.seg t).role = .spareFree := by
  obtain ⟨hl, hr, _⟩ := List.findIdx?_eq_some_iff_getElem.mp h
  simpa [State.seg, List.getD_eq_getElem?_getD, hl] using hr

theorem State.OffersAlike.startFrom (q : List RetireEntry) (s : State) : s.OffersAlike (State.startFrom q s) := by
  induction q generalizing s with
  | nil => exact .of_eq rfl rfl
  | cons h rest ih =>
    unfold State.startFrom
    split
    · exact .of_eq rfl rfl
    · split
      · rename_i t ht
        have hr := State.lowestSpare_role ht
        refine ⟨by simp, fun p => ?_⟩
        unfold State.beginMigration
        split
        · by_cases hp : t = p
          · subst hp
            by_cases hl : t < s.rc.segs.length <;> simp_all [State.seg, List.getD_eq_getElem?_getD]
          · simp [State.seg, List.getD_eq_getElem?_getD, hp]
        · rfl
      · exact .trans (t := State.setCause .sparesExhausted s) (.of_eq rfl rfl) (ih _)

theorem State.OffersAlike.retireOffer (p : Nat) (s : State) : s.OffersAlike (State.retireOffer p s) := by
  unfold State.retireOffer
  split
  · exact .refl s
  · rename_i g _
    split_ifs
    · exact .refl s
    · exact .refl s
    · exact .of_eq rfl rfl
    · exact .refl s
    · unfold State.migrationStart
      split
      · exact .trans (t := State.appendRetire g .auto s) (.of_eq rfl rfl) (.startFrom _ _)
      · exact .of_eq rfl rfl

theorem State.OffersAlike.enterAlarm (p : Nat) (reason : AlarmReason) (s : State) :
    s.OffersAlike (State.enterAlarm p reason s) :=
  .trans (t := State.setCause reason.cause (State.putHealth p ((s.health p).alarmed reason) s)) (.of_eq rfl rfl)
    (.retireOffer _ _)

theorem State.OffersAlike.uncorrectableReport (p : Nat) (s : State) : s.OffersAlike (State.uncorrectableReport p s) := by
  unfold State.uncorrectableReport
  split
  · exact .refl s
  · exact .refl s
  · exact .enterAlarm _ _ _
  · exact .enterAlarm _ _ _
  · exact .trans (.enterAlarm p .uncorrectable s) (.of_eq (by simp) (by simp))

/-- States in which offers find the same leave the same in the Repair Unit. -/
theorem State.OffersAlike.offer {s t : State} (h : s.OffersAlike t) (a : WordAddr) (d : Word) :
    (State.offerRepair a d s).OffersAlike (State.offerRepair a d t) := by
  obtain ⟨hu, hr⟩ := h
  have hb : ((t.seg a.segment).role != .inUse) = ((s.seg a.segment).role != .inUse) := by
    have := hr a.segment
    by_cases hs : (s.seg a.segment).role = .inUse <;> simp_all [bne]
  have hseg : ∀ (x : State) (p : Nat), (State.offerRepair a d x).seg p = x.seg p := by
    intro x p
    simp [State.seg]
  refine ⟨?_, fun p => by rw [hseg, hseg]; exact hr p⟩
  unfold State.offerRepair
  rw [hb, hu]
  split_ifs <;> simp [hu]

theorem State.OffersAlike.offers {s t : State} (h : s.OffersAlike t) (p line : Nat) (f : Nat → StoredWord) (ws : List Nat) :
    (ws.foldl (fun x w => State.offerRepair ⟨p, line, w⟩ (deliveredData (f w)) x) s).ru =
      (ws.foldl (fun x w => State.offerRepair ⟨p, line, w⟩ (deliveredData (f w)) x) t).ru := by
  induction ws generalizing s t with
  | nil => exact h.1.symm
  | cons w rest ih => exact ih (h.offer _ _)

/-- The offers of a read's words (R52, R81, R93). -/
theorem State.handleWords_offers (p line : Nat) (f : Nat → StoredWord) (ws : List Nat) (s : State) :
    OffersInOrder p line f ws s (State.handleWords true p line (ws.map fun w => (w, f w)) s) := by
  unfold OffersInOrder
  induction ws generalizing s with
  | nil => rfl
  | cons w rest ih =>
    rw [List.map_cons, State.handleWords_cons, ih]
    cases h : classify (f w) with
    | clean => simp [correctedWords, State.handleWord, h]
    | poison => simp [correctedWords, State.handleWord, h]
    | corrected =>
      simp only [correctedWords, State.handleWord, h, List.filter_cons, beq_self_eq_true, if_true, List.foldl_cons]
      exact (State.OffersAlike.offers ((State.OffersAlike.of_eq (by simp) (by simp)).offer _ _) p line f _).symm
    | uncorrectable =>
      simp only [correctedWords, State.handleWord, h, List.filter_cons]
      exact (State.OffersAlike.offers (.trans (t := State.startHoldOff s) (.of_eq (by simp) (by simp))
        (.uncorrectableReport _ _)) p line f _).symm

/-- Without offers the Repair Unit is as it was (R57, R153). -/
theorem State.handleWords_noOffers (p line : Nat) (ws : List (Nat × StoredWord)) (s : State) :
    (State.handleWords false p line ws s).ru = s.ru := by
  induction ws generalizing s with
  | nil => rfl
  | cons x rest ih =>
    rw [State.handleWords_cons, ih]
    unfold State.handleWord
    split <;> simp

/-! ## The retire offer of a read (R124 to R126, R150) -/

/-- All that a retire offer and a start test read is the same in both states, and SPARES_EXHAUSTED where set stays set. -/
def State.StartsAlike (s t : State) : Prop :=
  t.mode = s.mode ∧ t.settings = s.settings ∧ t.rc = s.rc ∧ t.me = s.me ∧ t.se.mode = s.se.mode ∧
    t.aa.holdOff = s.aa.holdOff ∧ (s.alu.isSet .sparesExhausted = true → t.alu.isSet .sparesExhausted = true)

theorem State.StartsAlike.trans {s t u : State} (h : s.StartsAlike t) (h' : t.StartsAlike u) : s.StartsAlike u :=
  ⟨h'.1.trans h.1, h'.2.1.trans h.2.1, h'.2.2.1.trans h.2.2.1, h'.2.2.2.1.trans h.2.2.2.1, h'.2.2.2.2.1.trans h.2.2.2.2.1,
    h'.2.2.2.2.2.1.trans h.2.2.2.2.2.1, fun x => h'.2.2.2.2.2.2 (h.2.2.2.2.2.2 x)⟩

theorem State.StartsAlike.setCause {s t : State} (h : s.StartsAlike t) (c : Cause) :
    (State.setCause c s).StartsAlike (State.setCause c t) := by
  obtain ⟨h1, h2, h3, h4, h5, h6, h7⟩ := h
  refine ⟨h1, h2, h3, h4, h5, h6, fun x => ?_⟩
  simp only [State.setCause, AlertUnit.isSet_set, Bool.or_eq_true] at x ⊢
  exact x.imp_left h7

theorem State.StartsAlike.putQueue {s t : State} (h : s.StartsAlike t) (q : List RetireEntry) :
    State.StartsAlike { s with me := { s.me with queue := q } } { t with me := { t.me with queue := q } } := by
  obtain ⟨h1, h2, h3, h4, h5, h6, h7⟩ := h
  exact ⟨h1, h2, h3, by simp [h4], h5, h6, h7⟩

theorem State.StartsAlike.begin {s t : State} (h : s.StartsAlike t) (e : RetireEntry) (rest : List RetireEntry) (n : Nat) :
    (State.beginMigration e rest n s).StartsAlike (State.beginMigration e rest n t) := by
  obtain ⟨h1, h2, h3, h4, h5, h6, h7⟩ := h
  have hs : t.startEntry e.logical e.origin.remap = s.startEntry e.logical e.origin.remap := by
    simp [State.startEntry, State.entryIndex, State.entryAt, h3]
  unfold State.beginMigration
  rw [hs]
  split
  · exact ⟨h1, h2, by simp [State.bindTarget, State.setEntry, State.setRole, State.seg, h3],
      by simp [State.bindTarget, State.setEntry, State.setRole, h4], h5, h6, h7⟩
  · exact ⟨h1, h2, h3, h4, h5, h6, h7⟩

theorem State.StartsAlike.startFrom (q : List RetireEntry) {s t : State} (h : s.StartsAlike t) :
    (State.startFrom q s).StartsAlike (State.startFrom q t) := by
  induction q generalizing s t with
  | nil => exact h.putQueue []
  | cons e rest ih =>
    have hf : t.inRemainingFill e.logical = s.inRemainingFill e.logical := by
      simp [State.inRemainingFill, h.2.2.2.2.1]
    have hl : t.lowestSpare = s.lowestSpare := by simp [State.lowestSpare, h.2.2.1]
    unfold State.startFrom
    rw [hf, hl]
    split
    · exact h.putQueue _
    · split
      · exact (h.putQueue _).begin _ _ _
      · exact ih (h.setCause _)

theorem State.StartsAlike.offer {s t : State} (h : s.StartsAlike t) (p : Nat) :
    (State.retireOffer p s).StartsAlike (State.retireOffer p t) := by
  have h0 := h
  obtain ⟨h1, h2, h3, h4, h5, h6, h7⟩ := h
  have hg : t.logicalOf p = s.logicalOf p := by simp [State.logicalOf, State.seg, State.entryServing, h3]
  have hq : ∀ g, t.queuedForRetire g = s.queuedForRetire g := fun g => by simp [State.queuedForRetire, h4]
  have hc : ∀ g, t.isCopying g = s.isCopying g := fun g => by
    simp [State.isCopying, State.entryOf, State.entryIndex, State.entryAt, h3]
  have hl : t.lowestSpare = s.lowestSpare := by simp [State.lowestSpare, h3]
  unfold State.retireOffer
  rw [hg]
  split
  · exact h0
  · rename_i g _
    rw [hq, hc, hl, h2, h4]
    split_ifs
    · exact h0
    · exact h0
    · exact h0.setCause _
    · exact h0
    · have ha : (State.appendRetire g .auto s).StartsAlike (State.appendRetire g .auto t) :=
        ⟨h1, h2, h3, by simp [State.appendRetire, h4], h5, h6, h7⟩
      have hm : (State.appendRetire g .auto t).mayStart = (State.appendRetire g .auto s).mayStart := by
        simp [State.mayStart, State.appendRetire, h1, h4, h6]
      unfold State.migrationStart
      rw [hm]
      split
      · rw [ha.2.2.2.1]
        exact ha.startFrom _
      · exact ha

/-- A word that is not UNCORRECTABLE leaves a retire offer to find what it would have found. -/
theorem State.startsAlike_handleWord (offer : Bool) (p line w : Nat) (x : StoredWord) (s : State) (h : classify x ≠ .uncorrectable) :
    s.StartsAlike (State.handleWord offer p line w x s) := by
  have hk := State.keeps_handleWord offer p line w x s .sparesExhausted
  unfold State.handleWord at *
  cases hc : classify x with
  | clean => exact ⟨rfl, rfl, rfl, rfl, rfl, rfl, id⟩
  | poison => exact ⟨rfl, rfl, rfl, rfl, rfl, rfl, id⟩
  | corrected =>
    rw [hc] at hk
    cases offer
    · exact ⟨by simp, by simp, by simp, by simp, by simp, by simp, hk⟩
    · exact ⟨by simp, by simp, by simp, by simp, by simp, by simp, hk⟩
  | uncorrectable => exact absurd hc h

/-- An UNCORRECTABLE word that moves the record makes the offer, with the hold-off as it left it. -/
theorem State.offer_handleWord (offer : Bool) (p line w : Nat) (x : StoredWord) (s : State) (h : classify x = .uncorrectable)
    (ho : (s.health p).state.open = true) :
    let v := State.retireOffer p s.startHoldOff
    (State.handleWord offer p line w x s).me = v.me ∧ (State.handleWord offer p line w x s).rc = v.rc ∧
      (v.alu.isSet .sparesExhausted = true → (State.handleWord offer p line w x s).alu.isSet .sparesExhausted = true) := by
  have ha : ∀ t : State, t = s.startHoldOff → t.StartsAlike (State.setCause .alarmEntered
      (State.putHealth p ((t.health p).alarmed .uncorrectable) t)) := fun t _ =>
    ⟨rfl, rfl, rfl, rfl, rfl, rfl, fun x => by simp [AlertUnit.isSet_set] at x ⊢; exact x⟩
  have hv := (ha _ rfl).offer p
  have hh : (s.startHoldOff).health p = s.health p := State.health_congr (by simp) p
  unfold State.handleWord State.uncorrectableReport
  rw [h]
  dsimp only
  rw [hh]
  cases hs : (s.health p).state with
  | untracked => simp [hs, HealthState.open] at ho
  | alarm reason => simp [hs, HealthState.open] at ho
  | quiet => exact ⟨hv.2.2.2.1, hv.2.2.1, hv.2.2.2.2.2.2⟩
  | watch a snap => exact ⟨hv.2.2.2.1, hv.2.2.1, hv.2.2.2.2.2.2⟩
  | baseline left =>
    refine ⟨?_, ?_, fun x => State.keeps_completeCalibrate _ _ (hv.2.2.2.2.2.2 x)⟩
    · simpa [State.enterAlarm, AlarmReason.cause] using hv.2.2.2.1
    · simpa [State.enterAlarm, AlarmReason.cause] using hv.2.2.1

/-- Words that move no record leave the Retire Queue and the Remap Controller as they were. -/
theorem State.unmoved_handleWords (offer : Bool) (p line : Nat) (f : Nat → StoredWord) (ws : List Nat) (s : State)
    (h : metUncorrectable f ws = false ∨ (s.health p).state.open = false) :
    (State.handleWords offer p line (ws.map fun w => (w, f w)) s).me = s.me ∧
      (State.handleWords offer p line (ws.map fun w => (w, f w)) s).rc = s.rc := by
  induction ws generalizing s with
  | nil => exact ⟨rfl, rfl⟩
  | cons w rest ih =>
    rw [List.map_cons, State.handleWords_cons]
    have hw : (State.handleWord offer p line w (f w) s).me = s.me ∧ (State.handleWord offer p line w (f w) s).rc = s.rc := by
      by_cases hc : classify (f w) = .uncorrectable
      · have ho : (s.health p).state.open = false := by
          rcases h with h | h
          · simp [metUncorrectable, hc] at h
          · exact h
        have hh : (s.startHoldOff).health p = s.health p := State.health_congr (by simp) p
        unfold State.handleWord State.uncorrectableReport
        rw [hc]
        dsimp only
        rw [hh]
        cases hs : (s.health p).state <;> simp_all [HealthState.open]
      · have := State.startsAlike_handleWord offer p line w (f w) s hc
        exact ⟨this.2.2.2.1, this.2.2.1⟩
    have := ih (State.handleWord offer p line w (f w) s) ?_
    · exact ⟨this.1.trans hw.1, this.2.trans hw.2⟩
    · rcases h with h | h
      · exact .inl (by simp_all [metUncorrectable])
      · refine .inr ?_
        rw [State.health_handleWord_handled]
        unfold HealthRecord.handled
        split_ifs <;> simp_all

/-- The retire offer of a read's words (R124 to R126, R150). -/
theorem State.handleWords_retires (offer : Bool) (p line : Nat) (f : Nat → StoredWord) (ws : List Nat) (s : State) :
    OffersRetirement p f ws s (State.handleWords offer p line (ws.map fun w => (w, f w)) s) := by
  have hmet : ∀ ws, (∃ w ∈ ws, classify (f w) = .uncorrectable) ↔ metUncorrectable f ws = true := by
    intro ws
    simp [metUncorrectable]
  have hj := HealthState.open_eq_false (s.health p).state
  unfold OffersRetirement
  simp only [hmet, ← hj]
  refine ⟨fun hm ho => ?_, fun h => State.unmoved_handleWords offer p line f ws s (by simpa using h)⟩
  have ho : (s.health p).state.open = true := by simpa using ho
  clear hj
  rw [State.holdOff_handleWords]
  simp only [hm, true_and]
  suffices H : ∀ s' : State, s.StartsAlike s' → (s'.health p).state.open = true → ∀ ws, metUncorrectable f ws = true →
      let t := State.handleWords offer p line (ws.map fun w => (w, f w)) s'
      let v := State.retireOffer p s.startHoldOff
      t.me = v.me ∧ t.rc = v.rc ∧ (v.alu.isSet .sparesExhausted = true → t.alu.isSet .sparesExhausted = true) by
    have := H s ⟨rfl, rfl, rfl, rfl, rfl, rfl, id⟩ ho ws hm
    unfold State.startHoldOff at this
    by_cases h0 : s.settings.holdOffLength = 0
    · simpa [h0] using this
    · simpa [h0] using this
  intro s' hs' ho' ws
  induction ws generalizing s' with
  | nil => simp [metUncorrectable]
  | cons w rest ih =>
    intro hm
    rw [List.map_cons, State.handleWords_cons]
    by_cases hc : classify (f w) = .uncorrectable
    · obtain ⟨h1, h2, h3⟩ := State.offer_handleWord offer p line w (f w) s' hc ho'
      have hst : s.startHoldOff.StartsAlike s'.startHoldOff := by
        obtain ⟨k1, k2, k3, k4, k5, k6, k7⟩ := hs'
        unfold State.startHoldOff
        rw [k2]
        split
        · exact ⟨k1, k2, k3, k4, k5, k6, k7⟩
        · exact ⟨k1, by simp, k3, k4, k5, rfl, k7⟩
      have hv := hst.offer p
      have hcl : ((State.handleWord offer p line w (f w) s').health p).state.open = false := by
        rw [State.health_handleWord_handled]
        have : metUncorrectable f [w] = true := by simp [metUncorrectable, hc]
        rw [this]
        exact HealthRecord.handled_closed _ _
      have hu := State.unmoved_handleWords offer p line f rest (State.handleWord offer p line w (f w) s') (.inr hcl)
      exact ⟨hu.1.trans (h1.trans hv.2.2.2.1), hu.2.trans (h2.trans hv.2.2.1),
        fun x => State.keeps_handleWords _ _ _ _ _ _ (h3 (hv.2.2.2.2.2.2 x))⟩
    · refine ih _ (hs'.trans (State.startsAlike_handleWord offer p line w (f w) s' hc)) ?_ (by simpa [metUncorrectable, hc] using hm)
      rw [State.health_handleWord_handled]
      simp only [metUncorrectable, List.any_cons, List.any_nil, beq_eq_false_iff_ne.mpr hc, HealthRecord.handled]
      split_ifs <;> simp_all

/-! ## The fault report of a read (R53, R54, R94) -/

/-- The lowest word that cannot be delivered, among ascending words. -/
theorem firstBad_map (f : Nat → StoredWord) (ws : List Nat) :
    match firstBad (ws.map fun w => (w, f w)) with
    | none => ∀ w ∈ ws, badClass (f w) = none
    | some (w, x, c) => x = f w ∧ badClass (f w) = some c ∧ ∃ pre post, ws = pre ++ w :: post ∧ ∀ v ∈ pre, badClass (f v) = none := by
  induction ws with
  | nil => simp [firstBad]
  | cons w rest ih =>
    cases h : badClass (f w) with
    | some c =>
      simp only [List.map_cons, firstBad, h]
      exact ⟨trivial, trivial, [], rest, rfl, by simp⟩
    | none =>
      simp only [List.map_cons, firstBad, h]
      split
      · rename_i heq
        rw [heq] at ih
        simpa [h] using ih
      · rename_i w' x c heq
        rw [heq] at ih
        obtain ⟨hx, hc, pre, post, hws, hpre⟩ := ih
        exact ⟨hx, hc, w :: pre, post, by simp [hws], by simpa [h] using hpre⟩

/-- The lowest CORRECTED word, among ascending words. -/
theorem firstOfClass_map (c : WordClass) (f : Nat → StoredWord) (ws : List Nat) :
    match firstOfClass c (ws.map fun w => (w, f w)) with
    | none => ∀ w ∈ ws, classify (f w) ≠ c
    | some (w, x) => x = f w ∧ classify (f w) = c ∧ ∃ pre post, ws = pre ++ w :: post ∧ ∀ v ∈ pre, classify (f v) ≠ c := by
  induction ws with
  | nil => simp [firstOfClass]
  | cons w rest ih =>
    by_cases h : classify (f w) = c
    · simp only [List.map_cons, firstOfClass, h, if_true]
      exact ⟨trivial, trivial, [], rest, rfl, by simp⟩
    · simp only [List.map_cons, firstOfClass, h, if_false]
      split
      · rename_i heq
        rw [heq] at ih
        simpa [h] using ih
      · rename_i w' x heq
        rw [heq] at ih
        obtain ⟨hx, hc, pre, post, hws, hpre⟩ := ih
        exact ⟨hx, hc, w :: pre, post, by simp [hws], by simpa [h] using hpre⟩

/-- The first of an ascending list with a property is the one below which none has it. -/
theorem eq_of_first {ws pre post : List Nat} {w v : Nat} {bad : Nat → Prop} (hs : ws.Pairwise (· < ·))
    (hws : ws = pre ++ w :: post) (hpre : ∀ x ∈ pre, ¬bad x) (hw : bad w) (hv : v ∈ ws) (hb : bad v)
    (hlow : ∀ x ∈ ws, x < v → ¬bad x) : v = w := by
  subst hws
  rw [List.pairwise_append] at hs
  obtain ⟨_, hpost, hcross⟩ := hs
  rcases List.mem_append.mp hv with h | h
  · exact absurd hb (hpre v h)
  · rcases List.mem_cons.mp h with h | h
    · exact h
    · exact absurd hw (hlow w (by simp) (List.rel_of_pairwise_cons hpost h))

/-- The one fault report of a read's words (R53, R54, R94). -/
theorem State.reportWords_reports (mk : FaultKind → Nat → Byte → FaultReport)
    (hmk : ∀ k w b, (mk k w b).kind = k) (f : Nat → StoredWord) (ws : List Nat) (hs : ws.Pairwise (· < ·)) (s : State) :
    ReportsLowest (fun k w => mk k w (syndromeByte (f w))) f ws s (State.reportWords mk (ws.map fun w => (w, f w)) s) := by
  have hb := firstBad_map f ws
  have hc := firstOfClass_map .corrected f ws
  have hbad : ∀ w, (classify (f w) = .uncorrectable ↔ badClass (f w) = some .uncorrectable) ∧
      (classify (f w) = .poison ↔ badClass (f w) = some .poison) := by
    intro w
    unfold badClass
    cases classify (f w) <;> simp
  unfold State.reportWords ReportsLowest
  split at hb
  · rename_i heq
    refine ⟨fun w hw _ => ⟨fun h => ?_, fun h => ?_⟩, fun _ => ?_⟩
    · rw [(hbad w).1, hb w hw] at h
      cases h
    · rw [(hbad w).2, hb w hw] at h
      cases h
    · rw [heq]
      dsimp only
      split at hc
      · rename_i heq'
        refine ⟨fun w hw _ h _ => absurd h (hc w hw), fun _ => ?_⟩
        split <;> simp [heq']
      · rename_i w x heq'
        obtain ⟨rfl, hcl, pre, post, hws, hpre⟩ := hc
        refine ⟨fun v hv hcap hv' hlow => ?_, fun h => ?_⟩
        · have := eq_of_first hs hws hpre hcl hv hv' hlow
          subst this
          rw [hcap, heq']
          simp only [if_true]
          unfold State.report FaultCapture.cause
          rw [hmk]
          refine ⟨by dsimp only; split <;> rfl, fun hn => ?_⟩
          simp [FaultCapture.takes, hn, AlertUnit.isSet_set, State.setCause]
        · rcases h with h | h
          · simp [h]
          · exact absurd hcl (h w (by simp [hws]))
  · rename_i w x c heq
    obtain ⟨rfl, hcl, pre, post, hws, hpre⟩ := hb
    refine ⟨fun v hv hlow => ?_, fun h => ?_⟩
    · have heqv : badClass (f v) ≠ none → v = w := fun hv' =>
        eq_of_first (bad := fun x => badClass (f x) ≠ none) hs hws (by simpa using hpre) (by simp [hcl]) hv hv'
          (by simpa using hlow)
      rw [heq]
      refine ⟨fun h => ?_, fun h => ?_⟩
      · rw [(hbad v).1] at h
        have := heqv (by simp [h])
        subst this
        rw [hcl] at h
        cases h
        simp [State.report, FaultCapture.cause, hmk, BadClass.kind, State.setCause, AlertUnit.isSet_set]
      · rw [(hbad v).2] at h
        have := heqv (by simp [h])
        subst this
        rw [hcl] at h
        cases h
        simp [State.report, FaultCapture.cause, hmk, BadClass.kind, State.setCause, AlertUnit.isSet_set]
    · rw [h w (by simp [hws])] at hcl
      cases hcl

end Sys2Proof.Machine
end

