-- ==== Sys2Proof/Laws/Calibration.lean ====
section
/-! SUPPORT. What an uncorrectable report does to a running CALIBRATE (R142, R143): the calibration state, the command block, the patrol. -/

namespace Sys2Proof.Machine

/-! ## The patrol's withdrawal (R91) -/

/-- The patrol is active and the cursor's segment eligible, field by field (R90). -/
theorem State.patrol_stays (s : State) :
    (s.patrolActive && s.eligible s.se.cursorSegment) = true ↔
      s.mode = .online ∧ s.se.mode = .patrol ∧ s.me.quiesced = false ∧
        (if s.hm.cal.active = true then s.settings.calInterval else s.settings.patrolInterval) ≠ 0 ∧
        (s.seg s.se.cursorSegment).role = .inUse ∧ (s.seg s.se.cursorSegment).filled = true := by
  unfold State.patrolActive State.eligible State.inPatrol State.pace
  cases s.se.mode <;> simp [and_assoc]

/-- What a look at the patrol leaves (R91). -/
theorem State.recheckPatrol_rechecks (s : State) : PatrolRechecked s s.recheckPatrol := by
  have hs := s.patrol_stays
  unfold PatrolRechecked State.recheckPatrol
  by_cases hp : s.se.patrolPending = .raised
  · by_cases ha : (s.patrolActive && s.eligible s.se.cursorSegment) = true
    · have hst := hs.mp ha
      simp only [hp, ha]
      refine ⟨rfl, fun _ h => absurd hst h, fun _ => hp⟩
    · have hst := fun h => ha (hs.mpr h)
      simp only [hp, ha]
      refine ⟨rfl, fun _ _ => rfl, fun h => ?_⟩
      rcases h with h | h
      · exact absurd rfl h
      · exact absurd h hst
  · simp [hp]

/-- The look at the patrol reads these fields of the state after it, and the Sweep Engine of the state before it. -/
theorem PatrolRechecked.congr {u t u' t' : State} (h : PatrolRechecked u t) (hu : u'.se = u.se) (hse : t'.se = t.se)
    (hmode : t'.mode = t.mode) (hset : t'.settings = t.settings) (hme : t'.me = t.me) (hrc : t'.rc = t.rc)
    (hcal : t'.hm.cal = t.hm.cal) : PatrolRechecked u' t' := by
  unfold PatrolRechecked State.seg at *
  rw [hu, hse, hmode, hset, hme, hrc, hcal]
  exact h

/-! ## The end of a CALIBRATE (R143) -/

/-- With the last record out of BASELINE the CALIBRATE completes (R143). -/
theorem State.completeCalibrate_ends (s : State) (ha : s.hm.cal.active = true) (hn : s.hm.cal.baselineCount = 0) :
    s.completeCalibrate.hm = { s.hm with cal := { s.hm.cal with active := false } } ∧
      s.completeCalibrate.mp =
        { s.mp with lastOutcome := .ok, longOutcome := .ok, busy := false, results := s.hm.cal.results } ∧
      s.completeCalibrate.se.patrolTimer = loadTimer s.settings.patrolInterval ∧
      s.completeCalibrate.alu = s.alu.set .commandDone ∧ PatrolRechecked s s.completeCalibrate := by
  have hc : (s.hm.cal.active && s.hm.cal.baselineCount == 0) = true := by simp [ha, hn]
  unfold State.completeCalibrate
  rw [if_pos hc]
  have hr := State.recheckPatrol_rechecks
    (State.restartPatrolTimer { s with hm := { s.hm with cal := { s.hm.cal with active := false } } })
  have hp : (State.restartPatrolTimer { s with hm := { s.hm with cal := { s.hm.cal with active := false } } }).se =
      { s.se with patrolTimer := loadTimer s.settings.patrolInterval } := by simp [State.pace]
  have ht := hr.1
  unfold PatrolRechecked at hr ⊢
  rw [hp] at hr
  refine ⟨by simp [State.completeLong, State.setCause, State.leaveResults],
    by simp [State.completeLong, State.setCause, State.leaveResults], ?_,
    by simp [State.completeLong, State.setCause, State.leaveResults], ?_⟩
  · unfold State.completeLong State.setCause State.leaveResults
    dsimp only
    unfold State.recheckPatrol
    split <;> simp [State.pace]
  · obtain ⟨h1, h2, h3⟩ := hr
    unfold State.completeLong State.setCause State.leaveResults State.seg at *
    dsimp only at *
    exact ⟨by rw [h1], h2, h3⟩

/-- With a record still in BASELINE, or no CALIBRATE running, nothing happens. -/
theorem State.completeCalibrate_waits (s : State) (h : ¬(s.hm.cal.active = true ∧ s.hm.cal.baselineCount = 0)) :
    s.completeCalibrate = s := by
  unfold State.completeCalibrate
  rw [if_neg (by simpa using h)]

/-! ## What a read's words leave alone -/

/-- COMMAND_DONE is the same in both states. -/
def State.DoneAlike (s t : State) : Prop := t.alu.isSet .commandDone = s.alu.isSet .commandDone

theorem State.DoneAlike.startFrom (q : List RetireEntry) (s : State) : s.DoneAlike (State.startFrom q s) := by
  induction q generalizing s with
  | nil => exact rfl
  | cons h rest ih =>
    unfold State.startFrom
    split
    · exact rfl
    · split
      · unfold State.beginMigration
        split <;> exact rfl
      · refine (ih _).trans ?_
        simp [State.setCause, AlertUnit.isSet_set]

theorem State.DoneAlike.retireOffer (p : Nat) (s : State) : s.DoneAlike (State.retireOffer p s) := by
  unfold State.retireOffer
  split
  · exact rfl
  · split_ifs
    · exact rfl
    · exact rfl
    · simp [State.DoneAlike, State.setCause, AlertUnit.isSet_set]
    · exact rfl
    · unfold State.migrationStart
      split
      · exact State.DoneAlike.startFrom _ _
      · exact rfl

theorem State.DoneAlike.enterAlarm (p : Nat) (reason : AlarmReason) (s : State) : s.DoneAlike (State.enterAlarm p reason s) := by
  refine (State.DoneAlike.retireOffer p _).trans ?_
  cases reason <;> simp [State.setCause, State.putHealth, AlertUnit.isSet_set, AlarmReason.cause]

theorem State.DoneAlike.offerRepair (a : WordAddr) (d : Word) (s : State) : s.DoneAlike (State.offerRepair a d s) := by
  unfold State.offerRepair State.DoneAlike
  split_ifs <;> simp [State.setCause, AlertUnit.isSet_set]

/-- The calibration state, the epoch timer, the command block, the Sweep Engine and COMMAND_DONE are the same in both states. -/
def State.CalibratesAlike (s t : State) : Prop :=
  t.hm.cal = s.hm.cal ∧ t.hm.epochTimer = s.hm.epochTimer ∧ t.mp = s.mp ∧ t.se = s.se ∧ s.DoneAlike t

theorem State.CalibratesAlike.refl (s : State) : s.CalibratesAlike s := ⟨rfl, rfl, rfl, rfl, rfl⟩

theorem State.CalibratesAlike.trans {s t u : State} (h : s.CalibratesAlike t) (h' : t.CalibratesAlike u) : s.CalibratesAlike u :=
  ⟨h'.1.trans h.1, h'.2.1.trans h.2.1, h'.2.2.1.trans h.2.2.1, h'.2.2.2.1.trans h.2.2.2.1, h'.2.2.2.2.trans h.2.2.2.2⟩

theorem State.CalibratesAlike.startHoldOff (s : State) : s.CalibratesAlike s.startHoldOff := by
  unfold State.startHoldOff
  split <;> exact ⟨rfl, rfl, rfl, rfl, rfl⟩

theorem State.CalibratesAlike.enterAlarm (p : Nat) (reason : AlarmReason) (s : State) :
    s.CalibratesAlike (State.enterAlarm p reason s) :=
  ⟨by simp [State.enterAlarm], by simp [State.enterAlarm], by simp, by simp, .enterAlarm _ _ _⟩

/-- A word that is not UNCORRECTABLE, or that names a record not in BASELINE, leaves the calibration alone. -/
theorem State.CalibratesAlike.handleWord (offer : Bool) (p line w : Nat) (x : StoredWord) (s : State)
    (h : classify x ≠ .uncorrectable ∨ ∀ left, (s.health p).state ≠ .baseline left) :
    s.CalibratesAlike (State.handleWord offer p line w x s) := by
  unfold State.handleWord
  cases hc : classify x with
  | clean => exact .refl s
  | poison => exact .refl s
  | corrected =>
    have hk : s.CalibratesAlike (State.countCorrected p s) := by
      unfold State.countCorrected
      split <;> exact ⟨rfl, rfl, rfl, rfl, rfl⟩
    cases offer
    · exact hk
    · exact hk.trans ⟨by simp, by simp, by simp, by simp, .offerRepair _ _ _⟩
  | uncorrectable =>
    have hb := h.resolve_left (by simp [hc])
    have hh : (s.startHoldOff).health p = s.health p := State.health_congr (by simp) p
    have hs := State.CalibratesAlike.startHoldOff s
    unfold State.uncorrectableReport
    dsimp only
    rw [hh]
    cases hst : (s.health p).state with
    | untracked => exact hs
    | alarm reason => exact hs
    | quiet => exact hs.trans (.enterAlarm _ _ _)
    | watch a snap => exact hs.trans (.enterAlarm _ _ _)
    | baseline left => exact absurd hst (hb left)

/-- No word moves a record into BASELINE. -/
theorem State.handleWord_baseline (offer : Bool) (p line w : Nat) (f : Nat → StoredWord) (s : State) (left : Nat) :
    ((State.handleWord offer p line w (f w) s).health p).state = .baseline left ↔
      (s.health p).state = .baseline left ∧ classify (f w) ≠ .uncorrectable := by
  rw [State.health_handleWord]
  cases h : classify (f w) <;> cases hs : (s.health p).state <;>
    simp_all [HealthState.open, HealthRecord.alarmed]

/-- Words none of which takes the record out of BASELINE leave the calibration alone. -/
theorem State.CalibratesAlike.handleWords (offer : Bool) (p line : Nat) (f : Nat → StoredWord) (ws : List Nat) (s : State)
    (h : ¬LeavesBaseline p f ws s) : s.CalibratesAlike (State.handleWords offer p line (ws.map fun w => (w, f w)) s) := by
  induction ws generalizing s with
  | nil => exact .refl s
  | cons w rest ih =>
    rw [List.map_cons, State.handleWords_cons]
    have hw : classify (f w) ≠ .uncorrectable ∨ ∀ left, (s.health p).state ≠ .baseline left := by
      by_contra hc
      rw [not_or, not_not, not_forall] at hc
      obtain ⟨hc, left, hl⟩ := hc
      exact h ⟨⟨w, by simp, hc⟩, left, not_not.mp hl⟩
    refine (State.CalibratesAlike.handleWord offer p line w (f w) s hw).trans (ih _ ?_)
    rintro ⟨⟨v, hv, hvc⟩, left, hl⟩
    exact h ⟨⟨v, by simp [hv], hvc⟩, left, ((State.handleWord_baseline offer p line w f s left).mp hl).1⟩

/-! ## The words of a read (R142, R143) -/

/-- The UNCORRECTABLE word that takes a record out of BASELINE. -/
theorem State.handleWord_leaves (offer : Bool) (p line w : Nat) (x : StoredWord) (s : State) (hx : classify x = .uncorrectable)
    (left : Nat) (hl : (s.health p).state = .baseline left) :
    let counted := { s.hm.cal with uncAlarms := s.hm.cal.uncAlarms + 1, baselineCount := s.hm.cal.baselineCount - 1 }
    let last := s.hm.cal.active = true ∧ s.hm.cal.baselineCount - 1 = 0
    let t := State.handleWord offer p line w x s
    t.hm.epochTimer = s.hm.epochTimer ∧
      (¬last → t.hm.cal = counted ∧ t.mp = s.mp ∧ t.se = s.se ∧ s.DoneAlike t) ∧
      (last → t.hm.cal = { counted with active := false } ∧ t.se.patrolTimer = loadTimer s.settings.patrolInterval ∧
        t.mp = { s.mp with lastOutcome := .ok, longOutcome := .ok, busy := false, results := counted.results } ∧
        t.alu.isSet .commandDone = true ∧ PatrolRechecked s t) := by
  intro counted last t
  have hh : (s.startHoldOff).health p = s.health p := State.health_congr (by simp) p
  have hk := (State.CalibratesAlike.startHoldOff s).trans (State.CalibratesAlike.enterAlarm p .uncorrectable s.startHoldOff)
  have ht : t = State.completeCalibrate
      { State.enterAlarm p .uncorrectable s.startHoldOff with
        hm := { (State.enterAlarm p .uncorrectable s.startHoldOff).hm with cal := counted } } := by
    show State.handleWord offer p line w x s = _
    unfold State.handleWord State.uncorrectableReport
    rw [hx]
    dsimp only
    rw [hh, hl]
    dsimp only
    rw [hk.1]
  have hset : (State.enterAlarm p .uncorrectable s.startHoldOff).settings = s.settings := by simp
  obtain ⟨h1, h2, h3, h4, h5⟩ := hk
  by_cases hlast : last
  · have he := State.completeCalibrate_ends
      { State.enterAlarm p .uncorrectable s.startHoldOff with
        hm := { (State.enterAlarm p .uncorrectable s.startHoldOff).hm with cal := counted } } hlast.1 hlast.2
    rw [← ht] at he
    obtain ⟨e1, e2, e3, e4, e5⟩ := he
    refine ⟨by rw [e1]; exact h2, fun h => absurd hlast h, fun _ => ⟨by rw [e1], by rw [e3, hset], by rw [e2, h3], ?_, ?_⟩⟩
    · rw [e4]
      simp [AlertUnit.isSet_set]
    · exact e5.congr h4.symm rfl rfl rfl rfl rfl rfl
  · have he := State.completeCalibrate_waits
      { State.enterAlarm p .uncorrectable s.startHoldOff with
        hm := { (State.enterAlarm p .uncorrectable s.startHoldOff).hm with cal := counted } } hlast
    rw [← ht] at he
    rw [he]
    exact ⟨h2, fun _ => ⟨rfl, h3, h4, h5⟩, fun h => absurd h hlast⟩

/-- The words of a read, the calibration's part (R142, R143). -/
theorem State.handleWords_calibrates (offer : Bool) (p line : Nat) (f : Nat → StoredWord) (ws : List Nat) (s : State) :
    let t := State.handleWords offer p line (ws.map fun w => (w, f w)) s
    CountsCalibration p f ws s t ∧ CompletesCalibrate p f ws s t ∧ RechecksPatrol p f ws s t := by
  intro t
  unfold CountsCalibration CompletesCalibrate RechecksPatrol
  by_cases hl : LeavesBaseline p f ws s
  swap
  · obtain ⟨h1, h2, h3, h4, h5⟩ := State.CalibratesAlike.handleWords offer p line f ws s hl
    have he : ¬EndsCalibration p f ws s := fun h => hl h.1
    exact ⟨⟨h2, fun _ => h1, fun h => absurd h hl, fun h => absurd h he, fun _ => by rw [h4]⟩,
      ⟨fun h => absurd h he, fun _ => ⟨h3, h5⟩⟩, fun h => absurd h he, fun _ => h4⟩
  have key : ∀ (ws : List Nat) (s : State) (left : Nat), (∃ w ∈ ws, classify (f w) = .uncorrectable) →
      (s.health p).state = .baseline left →
      let counted := { s.hm.cal with uncAlarms := s.hm.cal.uncAlarms + 1, baselineCount := s.hm.cal.baselineCount - 1 }
      let last := s.hm.cal.active = true ∧ s.hm.cal.baselineCount - 1 = 0
      let t := State.handleWords offer p line (ws.map fun w => (w, f w)) s
      t.hm.epochTimer = s.hm.epochTimer ∧
        (¬last → t.hm.cal = counted ∧ t.mp = s.mp ∧ t.se = s.se ∧ s.DoneAlike t) ∧
        (last → t.hm.cal = { counted with active := false } ∧ t.se.patrolTimer = loadTimer s.settings.patrolInterval ∧
          t.mp = { s.mp with lastOutcome := .ok, longOutcome := .ok, busy := false, results := counted.results } ∧
          t.alu.isSet .commandDone = true ∧ PatrolRechecked s t) := by
    intro ws
    induction ws with
    | nil => rintro s left ⟨w, hw, _⟩; cases hw
    | cons w rest ih =>
      intro s left hm hb
      rw [List.map_cons, State.handleWords_cons]
      by_cases hc : classify (f w) = .uncorrectable
      · have hw := State.handleWord_leaves offer p line w (f w) s hc left hb
        have hno : ¬LeavesBaseline p f rest (State.handleWord offer p line w (f w) s) := by
          rintro ⟨_, left', h⟩
          exact ((State.handleWord_baseline offer p line w f s left').mp h).2 hc
        have hcl : ((State.handleWord offer p line w (f w) s).health p).state.open = false := by
          rw [State.health_handleWord_handled]
          have : metUncorrectable f [w] = true := by simp [metUncorrectable, hc]
          rw [this]
          exact HealthRecord.handled_closed _ _
        have hu := State.unmoved_handleWords offer p line f rest (State.handleWord offer p line w (f w) s) (.inr hcl)
        obtain ⟨k1, k2, k3, k4, k5⟩ := State.CalibratesAlike.handleWords offer p line f rest _ hno
        obtain ⟨e1, e2, e3⟩ := hw
        refine ⟨k2.trans e1, fun h => ?_, fun h => ?_⟩
        · obtain ⟨a, b, c, d⟩ := e2 h
          exact ⟨k1.trans a, k3.trans b, k4.trans c, k5.trans d⟩
        · obtain ⟨a, b, c, d, e⟩ := e3 h
          exact ⟨k1.trans a, (congrArg _ k4).trans b, k3.trans c, k5.trans d,
            e.congr rfl k4 (by simp) (by simp) hu.1 hu.2 k1⟩
      · have hk := State.CalibratesAlike.handleWord offer p line w (f w) s (.inl hc)
        have hb' := (State.handleWord_baseline offer p line w f s left).mpr ⟨hb, hc⟩
        have hm' : ∃ w ∈ rest, classify (f w) = .uncorrectable := by
          obtain ⟨v, hv, hvc⟩ := hm
          rcases List.mem_cons.mp hv with h | h
          · exact absurd (h ▸ hvc) hc
          · exact ⟨v, h, hvc⟩
        obtain ⟨k1, k2, k3, k4, k5⟩ := hk
        have hi := ih _ left hm' hb'
        rw [k1, k2, k3, State.settings_handleWord] at hi
        obtain ⟨e1, e2, e3⟩ := hi
        refine ⟨e1, fun h => ?_, fun h => ?_⟩
        · obtain ⟨a, b, c, d⟩ := e2 h
          exact ⟨a, b, c.trans k4, d.trans k5⟩
        · obtain ⟨a, b, c, d, e⟩ := e3 h
          exact ⟨a, b, c, d, e.congr k4.symm rfl rfl rfl rfl rfl rfl⟩
  obtain ⟨hm, left, hb⟩ := id hl
  obtain ⟨e1, e2, e3⟩ := key ws s left hm hb
  refine ⟨⟨e1, fun h => absurd hl h, fun _ h => ?_, fun h => ?_, fun h => ?_⟩, ⟨fun h => ?_, fun h => ?_⟩, fun h => ?_, fun h => ?_⟩
  · exact (e2 fun hlast => h ⟨hl, hlast⟩).1
  · exact ⟨(e3 h.2).1, (e3 h.2).2.1⟩
  · rw [(e2 fun hlast => h ⟨hl, hlast⟩).2.2.1]
  · exact ⟨(e3 h.2).2.2.2.1, (e3 h.2).2.2.1⟩
  · exact ⟨(e2 fun hlast => h ⟨hl, hlast⟩).2.1, (e2 fun hlast => h ⟨hl, hlast⟩).2.2.2⟩
  · exact (e3 h.2).2.2.2.2
  · exact (e2 fun hlast => h ⟨hl, hlast⟩).2.2.1

end Sys2Proof.Machine
end

