-- ==== Sys2Proof/Laws/Events.lean ====
section
/-! SUPPORT. What each command's effect leaves as it was: one theorem per event, its clauses the fields it never writes. -/

namespace Sys2Proof.Machine

@[simp] theorem State.takeRequest_frame (r : Request) (s : State) :
    (State.takeRequest r s).pending = s.pending ∧ (State.takeRequest r s).mode = s.mode ∧ (State.takeRequest r s).aselPins = s.aselPins ∧
    (State.takeRequest r s).aselLatch = s.aselLatch ∧ (State.takeRequest r s).initElapsed = s.initElapsed ∧
    (State.takeRequest r s).settings = s.settings ∧ (State.takeRequest r s).mp = s.mp ∧ (State.takeRequest r s).rc = s.rc ∧
    (State.takeRequest r s).me = s.me ∧ (State.takeRequest r s).se = s.se ∧ (State.takeRequest r s).ru = s.ru ∧
    (State.takeRequest r s).aa = s.aa ∧ (State.takeRequest r s).hm = s.hm ∧ (State.takeRequest r s).fcu = s.fcu ∧
    (State.takeRequest r s).alu = s.alu ∧ (State.takeRequest r s).array = s.array := by
  unfold State.takeRequest
  (repeat' split) <;> simp

@[simp] theorem State.takeResponse_frame (s : State) :
    (State.takeResponse s).pending = s.pending ∧ (State.takeResponse s).mode = s.mode ∧ (State.takeResponse s).aselPins = s.aselPins ∧
    (State.takeResponse s).aselLatch = s.aselLatch ∧ (State.takeResponse s).initElapsed = s.initElapsed ∧
    (State.takeResponse s).settings = s.settings ∧ (State.takeResponse s).mp = s.mp ∧ (State.takeResponse s).rc = s.rc ∧
    (State.takeResponse s).me = s.me ∧ (State.takeResponse s).se = s.se ∧ (State.takeResponse s).ru = s.ru ∧
    (State.takeResponse s).aa = s.aa ∧ (State.takeResponse s).hm = s.hm ∧ (State.takeResponse s).fcu = s.fcu ∧
    (State.takeResponse s).alu = s.alu ∧ (State.takeResponse s).array = s.array := by
  unfold State.takeResponse
  (repeat' split) <;> simp

@[simp] theorem State.executeRequest_frame (s : State) :
    (State.executeRequest s).pending = s.pending ∧ (State.executeRequest s).mode = s.mode ∧
    (State.executeRequest s).aselPins = s.aselPins ∧ (State.executeRequest s).aselLatch = s.aselLatch ∧
    (State.executeRequest s).initElapsed = s.initElapsed ∧ (State.executeRequest s).settings = s.settings ∧
    (State.executeRequest s).mp = s.mp ∧ (State.executeRequest s).rc = s.rc ∧ (State.executeRequest s).me = s.me ∧
    (State.executeRequest s).se = s.se ∧ (State.executeRequest s).ru = s.ru ∧ (State.executeRequest s).aa = s.aa ∧
    (State.executeRequest s).hm = s.hm ∧ (State.executeRequest s).fcu = s.fcu ∧ (State.executeRequest s).alu = s.alu ∧
    (State.executeRequest s).array = s.array := by
  unfold State.executeRequest
  (repeat' split) <;> simp

@[simp] theorem State.discardCompletion_frame (s : State) :
    (State.discardCompletion s).pending = s.pending ∧ (State.discardCompletion s).mode = s.mode ∧
    (State.discardCompletion s).aselPins = s.aselPins ∧ (State.discardCompletion s).aselLatch = s.aselLatch ∧
    (State.discardCompletion s).initElapsed = s.initElapsed ∧ (State.discardCompletion s).settings = s.settings ∧
    (State.discardCompletion s).mp = s.mp ∧ (State.discardCompletion s).lli = s.lli ∧ (State.discardCompletion s).rc = s.rc ∧
    (State.discardCompletion s).me = s.me ∧ (State.discardCompletion s).se = s.se ∧ (State.discardCompletion s).ru = s.ru ∧
    (State.discardCompletion s).hm = s.hm ∧ (State.discardCompletion s).fcu = s.fcu ∧ (State.discardCompletion s).alu = s.alu := by
  unfold State.discardCompletion
  (repeat' split) <;> simp

@[simp] theorem State.completeRepair_frame (s : State) :
    (State.completeRepair s).pending = s.pending ∧ (State.completeRepair s).mode = s.mode ∧
    (State.completeRepair s).aselPins = s.aselPins ∧ (State.completeRepair s).aselLatch = s.aselLatch ∧
    (State.completeRepair s).initElapsed = s.initElapsed ∧ (State.completeRepair s).settings = s.settings ∧
    (State.completeRepair s).mp = s.mp ∧ (State.completeRepair s).lli = s.lli ∧ (State.completeRepair s).rc = s.rc ∧
    (State.completeRepair s).me = s.me ∧ (State.completeRepair s).se = s.se ∧ (State.completeRepair s).hm = s.hm ∧
    (State.completeRepair s).fcu = s.fcu ∧ (State.completeRepair s).alu = s.alu := by
  unfold State.completeRepair
  (repeat' split) <;> simp

@[simp] theorem State.finishRead_frame (r : Request) (g : Nat) (op : PortOp) (s : State) :
    (State.finishRead r g op s).pending = s.pending ∧ (State.finishRead r g op s).mode = s.mode ∧
    (State.finishRead r g op s).aselPins = s.aselPins ∧ (State.finishRead r g op s).aselLatch = s.aselLatch ∧
    (State.finishRead r g op s).initElapsed = s.initElapsed ∧ (State.finishRead r g op s).settings = s.settings ∧
    (State.finishRead r g op s).rc.geometry = s.rc.geometry ∧ (State.finishRead r g op s).rc.segs.length = s.rc.segs.length ∧
    (State.finishRead r g op s).rc.remap.length = s.rc.remap.length ∧ (State.finishRead r g op s).array = s.array := by
  simp [State.finishRead]

@[simp] theorem State.completeRead_frame (flips : LineFlips) (s : State) :
    (State.completeRead flips s).pending = s.pending ∧ (State.completeRead flips s).mode = s.mode ∧
    (State.completeRead flips s).aselPins = s.aselPins ∧ (State.completeRead flips s).aselLatch = s.aselLatch ∧
    (State.completeRead flips s).initElapsed = s.initElapsed ∧ (State.completeRead flips s).settings = s.settings ∧
    (State.completeRead flips s).rc.geometry = s.rc.geometry ∧ (State.completeRead flips s).rc.segs.length = s.rc.segs.length ∧
    (State.completeRead flips s).rc.remap.length = s.rc.remap.length := by
  unfold State.completeRead
  (repeat' split) <;> simp

@[simp] theorem State.finishMergeRead_frame (r : Request) (g : Nat) (op : PortOp) (s : State) :
    (State.finishMergeRead r g op s).pending = s.pending ∧ (State.finishMergeRead r g op s).mode = s.mode ∧
    (State.finishMergeRead r g op s).aselPins = s.aselPins ∧ (State.finishMergeRead r g op s).aselLatch = s.aselLatch ∧
    (State.finishMergeRead r g op s).initElapsed = s.initElapsed ∧ (State.finishMergeRead r g op s).settings = s.settings ∧
    (State.finishMergeRead r g op s).rc.geometry = s.rc.geometry ∧ (State.finishMergeRead r g op s).rc.segs.length = s.rc.segs.length ∧
    (State.finishMergeRead r g op s).rc.remap.length = s.rc.remap.length ∧ (State.finishMergeRead r g op s).array = s.array := by
  simp [State.finishMergeRead]

@[simp] theorem State.completeMergeRead_frame (flips : LineFlips) (s : State) :
    (State.completeMergeRead flips s).pending = s.pending ∧ (State.completeMergeRead flips s).mode = s.mode ∧
    (State.completeMergeRead flips s).aselPins = s.aselPins ∧ (State.completeMergeRead flips s).aselLatch = s.aselLatch ∧
    (State.completeMergeRead flips s).initElapsed = s.initElapsed ∧ (State.completeMergeRead flips s).settings = s.settings ∧
    (State.completeMergeRead flips s).rc.geometry = s.rc.geometry ∧ (State.completeMergeRead flips s).rc.segs.length = s.rc.segs.length ∧
    (State.completeMergeRead flips s).rc.remap.length = s.rc.remap.length := by
  unfold State.completeMergeRead
  (repeat' split) <;> simp

@[simp] theorem State.issueDual_frame (r : Request) (store : LineStore) (failed : Option (Nat × BadClass)) (g t line : Nat) (s : State) :
    (State.issueDual r store failed g t line s).pending = s.pending ∧ (State.issueDual r store failed g t line s).mode = s.mode ∧
    (State.issueDual r store failed g t line s).aselPins = s.aselPins ∧
    (State.issueDual r store failed g t line s).aselLatch = s.aselLatch ∧
    (State.issueDual r store failed g t line s).initElapsed = s.initElapsed ∧
    (State.issueDual r store failed g t line s).settings = s.settings ∧ (State.issueDual r store failed g t line s).mp = s.mp ∧
    (State.issueDual r store failed g t line s).rc = s.rc ∧ (State.issueDual r store failed g t line s).me = s.me ∧
    (State.issueDual r store failed g t line s).se = s.se ∧ (State.issueDual r store failed g t line s).hm = s.hm ∧
    (State.issueDual r store failed g t line s).fcu = s.fcu ∧ (State.issueDual r store failed g t line s).alu = s.alu ∧
    (State.issueDual r store failed g t line s).array = s.array := by
  simp [State.issueDual]

@[simp] theorem State.finishWrite_frame (r : Request) (store : LineStore) (failed : Option (Nat × BadClass)) (g : Nat) (dual : Option Nat) (op : PortOp) (s : State) :
    (State.finishWrite r store failed g dual op s).pending = s.pending ∧ (State.finishWrite r store failed g dual op s).mode = s.mode ∧
    (State.finishWrite r store failed g dual op s).aselPins = s.aselPins ∧
    (State.finishWrite r store failed g dual op s).aselLatch = s.aselLatch ∧
    (State.finishWrite r store failed g dual op s).initElapsed = s.initElapsed ∧
    (State.finishWrite r store failed g dual op s).settings = s.settings ∧ (State.finishWrite r store failed g dual op s).mp = s.mp ∧
    (State.finishWrite r store failed g dual op s).rc = s.rc ∧ (State.finishWrite r store failed g dual op s).me = s.me ∧
    (State.finishWrite r store failed g dual op s).se = s.se ∧ (State.finishWrite r store failed g dual op s).hm = s.hm ∧
    (State.finishWrite r store failed g dual op s).fcu = s.fcu ∧ (State.finishWrite r store failed g dual op s).alu = s.alu ∧
    (State.finishWrite r store failed g dual op s).array = s.array := by
  unfold State.finishWrite
  (repeat' split) <;> simp

@[simp] theorem State.completeWrite_frame (s : State) :
    (State.completeWrite s).pending = s.pending ∧ (State.completeWrite s).mode = s.mode ∧ (State.completeWrite s).aselPins = s.aselPins ∧
    (State.completeWrite s).aselLatch = s.aselLatch ∧ (State.completeWrite s).initElapsed = s.initElapsed ∧
    (State.completeWrite s).settings = s.settings ∧ (State.completeWrite s).mp = s.mp ∧ (State.completeWrite s).rc = s.rc ∧
    (State.completeWrite s).me = s.me ∧ (State.completeWrite s).se = s.se ∧ (State.completeWrite s).hm = s.hm ∧
    (State.completeWrite s).fcu = s.fcu ∧ (State.completeWrite s).alu = s.alu := by
  unfold State.completeWrite
  (repeat' split) <;> simp

@[simp] theorem State.completeDual_frame (s : State) :
    (State.completeDual s).pending = s.pending ∧ (State.completeDual s).mode = s.mode ∧ (State.completeDual s).aselPins = s.aselPins ∧
    (State.completeDual s).aselLatch = s.aselLatch ∧ (State.completeDual s).initElapsed = s.initElapsed ∧
    (State.completeDual s).settings = s.settings ∧ (State.completeDual s).mp = s.mp ∧ (State.completeDual s).rc = s.rc ∧
    (State.completeDual s).me = s.me ∧ (State.completeDual s).se = s.se ∧ (State.completeDual s).ru = s.ru ∧
    (State.completeDual s).hm = s.hm ∧ (State.completeDual s).fcu = s.fcu ∧ (State.completeDual s).alu = s.alu := by
  unfold State.completeDual
  (repeat' split) <;> simp

@[simp] theorem State.tickAction_frame (s : State) :
    (State.tickAction s).pending = s.pending ∧ (State.tickAction s).mode = s.mode ∧ (State.tickAction s).aselPins = s.aselPins ∧
    (State.tickAction s).aselLatch = s.aselLatch ∧ (State.tickAction s).initElapsed = s.initElapsed ∧
    (State.tickAction s).settings = s.settings ∧ (State.tickAction s).mp = s.mp ∧ (State.tickAction s).lli = s.lli ∧
    (State.tickAction s).rc = s.rc ∧ (State.tickAction s).me = s.me ∧ (State.tickAction s).ru = s.ru ∧ (State.tickAction s).aa = s.aa ∧
    (State.tickAction s).hm = s.hm ∧ (State.tickAction s).fcu = s.fcu ∧ (State.tickAction s).alu = s.alu ∧
    (State.tickAction s).array = s.array := by
  unfold State.tickAction
  (repeat' split) <;> simp

@[simp] theorem State.endPatrolTimer_frame (s : State) :
    (State.endPatrolTimer s).pending = s.pending ∧ (State.endPatrolTimer s).mode = s.mode ∧
    (State.endPatrolTimer s).aselPins = s.aselPins ∧ (State.endPatrolTimer s).aselLatch = s.aselLatch ∧
    (State.endPatrolTimer s).initElapsed = s.initElapsed ∧ (State.endPatrolTimer s).settings = s.settings ∧
    (State.endPatrolTimer s).mp = s.mp ∧ (State.endPatrolTimer s).lli = s.lli ∧ (State.endPatrolTimer s).rc = s.rc ∧
    (State.endPatrolTimer s).me = s.me ∧ (State.endPatrolTimer s).ru = s.ru ∧ (State.endPatrolTimer s).aa = s.aa ∧
    (State.endPatrolTimer s).hm = s.hm ∧ (State.endPatrolTimer s).fcu = s.fcu ∧ (State.endPatrolTimer s).alu = s.alu ∧
    (State.endPatrolTimer s).array = s.array := by
  unfold State.endPatrolTimer
  (repeat' split) <;> simp

@[simp] theorem State.handleSweepLine_frame (o : FaultOrigin) (op : PortOp) (s : State) :
    (State.handleSweepLine o op s).pending = s.pending ∧ (State.handleSweepLine o op s).mode = s.mode ∧
    (State.handleSweepLine o op s).aselPins = s.aselPins ∧ (State.handleSweepLine o op s).aselLatch = s.aselLatch ∧
    (State.handleSweepLine o op s).initElapsed = s.initElapsed ∧ (State.handleSweepLine o op s).settings = s.settings ∧
    (State.handleSweepLine o op s).lli = s.lli ∧ (State.handleSweepLine o op s).rc.geometry = s.rc.geometry ∧
    (State.handleSweepLine o op s).rc.segs.length = s.rc.segs.length ∧ (State.handleSweepLine o op s).rc.remap.length = s.rc.remap.length ∧
    (State.handleSweepLine o op s).array = s.array := by
  simp [State.handleSweepLine]

@[simp] theorem State.cursorBeyond_frame (p : Nat) (s : State) :
    (State.cursorBeyond p s).pending = s.pending ∧ (State.cursorBeyond p s).mode = s.mode ∧
    (State.cursorBeyond p s).aselPins = s.aselPins ∧ (State.cursorBeyond p s).aselLatch = s.aselLatch ∧
    (State.cursorBeyond p s).initElapsed = s.initElapsed ∧ (State.cursorBeyond p s).settings = s.settings ∧
    (State.cursorBeyond p s).mp = s.mp ∧ (State.cursorBeyond p s).lli = s.lli ∧ (State.cursorBeyond p s).rc = s.rc ∧
    (State.cursorBeyond p s).me = s.me ∧ (State.cursorBeyond p s).ru = s.ru ∧ (State.cursorBeyond p s).aa = s.aa ∧
    (State.cursorBeyond p s).hm = s.hm ∧ (State.cursorBeyond p s).fcu = s.fcu ∧ (State.cursorBeyond p s).alu = s.alu ∧
    (State.cursorBeyond p s).array = s.array := by
  simp [State.cursorBeyond]

@[simp] theorem State.advanceCursor_frame (op : PortOp) (s : State) :
    (State.advanceCursor op s).pending = s.pending ∧ (State.advanceCursor op s).mode = s.mode ∧
    (State.advanceCursor op s).aselPins = s.aselPins ∧ (State.advanceCursor op s).aselLatch = s.aselLatch ∧
    (State.advanceCursor op s).initElapsed = s.initElapsed ∧ (State.advanceCursor op s).settings = s.settings ∧
    (State.advanceCursor op s).mp = s.mp ∧ (State.advanceCursor op s).lli = s.lli ∧ (State.advanceCursor op s).rc = s.rc ∧
    (State.advanceCursor op s).me = s.me ∧ (State.advanceCursor op s).ru = s.ru ∧ (State.advanceCursor op s).aa = s.aa ∧
    (State.advanceCursor op s).hm = s.hm ∧ (State.advanceCursor op s).fcu = s.fcu ∧ (State.advanceCursor op s).alu = s.alu ∧
    (State.advanceCursor op s).array = s.array := by
  unfold State.advanceCursor
  (repeat' split) <;> simp

@[simp] theorem State.patrolLine_frame (op : PortOp) (s : State) :
    (State.patrolLine op s).pending = s.pending ∧ (State.patrolLine op s).mode = s.mode ∧ (State.patrolLine op s).aselPins = s.aselPins ∧
    (State.patrolLine op s).aselLatch = s.aselLatch ∧ (State.patrolLine op s).initElapsed = s.initElapsed ∧
    (State.patrolLine op s).settings = s.settings ∧ (State.patrolLine op s).lli = s.lli ∧
    (State.patrolLine op s).rc.geometry = s.rc.geometry ∧ (State.patrolLine op s).rc.segs.length = s.rc.segs.length ∧
    (State.patrolLine op s).rc.remap.length = s.rc.remap.length ∧ (State.patrolLine op s).array = s.array := by
  unfold State.patrolLine
  (repeat' split) <;> simp

@[simp] theorem State.startFillSegment_frame (run : SweepRun) (g : Nat) (s : State) :
    (State.startFillSegment run g s).pending = s.pending ∧ (State.startFillSegment run g s).mode = s.mode ∧
    (State.startFillSegment run g s).aselPins = s.aselPins ∧ (State.startFillSegment run g s).aselLatch = s.aselLatch ∧
    (State.startFillSegment run g s).initElapsed = s.initElapsed ∧ (State.startFillSegment run g s).settings = s.settings ∧
    (State.startFillSegment run g s).mp = s.mp ∧ (State.startFillSegment run g s).rc = s.rc ∧ (State.startFillSegment run g s).me = s.me ∧
    (State.startFillSegment run g s).ru = s.ru ∧ (State.startFillSegment run g s).aa = s.aa ∧ (State.startFillSegment run g s).hm = s.hm ∧
    (State.startFillSegment run g s).fcu = s.fcu ∧ (State.startFillSegment run g s).alu = s.alu ∧
    (State.startFillSegment run g s).array = s.array := by
  simp [State.startFillSegment]

@[simp] theorem State.startWaitingSweep_frame (s : State) :
    (State.startWaitingSweep s).pending = s.pending ∧ (State.startWaitingSweep s).mode = s.mode ∧
    (State.startWaitingSweep s).aselPins = s.aselPins ∧ (State.startWaitingSweep s).aselLatch = s.aselLatch ∧
    (State.startWaitingSweep s).initElapsed = s.initElapsed ∧ (State.startWaitingSweep s).settings = s.settings ∧
    (State.startWaitingSweep s).mp = s.mp ∧ (State.startWaitingSweep s).rc = s.rc ∧ (State.startWaitingSweep s).me = s.me ∧
    (State.startWaitingSweep s).ru = s.ru ∧ (State.startWaitingSweep s).aa = s.aa ∧ (State.startWaitingSweep s).hm = s.hm ∧
    (State.startWaitingSweep s).fcu = s.fcu ∧ (State.startWaitingSweep s).alu = s.alu ∧ (State.startWaitingSweep s).array = s.array := by
  unfold State.startWaitingSweep
  (repeat' split) <;> simp

@[simp] theorem State.completePatrol_frame (flips : LineFlips) (s : State) :
    (State.completePatrol flips s).pending = s.pending ∧ (State.completePatrol flips s).mode = s.mode ∧
    (State.completePatrol flips s).aselPins = s.aselPins ∧ (State.completePatrol flips s).aselLatch = s.aselLatch ∧
    (State.completePatrol flips s).initElapsed = s.initElapsed ∧ (State.completePatrol flips s).settings = s.settings ∧
    (State.completePatrol flips s).rc.geometry = s.rc.geometry ∧ (State.completePatrol flips s).rc.segs.length = s.rc.segs.length ∧
    (State.completePatrol flips s).rc.remap.length = s.rc.remap.length := by
  unfold State.completePatrol
  (repeat' split) <;> simp

@[simp] theorem State.completeFillSegment_frame (run : SweepRun) (pos : SweepPos) (s : State) :
    (State.completeFillSegment run pos s).pending = s.pending ∧ (State.completeFillSegment run pos s).mode = s.mode ∧
    (State.completeFillSegment run pos s).aselPins = s.aselPins ∧ (State.completeFillSegment run pos s).aselLatch = s.aselLatch ∧
    (State.completeFillSegment run pos s).initElapsed = s.initElapsed ∧ (State.completeFillSegment run pos s).settings = s.settings ∧
    (State.completeFillSegment run pos s).rc.geometry = s.rc.geometry ∧
    (State.completeFillSegment run pos s).rc.segs.length = s.rc.segs.length ∧
    (State.completeFillSegment run pos s).rc.remap.length = s.rc.remap.length ∧ (State.completeFillSegment run pos s).me = s.me ∧
    (State.completeFillSegment run pos s).ru = s.ru ∧ (State.completeFillSegment run pos s).aa = s.aa ∧
    (State.completeFillSegment run pos s).fcu = s.fcu ∧ (State.completeFillSegment run pos s).array = s.array := by
  unfold State.completeFillSegment
  (repeat' split) <;> simp

@[simp] theorem State.advanceFill_frame (run : SweepRun) (pos : SweepPos) (s : State) :
    (State.advanceFill run pos s).pending = s.pending ∧ (State.advanceFill run pos s).mode = s.mode ∧
    (State.advanceFill run pos s).aselPins = s.aselPins ∧ (State.advanceFill run pos s).aselLatch = s.aselLatch ∧
    (State.advanceFill run pos s).initElapsed = s.initElapsed ∧ (State.advanceFill run pos s).settings = s.settings ∧
    (State.advanceFill run pos s).rc.geometry = s.rc.geometry ∧ (State.advanceFill run pos s).rc.segs.length = s.rc.segs.length ∧
    (State.advanceFill run pos s).rc.remap.length = s.rc.remap.length ∧ (State.advanceFill run pos s).me = s.me ∧
    (State.advanceFill run pos s).ru = s.ru ∧ (State.advanceFill run pos s).aa = s.aa ∧ (State.advanceFill run pos s).fcu = s.fcu ∧
    (State.advanceFill run pos s).array = s.array := by
  unfold State.advanceFill
  (repeat' split) <;> simp

@[simp] theorem State.completeFill_frame (s : State) :
    (State.completeFill s).pending = s.pending ∧ (State.completeFill s).mode = s.mode ∧ (State.completeFill s).aselPins = s.aselPins ∧
    (State.completeFill s).aselLatch = s.aselLatch ∧ (State.completeFill s).initElapsed = s.initElapsed ∧
    (State.completeFill s).settings = s.settings ∧ (State.completeFill s).rc.geometry = s.rc.geometry ∧
    (State.completeFill s).rc.segs.length = s.rc.segs.length ∧ (State.completeFill s).rc.remap.length = s.rc.remap.length ∧
    (State.completeFill s).me = s.me ∧ (State.completeFill s).ru = s.ru ∧ (State.completeFill s).fcu = s.fcu := by
  unfold State.completeFill
  (repeat' split) <;> simp

@[simp] theorem State.verifyLine_frame (run : SweepRun) (pos : SweepPos) (op : PortOp) (s : State) :
    (State.verifyLine run pos op s).pending = s.pending ∧ (State.verifyLine run pos op s).mode = s.mode ∧
    (State.verifyLine run pos op s).aselPins = s.aselPins ∧ (State.verifyLine run pos op s).aselLatch = s.aselLatch ∧
    (State.verifyLine run pos op s).initElapsed = s.initElapsed ∧ (State.verifyLine run pos op s).settings = s.settings ∧
    (State.verifyLine run pos op s).lli = s.lli ∧ (State.verifyLine run pos op s).rc.geometry = s.rc.geometry ∧
    (State.verifyLine run pos op s).rc.segs.length = s.rc.segs.length ∧
    (State.verifyLine run pos op s).rc.remap.length = s.rc.remap.length ∧ (State.verifyLine run pos op s).array = s.array := by
  unfold State.verifyLine
  dsimp only
  (repeat' split) <;> simp

@[simp] theorem State.completeVerify_frame (flips : LineFlips) (s : State) :
    (State.completeVerify flips s).pending = s.pending ∧ (State.completeVerify flips s).mode = s.mode ∧
    (State.completeVerify flips s).aselPins = s.aselPins ∧ (State.completeVerify flips s).aselLatch = s.aselLatch ∧
    (State.completeVerify flips s).initElapsed = s.initElapsed ∧ (State.completeVerify flips s).settings = s.settings ∧
    (State.completeVerify flips s).lli = s.lli ∧ (State.completeVerify flips s).rc.geometry = s.rc.geometry ∧
    (State.completeVerify flips s).rc.segs.length = s.rc.segs.length ∧ (State.completeVerify flips s).rc.remap.length = s.rc.remap.length := by
  unfold State.completeVerify
  (repeat' split) <;> simp

@[simp] theorem State.startFill_frame (f n : Nat) (s : State) :
    (State.startFill f n s).pending = s.pending ∧ (State.startFill f n s).mode = s.mode ∧ (State.startFill f n s).aselPins = s.aselPins ∧
    (State.startFill f n s).aselLatch = s.aselLatch ∧ (State.startFill f n s).initElapsed = s.initElapsed ∧
    (State.startFill f n s).settings = s.settings ∧ (State.startFill f n s).rc = s.rc ∧ (State.startFill f n s).me = s.me ∧
    (State.startFill f n s).ru = s.ru ∧ (State.startFill f n s).aa = s.aa ∧ (State.startFill f n s).hm = s.hm ∧
    (State.startFill f n s).fcu = s.fcu ∧ (State.startFill f n s).alu = s.alu ∧ (State.startFill f n s).array = s.array := by
  unfold State.startFill
  dsimp only
  (repeat' split) <;> simp

@[simp] theorem State.takeFill_frame (s : State) :
    (State.takeFill s).pending = s.pending ∧ (State.takeFill s).mode = s.mode ∧ (State.takeFill s).aselPins = s.aselPins ∧
    (State.takeFill s).aselLatch = s.aselLatch ∧ (State.takeFill s).initElapsed = s.initElapsed ∧
    (State.takeFill s).settings = s.settings ∧ (State.takeFill s).rc = s.rc ∧ (State.takeFill s).me = s.me ∧ (State.takeFill s).ru = s.ru ∧
    (State.takeFill s).aa = s.aa ∧ (State.takeFill s).hm = s.hm ∧ (State.takeFill s).fcu = s.fcu ∧ (State.takeFill s).array = s.array := by
  unfold State.takeFill
  (repeat' split) <;> simp

@[simp] theorem State.startVerify_frame (f n : Nat) (s : State) :
    (State.startVerify f n s).pending = s.pending ∧ (State.startVerify f n s).mode = s.mode ∧
    (State.startVerify f n s).aselPins = s.aselPins ∧ (State.startVerify f n s).aselLatch = s.aselLatch ∧
    (State.startVerify f n s).initElapsed = s.initElapsed ∧ (State.startVerify f n s).settings = s.settings ∧
    (State.startVerify f n s).lli = s.lli ∧ (State.startVerify f n s).rc = s.rc ∧ (State.startVerify f n s).me = s.me ∧
    (State.startVerify f n s).ru = s.ru ∧ (State.startVerify f n s).aa = s.aa ∧ (State.startVerify f n s).hm = s.hm ∧
    (State.startVerify f n s).fcu = s.fcu ∧ (State.startVerify f n s).alu = s.alu ∧ (State.startVerify f n s).array = s.array := by
  simp [State.startVerify]

@[simp] theorem State.takeVerify_frame (s : State) :
    (State.takeVerify s).pending = s.pending ∧ (State.takeVerify s).mode = s.mode ∧ (State.takeVerify s).aselPins = s.aselPins ∧
    (State.takeVerify s).aselLatch = s.aselLatch ∧ (State.takeVerify s).initElapsed = s.initElapsed ∧
    (State.takeVerify s).settings = s.settings ∧ (State.takeVerify s).lli = s.lli ∧ (State.takeVerify s).rc = s.rc ∧
    (State.takeVerify s).me = s.me ∧ (State.takeVerify s).ru = s.ru ∧ (State.takeVerify s).aa = s.aa ∧ (State.takeVerify s).hm = s.hm ∧
    (State.takeVerify s).fcu = s.fcu ∧ (State.takeVerify s).array = s.array := by
  unfold State.takeVerify
  (repeat' split) <;> simp

@[simp] theorem State.calReturn_frame (p : Nat) (r : HealthRecord) (s : State) :
    (State.calReturn p r s).pending = s.pending ∧ (State.calReturn p r s).mode = s.mode ∧ (State.calReturn p r s).aselPins = s.aselPins ∧
    (State.calReturn p r s).aselLatch = s.aselLatch ∧ (State.calReturn p r s).initElapsed = s.initElapsed ∧
    (State.calReturn p r s).settings = s.settings ∧ (State.calReturn p r s).mp = s.mp ∧ (State.calReturn p r s).lli = s.lli ∧
    (State.calReturn p r s).rc = s.rc ∧ (State.calReturn p r s).me = s.me ∧ (State.calReturn p r s).se = s.se ∧
    (State.calReturn p r s).ru = s.ru ∧ (State.calReturn p r s).aa = s.aa ∧ (State.calReturn p r s).fcu = s.fcu ∧
    (State.calReturn p r s).alu = s.alu ∧ (State.calReturn p r s).array = s.array := by
  simp [State.calReturn]

@[simp] theorem State.calAlarm_frame (p : Nat) (r : HealthRecord) (s : State) :
    (State.calAlarm p r s).pending = s.pending ∧ (State.calAlarm p r s).mode = s.mode ∧ (State.calAlarm p r s).aselPins = s.aselPins ∧
    (State.calAlarm p r s).aselLatch = s.aselLatch ∧ (State.calAlarm p r s).initElapsed = s.initElapsed ∧
    (State.calAlarm p r s).settings = s.settings ∧ (State.calAlarm p r s).mp = s.mp ∧ (State.calAlarm p r s).lli = s.lli ∧
    (State.calAlarm p r s).rc.geometry = s.rc.geometry ∧ (State.calAlarm p r s).rc.segs.length = s.rc.segs.length ∧
    (State.calAlarm p r s).rc.remap.length = s.rc.remap.length ∧ (State.calAlarm p r s).se = s.se ∧ (State.calAlarm p r s).ru = s.ru ∧
    (State.calAlarm p r s).aa = s.aa ∧ (State.calAlarm p r s).fcu = s.fcu ∧ (State.calAlarm p r s).array = s.array := by
  simp [State.calAlarm]

@[simp] theorem State.passBaseline_frame (p raw left : Nat) (r : HealthRecord) (s : State) :
    (State.passBaseline p raw left r s).pending = s.pending ∧ (State.passBaseline p raw left r s).mode = s.mode ∧
    (State.passBaseline p raw left r s).aselPins = s.aselPins ∧ (State.passBaseline p raw left r s).aselLatch = s.aselLatch ∧
    (State.passBaseline p raw left r s).initElapsed = s.initElapsed ∧ (State.passBaseline p raw left r s).settings = s.settings ∧
    (State.passBaseline p raw left r s).mp = s.mp ∧ (State.passBaseline p raw left r s).lli = s.lli ∧
    (State.passBaseline p raw left r s).rc.geometry = s.rc.geometry ∧
    (State.passBaseline p raw left r s).rc.segs.length = s.rc.segs.length ∧
    (State.passBaseline p raw left r s).rc.remap.length = s.rc.remap.length ∧ (State.passBaseline p raw left r s).se = s.se ∧
    (State.passBaseline p raw left r s).ru = s.ru ∧ (State.passBaseline p raw left r s).aa = s.aa ∧
    (State.passBaseline p raw left r s).fcu = s.fcu ∧ (State.passBaseline p raw left r s).array = s.array := by
  unfold State.passBaseline
  dsimp only
  (repeat' split) <;> simp

@[simp] theorem State.passQuiet_frame (p raw : Nat) (r : HealthRecord) (s : State) :
    (State.passQuiet p raw r s).pending = s.pending ∧ (State.passQuiet p raw r s).mode = s.mode ∧
    (State.passQuiet p raw r s).aselPins = s.aselPins ∧ (State.passQuiet p raw r s).aselLatch = s.aselLatch ∧
    (State.passQuiet p raw r s).initElapsed = s.initElapsed ∧ (State.passQuiet p raw r s).settings = s.settings ∧
    (State.passQuiet p raw r s).mp = s.mp ∧ (State.passQuiet p raw r s).lli = s.lli ∧ (State.passQuiet p raw r s).rc = s.rc ∧
    (State.passQuiet p raw r s).me = s.me ∧ (State.passQuiet p raw r s).se = s.se ∧ (State.passQuiet p raw r s).ru = s.ru ∧
    (State.passQuiet p raw r s).aa = s.aa ∧ (State.passQuiet p raw r s).fcu = s.fcu ∧ (State.passQuiet p raw r s).array = s.array := by
  unfold State.passQuiet
  (repeat' split) <;> simp

@[simp] theorem State.passWatch_frame (p raw : Nat) (comp : Int) (a : Nat) (snap : Option Nat) (r : HealthRecord) (s : State) :
    (State.passWatch p raw comp a snap r s).pending = s.pending ∧ (State.passWatch p raw comp a snap r s).mode = s.mode ∧
    (State.passWatch p raw comp a snap r s).aselPins = s.aselPins ∧ (State.passWatch p raw comp a snap r s).aselLatch = s.aselLatch ∧
    (State.passWatch p raw comp a snap r s).initElapsed = s.initElapsed ∧ (State.passWatch p raw comp a snap r s).settings = s.settings ∧
    (State.passWatch p raw comp a snap r s).mp = s.mp ∧ (State.passWatch p raw comp a snap r s).lli = s.lli ∧
    (State.passWatch p raw comp a snap r s).rc.geometry = s.rc.geometry ∧
    (State.passWatch p raw comp a snap r s).rc.segs.length = s.rc.segs.length ∧
    (State.passWatch p raw comp a snap r s).rc.remap.length = s.rc.remap.length ∧ (State.passWatch p raw comp a snap r s).se = s.se ∧
    (State.passWatch p raw comp a snap r s).ru = s.ru ∧ (State.passWatch p raw comp a snap r s).aa = s.aa ∧
    (State.passWatch p raw comp a snap r s).fcu = s.fcu ∧ (State.passWatch p raw comp a snap r s).array = s.array := by
  unfold State.passWatch
  dsimp only
  (repeat' split) <;> simp

@[simp] theorem State.passAlarm_frame (p raw : Nat) (r : HealthRecord) (s : State) :
    (State.passAlarm p raw r s).pending = s.pending ∧ (State.passAlarm p raw r s).mode = s.mode ∧
    (State.passAlarm p raw r s).aselPins = s.aselPins ∧ (State.passAlarm p raw r s).aselLatch = s.aselLatch ∧
    (State.passAlarm p raw r s).initElapsed = s.initElapsed ∧ (State.passAlarm p raw r s).settings = s.settings ∧
    (State.passAlarm p raw r s).mp = s.mp ∧ (State.passAlarm p raw r s).lli = s.lli ∧
    (State.passAlarm p raw r s).rc.geometry = s.rc.geometry ∧ (State.passAlarm p raw r s).rc.segs.length = s.rc.segs.length ∧
    (State.passAlarm p raw r s).rc.remap.length = s.rc.remap.length ∧ (State.passAlarm p raw r s).se = s.se ∧
    (State.passAlarm p raw r s).ru = s.ru ∧ (State.passAlarm p raw r s).aa = s.aa ∧ (State.passAlarm p raw r s).fcu = s.fcu ∧
    (State.passAlarm p raw r s).array = s.array := by
  simp [State.passAlarm]

@[simp] theorem State.passOne_frame (p raw : Nat) (ds : Deltas) (s : State) :
    (State.passOne p raw ds s).pending = s.pending ∧ (State.passOne p raw ds s).mode = s.mode ∧
    (State.passOne p raw ds s).aselPins = s.aselPins ∧ (State.passOne p raw ds s).aselLatch = s.aselLatch ∧
    (State.passOne p raw ds s).initElapsed = s.initElapsed ∧ (State.passOne p raw ds s).settings = s.settings ∧
    (State.passOne p raw ds s).mp = s.mp ∧ (State.passOne p raw ds s).lli = s.lli ∧
    (State.passOne p raw ds s).rc.geometry = s.rc.geometry ∧ (State.passOne p raw ds s).rc.segs.length = s.rc.segs.length ∧
    (State.passOne p raw ds s).rc.remap.length = s.rc.remap.length ∧ (State.passOne p raw ds s).se = s.se ∧
    (State.passOne p raw ds s).ru = s.ru ∧ (State.passOne p raw ds s).aa = s.aa ∧ (State.passOne p raw ds s).fcu = s.fcu ∧
    (State.passOne p raw ds s).array = s.array := by
  unfold State.passOne
  dsimp only
  (repeat' split) <;> simp

@[simp] theorem State.passOver_frame (raws ps : List Nat) (ds : Deltas) (s : State) :
    (State.passOver raws ps ds s).pending = s.pending ∧ (State.passOver raws ps ds s).mode = s.mode ∧
    (State.passOver raws ps ds s).aselPins = s.aselPins ∧ (State.passOver raws ps ds s).aselLatch = s.aselLatch ∧
    (State.passOver raws ps ds s).initElapsed = s.initElapsed ∧ (State.passOver raws ps ds s).settings = s.settings ∧
    (State.passOver raws ps ds s).mp = s.mp ∧ (State.passOver raws ps ds s).lli = s.lli ∧
    (State.passOver raws ps ds s).rc.geometry = s.rc.geometry ∧ (State.passOver raws ps ds s).rc.segs.length = s.rc.segs.length ∧
    (State.passOver raws ps ds s).rc.remap.length = s.rc.remap.length ∧ (State.passOver raws ps ds s).se = s.se ∧
    (State.passOver raws ps ds s).ru = s.ru ∧ (State.passOver raws ps ds s).aa = s.aa ∧ (State.passOver raws ps ds s).fcu = s.fcu ∧
    (State.passOver raws ps ds s).array = s.array := by
  induction ps generalizing ds s with
  | nil => simp [State.passOver]
  | cons p rest ih => simp [State.passOver, ih]

@[simp] theorem State.epochPass_frame (s : State) :
    (State.epochPass s).pending = s.pending ∧ (State.epochPass s).mode = s.mode ∧ (State.epochPass s).aselPins = s.aselPins ∧
    (State.epochPass s).aselLatch = s.aselLatch ∧ (State.epochPass s).initElapsed = s.initElapsed ∧
    (State.epochPass s).settings = s.settings ∧ (State.epochPass s).lli = s.lli ∧ (State.epochPass s).rc.geometry = s.rc.geometry ∧
    (State.epochPass s).rc.segs.length = s.rc.segs.length ∧ (State.epochPass s).rc.remap.length = s.rc.remap.length ∧
    (State.epochPass s).ru = s.ru ∧ (State.epochPass s).aa = s.aa ∧ (State.epochPass s).fcu = s.fcu ∧ (State.epochPass s).array = s.array := by
  simp [State.epochPass]

@[simp] theorem State.endEpochTimer_frame (s : State) :
    (State.endEpochTimer s).pending = s.pending ∧ (State.endEpochTimer s).mode = s.mode ∧ (State.endEpochTimer s).aselPins = s.aselPins ∧
    (State.endEpochTimer s).aselLatch = s.aselLatch ∧ (State.endEpochTimer s).initElapsed = s.initElapsed ∧
    (State.endEpochTimer s).settings = s.settings ∧ (State.endEpochTimer s).lli = s.lli ∧
    (State.endEpochTimer s).rc.geometry = s.rc.geometry ∧ (State.endEpochTimer s).rc.segs.length = s.rc.segs.length ∧
    (State.endEpochTimer s).rc.remap.length = s.rc.remap.length ∧ (State.endEpochTimer s).ru = s.ru ∧ (State.endEpochTimer s).aa = s.aa ∧
    (State.endEpochTimer s).fcu = s.fcu ∧ (State.endEpochTimer s).array = s.array := by
  unfold State.endEpochTimer
  (repeat' split) <;> simp

@[simp] theorem State.takeSetRole_frame (s : State) :
    (State.takeSetRole s).pending = s.pending ∧ (State.takeSetRole s).mode = s.mode ∧ (State.takeSetRole s).aselPins = s.aselPins ∧
    (State.takeSetRole s).aselLatch = s.aselLatch ∧ (State.takeSetRole s).initElapsed = s.initElapsed ∧
    (State.takeSetRole s).settings = s.settings ∧ (State.takeSetRole s).lli = s.lli ∧ (State.takeSetRole s).rc = s.rc ∧
    (State.takeSetRole s).me = s.me ∧ (State.takeSetRole s).se = s.se ∧ (State.takeSetRole s).ru = s.ru ∧ (State.takeSetRole s).aa = s.aa ∧
    (State.takeSetRole s).fcu = s.fcu ∧ (State.takeSetRole s).alu = s.alu ∧ (State.takeSetRole s).array = s.array := by
  unfold State.takeSetRole
  (repeat' split) <;> simp

@[simp] theorem State.takeReseed_frame (s : State) :
    (State.takeReseed s).pending = s.pending ∧ (State.takeReseed s).mode = s.mode ∧ (State.takeReseed s).aselPins = s.aselPins ∧
    (State.takeReseed s).aselLatch = s.aselLatch ∧ (State.takeReseed s).initElapsed = s.initElapsed ∧
    (State.takeReseed s).settings = s.settings ∧ (State.takeReseed s).lli = s.lli ∧ (State.takeReseed s).rc = s.rc ∧
    (State.takeReseed s).me = s.me ∧ (State.takeReseed s).se = s.se ∧ (State.takeReseed s).ru = s.ru ∧ (State.takeReseed s).aa = s.aa ∧
    (State.takeReseed s).fcu = s.fcu ∧ (State.takeReseed s).alu = s.alu ∧ (State.takeReseed s).array = s.array := by
  unfold State.takeReseed
  dsimp only
  (repeat' split) <;> simp

@[simp] theorem State.takeReadHealth_frame (s : State) :
    (State.takeReadHealth s).pending = s.pending ∧ (State.takeReadHealth s).mode = s.mode ∧
    (State.takeReadHealth s).aselPins = s.aselPins ∧ (State.takeReadHealth s).aselLatch = s.aselLatch ∧
    (State.takeReadHealth s).initElapsed = s.initElapsed ∧ (State.takeReadHealth s).settings = s.settings ∧
    (State.takeReadHealth s).lli = s.lli ∧ (State.takeReadHealth s).rc = s.rc ∧ (State.takeReadHealth s).me = s.me ∧
    (State.takeReadHealth s).se = s.se ∧ (State.takeReadHealth s).ru = s.ru ∧ (State.takeReadHealth s).aa = s.aa ∧
    (State.takeReadHealth s).hm = s.hm ∧ (State.takeReadHealth s).fcu = s.fcu ∧ (State.takeReadHealth s).alu = s.alu ∧
    (State.takeReadHealth s).array = s.array := by
  unfold State.takeReadHealth
  dsimp only
  (repeat' split) <;> simp

@[simp] theorem State.startCalibrate_frame (s : State) :
    (State.startCalibrate s).pending = s.pending ∧ (State.startCalibrate s).mode = s.mode ∧
    (State.startCalibrate s).aselPins = s.aselPins ∧ (State.startCalibrate s).aselLatch = s.aselLatch ∧
    (State.startCalibrate s).initElapsed = s.initElapsed ∧ (State.startCalibrate s).settings = s.settings ∧
    (State.startCalibrate s).lli = s.lli ∧ (State.startCalibrate s).rc = s.rc ∧ (State.startCalibrate s).me = s.me ∧
    (State.startCalibrate s).ru = s.ru ∧ (State.startCalibrate s).aa = s.aa ∧ (State.startCalibrate s).fcu = s.fcu ∧
    (State.startCalibrate s).array = s.array := by
  simp [State.startCalibrate]

@[simp] theorem State.takeCalibrate_frame (s : State) :
    (State.takeCalibrate s).pending = s.pending ∧ (State.takeCalibrate s).mode = s.mode ∧ (State.takeCalibrate s).aselPins = s.aselPins ∧
    (State.takeCalibrate s).aselLatch = s.aselLatch ∧ (State.takeCalibrate s).initElapsed = s.initElapsed ∧
    (State.takeCalibrate s).settings = s.settings ∧ (State.takeCalibrate s).lli = s.lli ∧ (State.takeCalibrate s).rc = s.rc ∧
    (State.takeCalibrate s).me = s.me ∧ (State.takeCalibrate s).ru = s.ru ∧ (State.takeCalibrate s).aa = s.aa ∧
    (State.takeCalibrate s).fcu = s.fcu ∧ (State.takeCalibrate s).array = s.array := by
  unfold State.takeCalibrate
  (repeat' split) <;> simp

@[simp] theorem State.finishCancel_frame (s : State) :
    (State.finishCancel s).pending = s.pending ∧ (State.finishCancel s).mode = s.mode ∧ (State.finishCancel s).aselPins = s.aselPins ∧
    (State.finishCancel s).aselLatch = s.aselLatch ∧ (State.finishCancel s).initElapsed = s.initElapsed ∧
    (State.finishCancel s).settings = s.settings ∧ (State.finishCancel s).rc.geometry = s.rc.geometry ∧
    (State.finishCancel s).rc.segs.length = s.rc.segs.length ∧ (State.finishCancel s).rc.remap.length = s.rc.remap.length ∧
    (State.finishCancel s).se = s.se ∧ (State.finishCancel s).ru = s.ru ∧ (State.finishCancel s).aa = s.aa ∧
    (State.finishCancel s).hm = s.hm ∧ (State.finishCancel s).fcu = s.fcu ∧ (State.finishCancel s).array = s.array := by
  unfold State.finishCancel
  (repeat' split) <;> simp

@[simp] theorem State.reportCopy_frame (e : CopyingEntry) (op : PortOp) (ws : List (Nat × StoredWord)) (s : State) :
    (State.reportCopy e op ws s).pending = s.pending ∧ (State.reportCopy e op ws s).mode = s.mode ∧
    (State.reportCopy e op ws s).aselPins = s.aselPins ∧ (State.reportCopy e op ws s).aselLatch = s.aselLatch ∧
    (State.reportCopy e op ws s).initElapsed = s.initElapsed ∧ (State.reportCopy e op ws s).settings = s.settings ∧
    (State.reportCopy e op ws s).mp = s.mp ∧ (State.reportCopy e op ws s).lli = s.lli ∧ (State.reportCopy e op ws s).rc = s.rc ∧
    (State.reportCopy e op ws s).me = s.me ∧ (State.reportCopy e op ws s).se = s.se ∧ (State.reportCopy e op ws s).ru = s.ru ∧
    (State.reportCopy e op ws s).aa = s.aa ∧ (State.reportCopy e op ws s).hm = s.hm ∧ (State.reportCopy e op ws s).array = s.array := by
  unfold State.reportCopy
  (repeat' split) <;> simp

@[simp] theorem State.finishCopyRead_frame (redo : Bool) (e : CopyingEntry) (op : PortOp) (s : State) :
    (State.finishCopyRead redo e op s).pending = s.pending ∧ (State.finishCopyRead redo e op s).mode = s.mode ∧
    (State.finishCopyRead redo e op s).aselPins = s.aselPins ∧ (State.finishCopyRead redo e op s).aselLatch = s.aselLatch ∧
    (State.finishCopyRead redo e op s).initElapsed = s.initElapsed ∧ (State.finishCopyRead redo e op s).settings = s.settings ∧
    (State.finishCopyRead redo e op s).lli = s.lli ∧ (State.finishCopyRead redo e op s).rc.geometry = s.rc.geometry ∧
    (State.finishCopyRead redo e op s).rc.segs.length = s.rc.segs.length ∧
    (State.finishCopyRead redo e op s).rc.remap.length = s.rc.remap.length ∧ (State.finishCopyRead redo e op s).array = s.array := by
  simp [State.finishCopyRead]

@[simp] theorem State.completeCopyRead_frame (flips : LineFlips) (s : State) :
    (State.completeCopyRead flips s).pending = s.pending ∧ (State.completeCopyRead flips s).mode = s.mode ∧
    (State.completeCopyRead flips s).aselPins = s.aselPins ∧ (State.completeCopyRead flips s).aselLatch = s.aselLatch ∧
    (State.completeCopyRead flips s).initElapsed = s.initElapsed ∧ (State.completeCopyRead flips s).settings = s.settings ∧
    (State.completeCopyRead flips s).rc.geometry = s.rc.geometry ∧ (State.completeCopyRead flips s).rc.segs.length = s.rc.segs.length ∧
    (State.completeCopyRead flips s).rc.remap.length = s.rc.remap.length := by
  unfold State.completeCopyRead
  (repeat' split) <;> simp

@[simp] theorem State.completeCopyWrite_frame (s : State) :
    (State.completeCopyWrite s).pending = s.pending ∧ (State.completeCopyWrite s).mode = s.mode ∧
    (State.completeCopyWrite s).aselPins = s.aselPins ∧ (State.completeCopyWrite s).aselLatch = s.aselLatch ∧
    (State.completeCopyWrite s).initElapsed = s.initElapsed ∧ (State.completeCopyWrite s).settings = s.settings ∧
    (State.completeCopyWrite s).rc.geometry = s.rc.geometry ∧ (State.completeCopyWrite s).rc.segs.length = s.rc.segs.length ∧
    (State.completeCopyWrite s).rc.remap.length = s.rc.remap.length ∧ (State.completeCopyWrite s).se = s.se ∧
    (State.completeCopyWrite s).ru = s.ru ∧ (State.completeCopyWrite s).hm = s.hm ∧ (State.completeCopyWrite s).fcu = s.fcu := by
  unfold State.completeCopyWrite
  (repeat' split) <;> simp

@[simp] theorem State.reportFailure_frame (op : PortOp) (fs : List (Nat × StoreWord × StoredWord)) (s : State) :
    (State.reportFailure op fs s).pending = s.pending ∧ (State.reportFailure op fs s).mode = s.mode ∧
    (State.reportFailure op fs s).aselPins = s.aselPins ∧ (State.reportFailure op fs s).aselLatch = s.aselLatch ∧
    (State.reportFailure op fs s).initElapsed = s.initElapsed ∧ (State.reportFailure op fs s).settings = s.settings ∧
    (State.reportFailure op fs s).mp = s.mp ∧ (State.reportFailure op fs s).lli = s.lli ∧ (State.reportFailure op fs s).rc = s.rc ∧
    (State.reportFailure op fs s).me = s.me ∧ (State.reportFailure op fs s).se = s.se ∧ (State.reportFailure op fs s).ru = s.ru ∧
    (State.reportFailure op fs s).aa = s.aa ∧ (State.reportFailure op fs s).hm = s.hm ∧ (State.reportFailure op fs s).array = s.array := by
  unfold State.reportFailure
  (repeat' split) <;> simp

@[simp] theorem State.failTarget_frame (i : Nat) (e : CopyingEntry) (s : State) :
    (State.failTarget i e s).pending = s.pending ∧ (State.failTarget i e s).mode = s.mode ∧
    (State.failTarget i e s).aselPins = s.aselPins ∧ (State.failTarget i e s).aselLatch = s.aselLatch ∧
    (State.failTarget i e s).initElapsed = s.initElapsed ∧ (State.failTarget i e s).settings = s.settings ∧
    (State.failTarget i e s).mp = s.mp ∧ (State.failTarget i e s).lli = s.lli ∧ (State.failTarget i e s).rc.geometry = s.rc.geometry ∧
    (State.failTarget i e s).rc.segs.length = s.rc.segs.length ∧ (State.failTarget i e s).rc.remap.length = s.rc.remap.length ∧
    (State.failTarget i e s).se = s.se ∧ (State.failTarget i e s).ru = s.ru ∧ (State.failTarget i e s).aa = s.aa ∧
    (State.failTarget i e s).hm = s.hm ∧ (State.failTarget i e s).fcu = s.fcu ∧ (State.failTarget i e s).array = s.array := by
  unfold State.failTarget
  dsimp only
  (repeat' split) <;> simp

@[simp] theorem State.commit_frame (i : Nat) (e : CopyingEntry) (poisoned : Nat) (s : State) :
    (State.commit i e poisoned s).pending = s.pending ∧ (State.commit i e poisoned s).mode = s.mode ∧
    (State.commit i e poisoned s).aselPins = s.aselPins ∧ (State.commit i e poisoned s).aselLatch = s.aselLatch ∧
    (State.commit i e poisoned s).initElapsed = s.initElapsed ∧ (State.commit i e poisoned s).settings = s.settings ∧
    (State.commit i e poisoned s).lli = s.lli ∧ (State.commit i e poisoned s).rc.geometry = s.rc.geometry ∧
    (State.commit i e poisoned s).rc.segs.length = s.rc.segs.length ∧ (State.commit i e poisoned s).rc.remap.length = s.rc.remap.length ∧
    (State.commit i e poisoned s).aa = s.aa ∧ (State.commit i e poisoned s).fcu = s.fcu ∧ (State.commit i e poisoned s).array = s.array := by
  simp [State.commit]

@[simp] theorem State.endLine_frame (i : Nat) (e : CopyingEntry) (buffer : List StoreWord) (redo : Bool) (s : State) :
    (State.endLine i e buffer redo s).pending = s.pending ∧ (State.endLine i e buffer redo s).mode = s.mode ∧
    (State.endLine i e buffer redo s).aselPins = s.aselPins ∧ (State.endLine i e buffer redo s).aselLatch = s.aselLatch ∧
    (State.endLine i e buffer redo s).initElapsed = s.initElapsed ∧ (State.endLine i e buffer redo s).settings = s.settings ∧
    (State.endLine i e buffer redo s).lli = s.lli ∧ (State.endLine i e buffer redo s).rc.geometry = s.rc.geometry ∧
    (State.endLine i e buffer redo s).rc.segs.length = s.rc.segs.length ∧
    (State.endLine i e buffer redo s).rc.remap.length = s.rc.remap.length ∧ (State.endLine i e buffer redo s).aa = s.aa ∧
    (State.endLine i e buffer redo s).fcu = s.fcu ∧ (State.endLine i e buffer redo s).array = s.array := by
  unfold State.endLine
  (repeat' split) <;> simp

@[simp] theorem State.finishVerifyRead_frame (i : Nat) (e : CopyingEntry) (buffer : List StoreWord) (redo : Bool) (op : PortOp) (s : State) :
    (State.finishVerifyRead i e buffer redo op s).pending = s.pending ∧ (State.finishVerifyRead i e buffer redo op s).mode = s.mode ∧
    (State.finishVerifyRead i e buffer redo op s).aselPins = s.aselPins ∧
    (State.finishVerifyRead i e buffer redo op s).aselLatch = s.aselLatch ∧
    (State.finishVerifyRead i e buffer redo op s).initElapsed = s.initElapsed ∧
    (State.finishVerifyRead i e buffer redo op s).settings = s.settings ∧ (State.finishVerifyRead i e buffer redo op s).lli = s.lli ∧
    (State.finishVerifyRead i e buffer redo op s).rc.geometry = s.rc.geometry ∧
    (State.finishVerifyRead i e buffer redo op s).rc.segs.length = s.rc.segs.length ∧
    (State.finishVerifyRead i e buffer redo op s).rc.remap.length = s.rc.remap.length ∧
    (State.finishVerifyRead i e buffer redo op s).array = s.array := by
  unfold State.finishVerifyRead
  dsimp only
  (repeat' split) <;> simp

@[simp] theorem State.completeVerifyRead_frame (flips : LineFlips) (s : State) :
    (State.completeVerifyRead flips s).pending = s.pending ∧ (State.completeVerifyRead flips s).mode = s.mode ∧
    (State.completeVerifyRead flips s).aselPins = s.aselPins ∧ (State.completeVerifyRead flips s).aselLatch = s.aselLatch ∧
    (State.completeVerifyRead flips s).initElapsed = s.initElapsed ∧ (State.completeVerifyRead flips s).settings = s.settings ∧
    (State.completeVerifyRead flips s).rc.geometry = s.rc.geometry ∧ (State.completeVerifyRead flips s).rc.segs.length = s.rc.segs.length ∧
    (State.completeVerifyRead flips s).rc.remap.length = s.rc.remap.length := by
  unfold State.completeVerifyRead
  (repeat' split) <;> simp

@[simp] theorem State.takeRetire_frame (s : State) :
    (State.takeRetire s).pending = s.pending ∧ (State.takeRetire s).mode = s.mode ∧ (State.takeRetire s).aselPins = s.aselPins ∧
    (State.takeRetire s).aselLatch = s.aselLatch ∧ (State.takeRetire s).initElapsed = s.initElapsed ∧
    (State.takeRetire s).settings = s.settings ∧ (State.takeRetire s).lli = s.lli ∧ (State.takeRetire s).rc = s.rc ∧
    (State.takeRetire s).se = s.se ∧ (State.takeRetire s).ru = s.ru ∧ (State.takeRetire s).aa = s.aa ∧ (State.takeRetire s).hm = s.hm ∧
    (State.takeRetire s).fcu = s.fcu ∧ (State.takeRetire s).alu = s.alu ∧ (State.takeRetire s).array = s.array := by
  unfold State.takeRetire
  dsimp only
  (repeat' split) <;> simp

@[simp] theorem State.takeCancel_frame (s : State) :
    (State.takeCancel s).pending = s.pending ∧ (State.takeCancel s).mode = s.mode ∧ (State.takeCancel s).aselPins = s.aselPins ∧
    (State.takeCancel s).aselLatch = s.aselLatch ∧ (State.takeCancel s).initElapsed = s.initElapsed ∧
    (State.takeCancel s).settings = s.settings ∧ (State.takeCancel s).rc.geometry = s.rc.geometry ∧
    (State.takeCancel s).rc.segs.length = s.rc.segs.length ∧ (State.takeCancel s).rc.remap.length = s.rc.remap.length ∧
    (State.takeCancel s).se = s.se ∧ (State.takeCancel s).ru = s.ru ∧ (State.takeCancel s).aa = s.aa ∧ (State.takeCancel s).hm = s.hm ∧
    (State.takeCancel s).fcu = s.fcu ∧ (State.takeCancel s).array = s.array := by
  unfold State.takeCancel
  (repeat' split) <;> simp

@[simp] theorem State.setQuiesced_frame (b : Bool) (s : State) :
    (State.setQuiesced b s).pending = s.pending ∧ (State.setQuiesced b s).mode = s.mode ∧ (State.setQuiesced b s).aselPins = s.aselPins ∧
    (State.setQuiesced b s).aselLatch = s.aselLatch ∧ (State.setQuiesced b s).initElapsed = s.initElapsed ∧
    (State.setQuiesced b s).settings = s.settings ∧ (State.setQuiesced b s).mp = s.mp ∧ (State.setQuiesced b s).lli = s.lli ∧
    (State.setQuiesced b s).rc = s.rc ∧ (State.setQuiesced b s).ru = s.ru ∧ (State.setQuiesced b s).aa = s.aa ∧
    (State.setQuiesced b s).hm = s.hm ∧ (State.setQuiesced b s).fcu = s.fcu ∧ (State.setQuiesced b s).alu = s.alu ∧
    (State.setQuiesced b s).array = s.array := by
  simp [State.setQuiesced]

@[simp] theorem State.takeQuiesce_frame (s : State) :
    (State.takeQuiesce s).pending = s.pending ∧ (State.takeQuiesce s).mode = s.mode ∧ (State.takeQuiesce s).aselPins = s.aselPins ∧
    (State.takeQuiesce s).aselLatch = s.aselLatch ∧ (State.takeQuiesce s).initElapsed = s.initElapsed ∧
    (State.takeQuiesce s).settings = s.settings ∧ (State.takeQuiesce s).lli = s.lli ∧ (State.takeQuiesce s).rc = s.rc ∧
    (State.takeQuiesce s).ru = s.ru ∧ (State.takeQuiesce s).aa = s.aa ∧ (State.takeQuiesce s).hm = s.hm ∧
    (State.takeQuiesce s).fcu = s.fcu ∧ (State.takeQuiesce s).array = s.array := by
  unfold State.takeQuiesce
  dsimp only
  (repeat' split) <;> simp

@[simp] theorem State.takeResume_frame (s : State) :
    (State.takeResume s).pending = s.pending ∧ (State.takeResume s).mode = s.mode ∧ (State.takeResume s).aselPins = s.aselPins ∧
    (State.takeResume s).aselLatch = s.aselLatch ∧ (State.takeResume s).initElapsed = s.initElapsed ∧
    (State.takeResume s).settings = s.settings ∧ (State.takeResume s).lli = s.lli ∧ (State.takeResume s).rc = s.rc ∧
    (State.takeResume s).ru = s.ru ∧ (State.takeResume s).aa = s.aa ∧ (State.takeResume s).hm = s.hm ∧ (State.takeResume s).fcu = s.fcu ∧
    (State.takeResume s).alu = s.alu ∧ (State.takeResume s).array = s.array := by
  unfold State.takeResume
  (repeat' split) <;> simp

@[simp] theorem State.doRestore_frame (g t : Nat) (s : State) :
    (State.doRestore g t s).pending = s.pending ∧ (State.doRestore g t s).mode = s.mode ∧ (State.doRestore g t s).aselPins = s.aselPins ∧
    (State.doRestore g t s).aselLatch = s.aselLatch ∧ (State.doRestore g t s).initElapsed = s.initElapsed ∧
    (State.doRestore g t s).settings = s.settings ∧ (State.doRestore g t s).mp = s.mp ∧ (State.doRestore g t s).lli = s.lli ∧
    (State.doRestore g t s).rc.geometry = s.rc.geometry ∧ (State.doRestore g t s).rc.segs.length = s.rc.segs.length ∧
    (State.doRestore g t s).rc.remap.length = s.rc.remap.length ∧ (State.doRestore g t s).me = s.me ∧ (State.doRestore g t s).aa = s.aa ∧
    (State.doRestore g t s).fcu = s.fcu ∧ (State.doRestore g t s).alu = s.alu ∧ (State.doRestore g t s).array = s.array := by
  unfold State.doRestore
  (repeat' split) <;> simp

@[simp] theorem State.takeRestore_frame (s : State) :
    (State.takeRestore s).pending = s.pending ∧ (State.takeRestore s).mode = s.mode ∧ (State.takeRestore s).aselPins = s.aselPins ∧
    (State.takeRestore s).aselLatch = s.aselLatch ∧ (State.takeRestore s).initElapsed = s.initElapsed ∧
    (State.takeRestore s).settings = s.settings ∧ (State.takeRestore s).lli = s.lli ∧ (State.takeRestore s).rc.geometry = s.rc.geometry ∧
    (State.takeRestore s).rc.segs.length = s.rc.segs.length ∧ (State.takeRestore s).rc.remap.length = s.rc.remap.length ∧
    (State.takeRestore s).me = s.me ∧ (State.takeRestore s).aa = s.aa ∧ (State.takeRestore s).fcu = s.fcu ∧
    (State.takeRestore s).alu = s.alu ∧ (State.takeRestore s).array = s.array := by
  unfold State.takeRestore
  dsimp only
  (repeat' split) <;> simp

@[simp] theorem State.takeTranslate_frame (s : State) :
    (State.takeTranslate s).pending = s.pending ∧ (State.takeTranslate s).mode = s.mode ∧ (State.takeTranslate s).aselPins = s.aselPins ∧
    (State.takeTranslate s).aselLatch = s.aselLatch ∧ (State.takeTranslate s).initElapsed = s.initElapsed ∧
    (State.takeTranslate s).settings = s.settings ∧ (State.takeTranslate s).lli = s.lli ∧ (State.takeTranslate s).rc = s.rc ∧
    (State.takeTranslate s).me = s.me ∧ (State.takeTranslate s).se = s.se ∧ (State.takeTranslate s).ru = s.ru ∧
    (State.takeTranslate s).aa = s.aa ∧ (State.takeTranslate s).hm = s.hm ∧ (State.takeTranslate s).fcu = s.fcu ∧
    (State.takeTranslate s).alu = s.alu ∧ (State.takeTranslate s).array = s.array := by
  unfold State.takeTranslate
  dsimp only
  (repeat' split) <;> simp

@[simp] theorem State.takeReadRemap_frame (s : State) :
    (State.takeReadRemap s).pending = s.pending ∧ (State.takeReadRemap s).mode = s.mode ∧ (State.takeReadRemap s).aselPins = s.aselPins ∧
    (State.takeReadRemap s).aselLatch = s.aselLatch ∧ (State.takeReadRemap s).initElapsed = s.initElapsed ∧
    (State.takeReadRemap s).settings = s.settings ∧ (State.takeReadRemap s).lli = s.lli ∧ (State.takeReadRemap s).rc = s.rc ∧
    (State.takeReadRemap s).me = s.me ∧ (State.takeReadRemap s).se = s.se ∧ (State.takeReadRemap s).ru = s.ru ∧
    (State.takeReadRemap s).aa = s.aa ∧ (State.takeReadRemap s).hm = s.hm ∧ (State.takeReadRemap s).fcu = s.fcu ∧
    (State.takeReadRemap s).alu = s.alu ∧ (State.takeReadRemap s).array = s.array := by
  unfold State.takeReadRemap
  dsimp only
  (repeat' split) <;> simp

@[simp] theorem State.leaveInit_frame (s : State) :
    (State.leaveInit s).pending = s.pending ∧ (State.leaveInit s).aselPins = s.aselPins ∧ (State.leaveInit s).initElapsed = s.initElapsed ∧
    (State.leaveInit s).settings = s.settings ∧ (State.leaveInit s).mp = s.mp ∧ (State.leaveInit s).rc = s.rc ∧
    (State.leaveInit s).me = s.me ∧ (State.leaveInit s).se = s.se ∧ (State.leaveInit s).ru = s.ru ∧ (State.leaveInit s).aa = s.aa ∧
    (State.leaveInit s).hm = s.hm ∧ (State.leaveInit s).fcu = s.fcu ∧ (State.leaveInit s).alu = s.alu ∧
    (State.leaveInit s).array = s.array := by
  unfold State.leaveInit
  (repeat' split) <;> simp

@[simp] theorem State.startOnline_frame (p n : Nat) (s : State) :
    (State.startOnline p n s).pending = s.pending ∧ (State.startOnline p n s).aselPins = s.aselPins ∧
    (State.startOnline p n s).aselLatch = s.aselLatch ∧ (State.startOnline p n s).initElapsed = s.initElapsed ∧
    (State.startOnline p n s).settings = s.settings ∧ (State.startOnline p n s).mp = s.mp ∧ (State.startOnline p n s).lli = s.lli ∧
    (State.startOnline p n s).me = s.me ∧ (State.startOnline p n s).ru = s.ru ∧ (State.startOnline p n s).aa = s.aa ∧
    (State.startOnline p n s).fcu = s.fcu ∧ (State.startOnline p n s).alu = s.alu ∧ (State.startOnline p n s).array = s.array := by
  simp [State.startOnline]

@[simp] theorem State.takeGoOnline_frame (s : State) :
    (State.takeGoOnline s).pending = s.pending ∧ (State.takeGoOnline s).aselPins = s.aselPins ∧
    (State.takeGoOnline s).aselLatch = s.aselLatch ∧ (State.takeGoOnline s).initElapsed = s.initElapsed ∧
    (State.takeGoOnline s).settings = s.settings ∧ (State.takeGoOnline s).lli = s.lli ∧ (State.takeGoOnline s).me = s.me ∧
    (State.takeGoOnline s).ru = s.ru ∧ (State.takeGoOnline s).aa = s.aa ∧ (State.takeGoOnline s).fcu = s.fcu ∧
    (State.takeGoOnline s).alu = s.alu ∧ (State.takeGoOnline s).array = s.array := by
  unfold State.takeGoOnline
  (repeat' split) <;> simp

@[simp] theorem State.abortResults_frame (s : State) :
    (State.abortResults s).pending = s.pending ∧ (State.abortResults s).mode = s.mode ∧ (State.abortResults s).aselPins = s.aselPins ∧
    (State.abortResults s).aselLatch = s.aselLatch ∧ (State.abortResults s).initElapsed = s.initElapsed ∧
    (State.abortResults s).settings = s.settings ∧ (State.abortResults s).lli = s.lli ∧ (State.abortResults s).rc = s.rc ∧
    (State.abortResults s).me = s.me ∧ (State.abortResults s).se = s.se ∧ (State.abortResults s).ru = s.ru ∧
    (State.abortResults s).aa = s.aa ∧ (State.abortResults s).hm = s.hm ∧ (State.abortResults s).fcu = s.fcu ∧
    (State.abortResults s).alu = s.alu ∧ (State.abortResults s).array = s.array := by
  unfold State.abortResults
  (repeat' split) <;> simp

@[simp] theorem State.abortLong_frame (s : State) :
    (State.abortLong s).pending = s.pending ∧ (State.abortLong s).mode = s.mode ∧ (State.abortLong s).aselPins = s.aselPins ∧
    (State.abortLong s).aselLatch = s.aselLatch ∧ (State.abortLong s).initElapsed = s.initElapsed ∧
    (State.abortLong s).settings = s.settings ∧ (State.abortLong s).lli = s.lli ∧ (State.abortLong s).rc = s.rc ∧
    (State.abortLong s).me = s.me ∧ (State.abortLong s).se = s.se ∧ (State.abortLong s).ru = s.ru ∧ (State.abortLong s).aa = s.aa ∧
    (State.abortLong s).hm = s.hm ∧ (State.abortLong s).fcu = s.fcu ∧ (State.abortLong s).array = s.array := by
  unfold State.abortLong
  (repeat' split) <;> simp

@[simp] theorem State.resetSweep_frame (s : State) :
    (State.resetSweep s).pending = s.pending ∧ (State.resetSweep s).mode = s.mode ∧ (State.resetSweep s).aselPins = s.aselPins ∧
    (State.resetSweep s).aselLatch = s.aselLatch ∧ (State.resetSweep s).initElapsed = s.initElapsed ∧
    (State.resetSweep s).settings = s.settings ∧ (State.resetSweep s).mp = s.mp ∧ (State.resetSweep s).lli = s.lli ∧
    (State.resetSweep s).rc = s.rc ∧ (State.resetSweep s).me = s.me ∧ (State.resetSweep s).ru = s.ru ∧ (State.resetSweep s).aa = s.aa ∧
    (State.resetSweep s).hm = s.hm ∧ (State.resetSweep s).fcu = s.fcu ∧ (State.resetSweep s).alu = s.alu ∧
    (State.resetSweep s).array = s.array := by
  simp [State.resetSweep]

@[simp] theorem State.restartTimers_frame (s : State) :
    (State.restartTimers s).pending = s.pending ∧ (State.restartTimers s).mode = s.mode ∧ (State.restartTimers s).aselPins = s.aselPins ∧
    (State.restartTimers s).aselLatch = s.aselLatch ∧ (State.restartTimers s).initElapsed = s.initElapsed ∧
    (State.restartTimers s).settings = s.settings ∧ (State.restartTimers s).mp = s.mp ∧ (State.restartTimers s).lli = s.lli ∧
    (State.restartTimers s).rc = s.rc ∧ (State.restartTimers s).me = s.me ∧ (State.restartTimers s).ru = s.ru ∧
    (State.restartTimers s).aa = s.aa ∧ (State.restartTimers s).fcu = s.fcu ∧ (State.restartTimers s).alu = s.alu ∧
    (State.restartTimers s).array = s.array := by
  unfold State.restartTimers
  (repeat' split) <;> simp

@[simp] theorem State.resetBlocks_frame (s : State) :
    (State.resetBlocks s).pending = s.pending ∧ (State.resetBlocks s).mode = s.mode ∧ (State.resetBlocks s).aselPins = s.aselPins ∧
    (State.resetBlocks s).aselLatch = s.aselLatch ∧ (State.resetBlocks s).initElapsed = s.initElapsed ∧
    (State.resetBlocks s).settings = s.settings ∧ (State.resetBlocks s).mp = s.mp ∧ (State.resetBlocks s).rc.geometry = s.rc.geometry ∧
    (State.resetBlocks s).rc.segs.length = s.rc.segs.length ∧ (State.resetBlocks s).rc.remap.length = s.rc.remap.length ∧
    (State.resetBlocks s).array = s.array := by
  simp [State.resetBlocks, RemapCtl.engineReset]

@[simp] theorem State.engineReset_frame (s : State) :
    (State.engineReset s).pending = s.pending ∧ (State.engineReset s).mode = s.mode ∧ (State.engineReset s).aselPins = s.aselPins ∧
    (State.engineReset s).aselLatch = s.aselLatch ∧ (State.engineReset s).initElapsed = s.initElapsed ∧
    (State.engineReset s).settings = s.settings ∧ (State.engineReset s).rc.geometry = s.rc.geometry ∧
    (State.engineReset s).rc.segs.length = s.rc.segs.length ∧ (State.engineReset s).rc.remap.length = s.rc.remap.length ∧
    (State.engineReset s).array = s.array := by
  unfold State.engineReset
  (repeat' split) <;> simp

@[simp] theorem State.takeClearCapture_frame (s : State) :
    (State.takeClearCapture s).pending = s.pending ∧ (State.takeClearCapture s).mode = s.mode ∧
    (State.takeClearCapture s).aselPins = s.aselPins ∧ (State.takeClearCapture s).aselLatch = s.aselLatch ∧
    (State.takeClearCapture s).initElapsed = s.initElapsed ∧ (State.takeClearCapture s).settings = s.settings ∧
    (State.takeClearCapture s).lli = s.lli ∧ (State.takeClearCapture s).rc = s.rc ∧ (State.takeClearCapture s).me = s.me ∧
    (State.takeClearCapture s).se = s.se ∧ (State.takeClearCapture s).ru = s.ru ∧ (State.takeClearCapture s).aa = s.aa ∧
    (State.takeClearCapture s).hm = s.hm ∧ (State.takeClearCapture s).alu = s.alu ∧ (State.takeClearCapture s).array = s.array := by
  simp [State.takeClearCapture]

@[simp] theorem State.takeReadCapture_frame (s : State) :
    (State.takeReadCapture s).pending = s.pending ∧ (State.takeReadCapture s).mode = s.mode ∧
    (State.takeReadCapture s).aselPins = s.aselPins ∧ (State.takeReadCapture s).aselLatch = s.aselLatch ∧
    (State.takeReadCapture s).initElapsed = s.initElapsed ∧ (State.takeReadCapture s).settings = s.settings ∧
    (State.takeReadCapture s).lli = s.lli ∧ (State.takeReadCapture s).rc = s.rc ∧ (State.takeReadCapture s).me = s.me ∧
    (State.takeReadCapture s).se = s.se ∧ (State.takeReadCapture s).ru = s.ru ∧ (State.takeReadCapture s).aa = s.aa ∧
    (State.takeReadCapture s).hm = s.hm ∧ (State.takeReadCapture s).fcu = s.fcu ∧ (State.takeReadCapture s).alu = s.alu ∧
    (State.takeReadCapture s).array = s.array := by
  simp [State.takeReadCapture]

@[simp] theorem State.restartEpochIfWritten_frame (t : Transfer) (s : State) :
    (State.restartEpochIfWritten t s).pending = s.pending ∧ (State.restartEpochIfWritten t s).mode = s.mode ∧
    (State.restartEpochIfWritten t s).aselPins = s.aselPins ∧ (State.restartEpochIfWritten t s).aselLatch = s.aselLatch ∧
    (State.restartEpochIfWritten t s).initElapsed = s.initElapsed ∧ (State.restartEpochIfWritten t s).settings = s.settings ∧
    (State.restartEpochIfWritten t s).mp = s.mp ∧ (State.restartEpochIfWritten t s).lli = s.lli ∧
    (State.restartEpochIfWritten t s).rc = s.rc ∧ (State.restartEpochIfWritten t s).me = s.me ∧
    (State.restartEpochIfWritten t s).se = s.se ∧ (State.restartEpochIfWritten t s).ru = s.ru ∧
    (State.restartEpochIfWritten t s).aa = s.aa ∧ (State.restartEpochIfWritten t s).fcu = s.fcu ∧
    (State.restartEpochIfWritten t s).alu = s.alu ∧ (State.restartEpochIfWritten t s).array = s.array := by
  unfold State.restartEpochIfWritten
  (repeat' split) <;> simp

@[simp] theorem State.restartPatrolIfWritten_frame (t : Transfer) (s : State) :
    (State.restartPatrolIfWritten t s).pending = s.pending ∧ (State.restartPatrolIfWritten t s).mode = s.mode ∧
    (State.restartPatrolIfWritten t s).aselPins = s.aselPins ∧ (State.restartPatrolIfWritten t s).aselLatch = s.aselLatch ∧
    (State.restartPatrolIfWritten t s).initElapsed = s.initElapsed ∧ (State.restartPatrolIfWritten t s).settings = s.settings ∧
    (State.restartPatrolIfWritten t s).mp = s.mp ∧ (State.restartPatrolIfWritten t s).lli = s.lli ∧
    (State.restartPatrolIfWritten t s).rc = s.rc ∧ (State.restartPatrolIfWritten t s).me = s.me ∧
    (State.restartPatrolIfWritten t s).ru = s.ru ∧ (State.restartPatrolIfWritten t s).aa = s.aa ∧
    (State.restartPatrolIfWritten t s).hm = s.hm ∧ (State.restartPatrolIfWritten t s).fcu = s.fcu ∧
    (State.restartPatrolIfWritten t s).alu = s.alu ∧ (State.restartPatrolIfWritten t s).array = s.array := by
  unfold State.restartPatrolIfWritten
  (repeat' split) <;> simp

@[simp] theorem State.writeSettings_frame (t : Transfer) (s : State) :
    (State.writeSettings t s).pending = s.pending ∧ (State.writeSettings t s).mode = s.mode ∧
    (State.writeSettings t s).aselPins = s.aselPins ∧ (State.writeSettings t s).aselLatch = s.aselLatch ∧
    (State.writeSettings t s).initElapsed = s.initElapsed ∧ (State.writeSettings t s).lli = s.lli ∧ (State.writeSettings t s).rc = s.rc ∧
    (State.writeSettings t s).me = s.me ∧ (State.writeSettings t s).ru = s.ru ∧ (State.writeSettings t s).aa = s.aa ∧
    (State.writeSettings t s).fcu = s.fcu ∧ (State.writeSettings t s).alu = s.alu ∧ (State.writeSettings t s).array = s.array := by
  unfold State.writeSettings
  (repeat' split) <;> simp

@[simp] theorem State.writeEnables_frame (t : Transfer) (s : State) :
    (State.writeEnables t s).pending = s.pending ∧ (State.writeEnables t s).mode = s.mode ∧
    (State.writeEnables t s).aselPins = s.aselPins ∧ (State.writeEnables t s).aselLatch = s.aselLatch ∧
    (State.writeEnables t s).initElapsed = s.initElapsed ∧ (State.writeEnables t s).settings = s.settings ∧
    (State.writeEnables t s).lli = s.lli ∧ (State.writeEnables t s).rc = s.rc ∧ (State.writeEnables t s).me = s.me ∧
    (State.writeEnables t s).se = s.se ∧ (State.writeEnables t s).ru = s.ru ∧ (State.writeEnables t s).aa = s.aa ∧
    (State.writeEnables t s).hm = s.hm ∧ (State.writeEnables t s).fcu = s.fcu ∧ (State.writeEnables t s).array = s.array := by
  unfold State.writeEnables
  (repeat' split) <;> simp

@[simp] theorem State.writeAck_frame (t : Transfer) (s : State) :
    (State.writeAck t s).pending = s.pending ∧ (State.writeAck t s).mode = s.mode ∧ (State.writeAck t s).aselPins = s.aselPins ∧
    (State.writeAck t s).aselLatch = s.aselLatch ∧ (State.writeAck t s).initElapsed = s.initElapsed ∧
    (State.writeAck t s).settings = s.settings ∧ (State.writeAck t s).lli = s.lli ∧ (State.writeAck t s).rc = s.rc ∧
    (State.writeAck t s).me = s.me ∧ (State.writeAck t s).se = s.se ∧ (State.writeAck t s).ru = s.ru ∧ (State.writeAck t s).aa = s.aa ∧
    (State.writeAck t s).hm = s.hm ∧ (State.writeAck t s).fcu = s.fcu ∧ (State.writeAck t s).array = s.array := by
  unfold State.writeAck
  (repeat' split) <;> simp

@[simp] theorem State.writeSetting_frame (x : Setting) (v : BitVec 16) (s : State) :
    (State.writeSetting x v s).pending = s.pending ∧ (State.writeSetting x v s).mode = s.mode ∧
    (State.writeSetting x v s).aselPins = s.aselPins ∧ (State.writeSetting x v s).aselLatch = s.aselLatch ∧
    (State.writeSetting x v s).initElapsed = s.initElapsed ∧ (State.writeSetting x v s).lli = s.lli ∧
    (State.writeSetting x v s).rc = s.rc ∧ (State.writeSetting x v s).me = s.me ∧ (State.writeSetting x v s).ru = s.ru ∧
    (State.writeSetting x v s).aa = s.aa ∧ (State.writeSetting x v s).fcu = s.fcu ∧ (State.writeSetting x v s).alu = s.alu ∧
    (State.writeSetting x v s).array = s.array := by
  simp [State.writeSetting]

@[simp] theorem State.unknownCode_frame (code : Byte) (s : State) :
    (State.unknownCode code s).pending = s.pending ∧ (State.unknownCode code s).mode = s.mode ∧
    (State.unknownCode code s).aselPins = s.aselPins ∧ (State.unknownCode code s).aselLatch = s.aselLatch ∧
    (State.unknownCode code s).initElapsed = s.initElapsed ∧ (State.unknownCode code s).settings = s.settings ∧
    (State.unknownCode code s).lli = s.lli ∧ (State.unknownCode code s).rc = s.rc ∧ (State.unknownCode code s).me = s.me ∧
    (State.unknownCode code s).se = s.se ∧ (State.unknownCode code s).ru = s.ru ∧ (State.unknownCode code s).aa = s.aa ∧
    (State.unknownCode code s).hm = s.hm ∧ (State.unknownCode code s).fcu = s.fcu ∧ (State.unknownCode code s).alu = s.alu ∧
    (State.unknownCode code s).array = s.array := by
  unfold State.unknownCode State.takeCommand
  repeat' split
  all_goals simp

@[simp] theorem State.readTransfer_frame (x : ReadTransfer) (s : State) :
    (State.readTransfer x s).pending = s.pending ∧ (State.readTransfer x s).mode = s.mode ∧
    (State.readTransfer x s).aselPins = s.aselPins ∧ (State.readTransfer x s).aselLatch = s.aselLatch ∧
    (State.readTransfer x s).initElapsed = s.initElapsed ∧ (State.readTransfer x s).settings = s.settings ∧
    (State.readTransfer x s).lli = s.lli ∧ (State.readTransfer x s).rc = s.rc ∧ (State.readTransfer x s).me = s.me ∧
    (State.readTransfer x s).se = s.se ∧ (State.readTransfer x s).ru = s.ru ∧ (State.readTransfer x s).aa = s.aa ∧
    (State.readTransfer x s).hm = s.hm ∧ (State.readTransfer x s).fcu = s.fcu ∧ (State.readTransfer x s).alu = s.alu ∧
    (State.readTransfer x s).array = s.array := by
  unfold State.readTransfer
  (repeat' split) <;> simp

end Sys2Proof.Machine
end

