-- ==== Sys2Proof/Laws/Memory.lean ====
section
/-! SUPPORT. The array: what a read finds after a write, and that every operation keeps the canonical form. -/

namespace Sys2Proof.Machine

/-- A read of the word just written finds what was written; a read of another word finds what was there (R68). -/
theorem Memory.read_write (m : Memory) (hm : m.Pairwise fun x y => x.1 < y.1) (a b : Nat) (v : StoredWord) :
    (Memory.write m a v).read b = if b = a then v else m.read b := by
  induction m with
  | nil =>
    unfold Memory.write
    split <;> simp_all [Memory.read, eq_comm]
  | cons c rest ih =>
    obtain ⟨k, x⟩ := c
    obtain ⟨hk, hrest⟩ := List.pairwise_cons.mp hm
    have below : ∀ y, y ≤ k → Memory.read rest y = Config.unwrittenWord := by
      intro y hy
      clear ih hm
      induction rest with
      | nil => rfl
      | cons d t iht =>
        obtain ⟨j, z⟩ := d
        have hj : k < j := hk (j, z) List.mem_cons_self
        rw [Memory.read, if_neg (by omega)]
        exact iht (fun e he => hk e (List.mem_cons_of_mem _ he)) (List.pairwise_cons.mp hrest).2
    by_cases h1 : a < k
    · by_cases hb : b = a
      · subst hb
        have hk' : k ≠ b := by omega
        by_cases h2 : v = Config.unwrittenWord <;> simp [Memory.write, Memory.read, h1, h2, hk', below b (by omega)]
      · by_cases h2 : v = Config.unwrittenWord <;> simp [Memory.write, Memory.read, h1, h2, hb, eq_comm (a := a)]
    · by_cases h3 : a = k
      · subst h3
        by_cases hb : b = a
        · subst hb
          by_cases h2 : v = Config.unwrittenWord <;> simp [Memory.write, Memory.read, h2, below]
        · by_cases h2 : v = Config.unwrittenWord <;> simp [Memory.write, Memory.read, h2, hb, eq_comm (a := a)]
      · by_cases hb : k = b
        · subst hb; simp [Memory.write, Memory.read, h1, h3, eq_comm (a := k)]
        · simp [Memory.write, Memory.read, h1, h3, hb, ih hrest]

/-- Every word number a write leaves in the list was there before or is the one written. -/
theorem Memory.mem_write {m : Memory} {a : Nat} {v : StoredWord} {c : Nat × StoredWord} (h : c ∈ Memory.write m a v) :
    c ∈ m ∨ (c = (a, v) ∧ v ≠ Config.unwrittenWord) := by
  induction m with
  | nil =>
    unfold Memory.write at h
    split at h <;> simp_all
  | cons d rest ih =>
    obtain ⟨k, x⟩ := d
    unfold Memory.write at h
    split_ifs at h <;> simp only [List.mem_cons] at h ⊢ <;> tauto

/-- A write keeps the canonical form. -/
theorem Memory.wf_write {m : Memory} (h : Memory.wf m) (a : Nat) (v : StoredWord) : Memory.wf (Memory.write m a v) := by
  refine ⟨?_, ?_⟩
  · obtain ⟨h, -⟩ := h
    induction m with
    | nil => unfold Memory.write; split <;> simp
    | cons c rest ih =>
      obtain ⟨k, x⟩ := c
      obtain ⟨hk, hrest⟩ := List.pairwise_cons.mp h
      unfold Memory.write
      split_ifs with h1 h2 h3 h4
      · exact h
      · refine List.pairwise_cons.mpr ⟨fun c hc => ?_, h⟩
        rcases List.mem_cons.mp hc with rfl | hc
        · exact h1
        · exact lt_trans h1 (hk c hc)
      · exact hrest
      · exact List.pairwise_cons.mpr ⟨fun c hc => by subst h3; exact hk c hc, hrest⟩
      · refine List.pairwise_cons.mpr ⟨fun c hc => ?_, ih hrest⟩
        rcases Memory.mem_write hc with hc | ⟨rfl, -⟩
        · exact hk c hc
        · simp only; omega
  · intro c hc
    rcases Memory.mem_write hc with hc | ⟨rfl, hv⟩
    · exact h.2 c hc
    · exact hv

/-- A fold of writes keeps the canonical form. -/
theorem Memory.wf_foldl {m : Memory} (h : Memory.wf m) (ws : List Nat) (f : Nat → Option StoredWord) (n : Nat → Nat) :
    Memory.wf (ws.foldl (fun acc w => match f w with | some v => Memory.write acc (n w) v | none => acc) m) := by
  induction ws generalizing m with
  | nil => exact h
  | cons w rest ih =>
    rw [List.foldl_cons]
    refine ih ?_
    split
    · exact Memory.wf_write h _ _
    · exact h

/-- A LINE_WRITE keeps the canonical form. -/
theorem Memory.wf_storeLine {m : Memory} (h : Memory.wf m) (p n : Nat) (ws : List (Option StoredWord)) :
    Memory.wf (Memory.storeLine m p n ws) := Memory.wf_foldl h lineWords (fun w => ws.getD w none) (wordNumber p n)

/-- The cell changes of a line keep the canonical form. -/
theorem Memory.wf_flipLine {m : Memory} (h : Memory.wf m) (p n : Nat) (flips : LineFlips) :
    Memory.wf (Memory.flipLine m p n flips) := Memory.wf_storeLine h p n _

/-- What a read finds after a fold of writes to distinct words. -/
theorem Memory.read_foldl {m : Memory} (h : Memory.wf m) (ws : List Nat) (hws : ws.Nodup) (f : Nat → Option StoredWord)
    (n : Nat → Nat) (hn : ∀ w ∈ ws, ∀ w' ∈ ws, n w = n w' → w = w') (a : Nat) :
    (ws.foldl (fun acc w => match f w with | some v => Memory.write acc (n w) v | none => acc) m).read a =
      match ws.find? (fun w => n w == a) with
      | some w => (f w).getD (m.read a)
      | none => m.read a := by
  induction ws generalizing m with
  | nil => rfl
  | cons w rest ih =>
    have hrest : ∀ x ∈ rest, ∀ x' ∈ rest, n x = n x' → x = x' := fun x hx x' hx' =>
      hn x (List.mem_cons_of_mem _ hx) x' (List.mem_cons_of_mem _ hx')
    have fresh : ∀ x ∈ rest, n x ≠ n w := by
      intro x hx hxw
      have := hn x (List.mem_cons_of_mem _ hx) w List.mem_cons_self hxw
      subst this
      exact (List.nodup_cons.mp hws).1 hx
    rw [List.foldl_cons]
    cases hf : f w with
    | none =>
      simp only
      rw [ih h (List.nodup_cons.mp hws).2 hrest]
      by_cases hw : n w = a
      · have none : rest.find? (fun x => n x == a) = none := by
          rw [List.find?_eq_none]; intro x hx hxa; exact fresh x hx (by simpa [hw] using hxa)
        simp [hw, none, hf]
      · simp [hw]
    | some v =>
      simp only
      rw [ih (Memory.wf_write h _ _) (List.nodup_cons.mp hws).2 hrest]
      by_cases hw : n w = a
      · have none : rest.find? (fun x => n x == a) = none := by
          rw [List.find?_eq_none]; intro x hx hxa; exact fresh x hx (by simpa [hw] using hxa)
        simp [hw, none, hf, Memory.read_write m h.1]
      · simp [hw, Memory.read_write m h.1, Ne.symm hw]

/-- Word numbers of one line differ as their words do. -/
theorem wordNumber_inj (p n w w' : Nat) (h : wordNumber p n w = wordNumber p n w') : w = w' := by
  unfold wordNumber at h; omega

/-- What a read finds after a LINE_WRITE: a selected word of the line as written, every other word as it was (R1, R66). -/
theorem Memory.read_storeLine {m : Memory} (h : Memory.wf m) (p n : Nat) (ws : List (Option StoredWord)) (a : Nat) :
    (Memory.storeLine m p n ws).read a =
      match lineWords.find? (fun w => wordNumber p n w == a) with
      | some w => (ws.getD w none).getD (m.read a)
      | none => m.read a :=
  Memory.read_foldl h lineWords (by decide) (fun w => ws.getD w none) (wordNumber p n)
    (fun w _ w' _ e => wordNumber_inj p n w w' e) a

end Sys2Proof.Machine
end

