-- ==== Sys2Proof/Laws/PerInstr.lean ====
section
/-! SUPPORT. The family Shape: one lemma per constructor of `Instr`. A row that a command code starts is the row that the Management Port reads from that code,
and no other row has a code (R190, R192). -/

namespace Sys2Proof.Laws

/-- The command code that starts a row; none for a row that no code starts (R192). -/
def codeOf : Instr → Option Byte
  | .powerOnReset _ _ => none
  | .initComplete => none
  | .requestTaken _ => none
  | .responseTaken => none
  | .requestExecute => none
  | .arrayGrant => none
  | .demandReadComplete _ => none
  | .demandMergeReadComplete _ => none
  | .demandWriteComplete => none
  | .dualWriteComplete => none
  | .repairWriteComplete => none
  | .patrolReadComplete _ => none
  | .fillWriteComplete => none
  | .verifySweepReadComplete _ => none
  | .copyReadComplete _ => none
  | .copyWriteComplete => none
  | .verifyReadComplete _ => none
  | .discardedCompletion => none
  | .patrolTick => none
  | .epochEnd => none
  | .holdOffEnd => none
  | .migrationStart => none
  | .quiesceComplete => none
  | .settingsWrite _ => none
  | .epochExponentWrite _ => none
  | .patrolIntervalWrite _ _ => none
  | .enableWrite _ => none
  | .acknowledgeMaskWrite _ => none
  | .unknownCommand code => some code
  | .goOnline => some 0x01
  | .engineReset => some 0x02
  | .fill => some 0x10
  | .verify => some 0x11
  | .retire => some 0x20
  | .cancelMigration => some 0x21
  | .quiesce => some 0x22
  | .resume => some 0x23
  | .restore => some 0x30
  | .translate => some 0x31
  | .readRemap => some 0x32
  | .setRole => some 0x40
  | .reseed => some 0x41
  | .readHealth => some 0x42
  | .calibrate => some 0x43
  | .clearCapture => some 0x50
  | .readCapture => some 0x51
  | .readTransfer _ => none

/-- The port reads the row back from its code. -/
def Shape.Statement (i : Instr) : Prop := i.wf = true → ∀ c, codeOf i = some c → Machine.commandOfCode c = some i

/-- A row without a code. -/
theorem statement_of_no_code {i : Instr} (h : codeOf i = none) : Shape.Statement i := by
  intro _ c hc
  rw [h] at hc
  cases hc

/-- A row with a code, which the port reads back. -/
theorem statement_of_code {i : Instr} {c : Byte} (h : codeOf i = some c) (hc : Machine.commandOfCode c = some i) :
    Shape.Statement i := by
  intro _ c' h'
  rw [h] at h'
  cases h'
  exact hc

/-- A code that R192's table does not list, other than 00h, names no command. -/
theorem unknown_code : ∀ c : Byte, c ≠ 0 → commandCodes.contains c = false → Machine.commandOfCode c = some (.unknownCommand c) := by
  decide +kernel

theorem Shape.powerOnReset (asel : BitVec 2) (kept : Byte) : Shape.Statement (.powerOnReset asel kept) := statement_of_no_code rfl
theorem Shape.initComplete : Shape.Statement .initComplete := statement_of_no_code rfl
theorem Shape.requestTaken (r : Request) : Shape.Statement (.requestTaken r) := statement_of_no_code rfl
theorem Shape.responseTaken : Shape.Statement .responseTaken := statement_of_no_code rfl
theorem Shape.requestExecute : Shape.Statement .requestExecute := statement_of_no_code rfl
theorem Shape.arrayGrant : Shape.Statement .arrayGrant := statement_of_no_code rfl
theorem Shape.demandReadComplete (flips : LineFlips) : Shape.Statement (.demandReadComplete flips) := statement_of_no_code rfl
theorem Shape.demandMergeReadComplete (flips : LineFlips) : Shape.Statement (.demandMergeReadComplete flips) := statement_of_no_code rfl
theorem Shape.demandWriteComplete : Shape.Statement .demandWriteComplete := statement_of_no_code rfl
theorem Shape.dualWriteComplete : Shape.Statement .dualWriteComplete := statement_of_no_code rfl
theorem Shape.repairWriteComplete : Shape.Statement .repairWriteComplete := statement_of_no_code rfl
theorem Shape.patrolReadComplete (flips : LineFlips) : Shape.Statement (.patrolReadComplete flips) := statement_of_no_code rfl
theorem Shape.fillWriteComplete : Shape.Statement .fillWriteComplete := statement_of_no_code rfl
theorem Shape.verifySweepReadComplete (flips : LineFlips) : Shape.Statement (.verifySweepReadComplete flips) := statement_of_no_code rfl
theorem Shape.copyReadComplete (flips : LineFlips) : Shape.Statement (.copyReadComplete flips) := statement_of_no_code rfl
theorem Shape.copyWriteComplete : Shape.Statement .copyWriteComplete := statement_of_no_code rfl
theorem Shape.verifyReadComplete (flips : LineFlips) : Shape.Statement (.verifyReadComplete flips) := statement_of_no_code rfl
theorem Shape.discardedCompletion : Shape.Statement .discardedCompletion := statement_of_no_code rfl
theorem Shape.patrolTick : Shape.Statement .patrolTick := statement_of_no_code rfl
theorem Shape.epochEnd : Shape.Statement .epochEnd := statement_of_no_code rfl
theorem Shape.holdOffEnd : Shape.Statement .holdOffEnd := statement_of_no_code rfl
theorem Shape.migrationStart : Shape.Statement .migrationStart := statement_of_no_code rfl
theorem Shape.quiesceComplete : Shape.Statement .quiesceComplete := statement_of_no_code rfl
theorem Shape.settingsWrite (t : Transfer) : Shape.Statement (.settingsWrite t) := statement_of_no_code rfl
theorem Shape.epochExponentWrite (k : Byte) : Shape.Statement (.epochExponentWrite k) := statement_of_no_code rfl
theorem Shape.patrolIntervalWrite (which : PaceInterval) (v : BitVec 16) : Shape.Statement (.patrolIntervalWrite which v) := statement_of_no_code rfl
theorem Shape.enableWrite (t : Transfer) : Shape.Statement (.enableWrite t) := statement_of_no_code rfl
theorem Shape.acknowledgeMaskWrite (t : Transfer) : Shape.Statement (.acknowledgeMaskWrite t) := statement_of_no_code rfl
theorem Shape.unknownCommand (code : Byte) : Shape.Statement (.unknownCommand code) := by
  intro h c hc
  cases hc
  simp only [Instr.wf, Bool.and_eq_true, bne_iff_ne, Bool.not_eq_true'] at h
  exact unknown_code code h.1 h.2
theorem Shape.goOnline : Shape.Statement .goOnline := statement_of_code rfl rfl
theorem Shape.engineReset : Shape.Statement .engineReset := statement_of_code rfl rfl
theorem Shape.fill : Shape.Statement .fill := statement_of_code rfl rfl
theorem Shape.verify : Shape.Statement .verify := statement_of_code rfl rfl
theorem Shape.retire : Shape.Statement .retire := statement_of_code rfl rfl
theorem Shape.cancelMigration : Shape.Statement .cancelMigration := statement_of_code rfl rfl
theorem Shape.quiesce : Shape.Statement .quiesce := statement_of_code rfl rfl
theorem Shape.resume : Shape.Statement .resume := statement_of_code rfl rfl
theorem Shape.restore : Shape.Statement .restore := statement_of_code rfl rfl
theorem Shape.translate : Shape.Statement .translate := statement_of_code rfl rfl
theorem Shape.readRemap : Shape.Statement .readRemap := statement_of_code rfl rfl
theorem Shape.setRole : Shape.Statement .setRole := statement_of_code rfl rfl
theorem Shape.reseed : Shape.Statement .reseed := statement_of_code rfl rfl
theorem Shape.readHealth : Shape.Statement .readHealth := statement_of_code rfl rfl
theorem Shape.calibrate : Shape.Statement .calibrate := statement_of_code rfl rfl
theorem Shape.clearCapture : Shape.Statement .clearCapture := statement_of_code rfl rfl
theorem Shape.readCapture : Shape.Statement .readCapture := statement_of_code rfl rfl
theorem Shape.readTransfer (t : ReadTransfer) : Shape.Statement (.readTransfer t) := statement_of_no_code rfl

end Sys2Proof.Laws
end

