-- ==== Sys2Proof/Laws/Protocol.lean ====
section
/-! SUPPORT. What the shared operations of the command protocol, the fill hold and the port do, each said once: a code reaches the port in one of three ways (R190), a raised or
held operation is tested again (R61), the outstanding operation is delivered to its requester (R67). -/

namespace Sys2Proof.Machine

/-- In INIT nothing is taken (R183). -/
theorem State.takeCommand_init (code : Byte) (body : State → State) (s : State) (h : s.mode = .init) :
    State.takeCommand code body s = s := by
  simp [State.takeCommand, State.mpAnswers, h]

/-- While a long command executes the code is refused (R190). -/
theorem State.takeCommand_busy (code : Byte) (body : State → State) (s : State) (h : s.mode ≠ .init) (hb : s.mp.busy = true) :
    State.takeCommand code body s = State.refuse code s := by
  simp [State.takeCommand, State.mpAnswers, h, hb]

/-- With none executing the command is taken, the refusal fields cleared (R190). -/
theorem State.takeCommand_free (code : Byte) (body : State → State) (s : State) (h : s.mode ≠ .init) (hb : s.mp.busy = false) :
    State.takeCommand code body s = body (State.clearRefusal s) := by
  simp [State.takeCommand, State.mpAnswers, h, hb]

/-- The outstanding operation is `r`'s to take exactly when it is the record, `r`'s, with its delivery mark set (R67). -/
theorem State.delivered_eq_some (s : State) (r : Requester) (op : PortOp) :
    s.delivered r = some op ↔ s.aa.grant = some op ∧ op.requester = r ∧ op.deliver = true := by
  unfold State.delivered
  split
  · rename_i o h
    split
    · rename_i hc
      simp only [Bool.and_eq_true, decide_eq_true_eq] at hc
      constructor
      · intro he
        cases he
        exact ⟨h, hc.1, hc.2⟩
      · intro he
        rw [h] at he
        exact he.1
    · rename_i hc
      simp only [Bool.and_eq_true, decide_eq_true_eq] at hc
      constructor
      · intro he
        cases he
      · intro he
        rw [h] at he
        obtain ⟨h1, h2, h3⟩ := he
        cases h1
        exact absurd ⟨h2, h3⟩ hc
  · rename_i h
    rw [h]
    simp

/-- The hold's test answers held exactly when the request's logical segment is under fill (R61). -/
theorem State.holdTest_held (s : State) (r : Request) :
    s.holdTest r = .held ↔ ∃ g, s.translate r.cls r.address = some g ∧ s.underFill = some g := by
  unfold State.holdTest
  split
  · rename_i g h
    split <;> simp_all
  · simp_all

/-- The hold's test answers held or raised (R61). -/
theorem State.holdTest_cases (s : State) (r : Request) : s.holdTest r = .held ∨ s.holdTest r = .raised := by
  unfold State.holdTest
  repeat' split
  all_goals simp

/-- Testing the hold again keeps the held-off requests and the number of slots, and every other field (R61). -/
theorem State.retestHold_link (s : State) :
    s.retestHold = { s with lli := { s.lli with queue := s.retestHold.lli.queue } } ∧
      s.retestHold.lli.queue.length = s.lli.queue.length := by
  unfold State.retestHold
  repeat' split
  all_goals simp [State.putExec]

/-- A report leaves the part as it was but for the Fault Capture Unit and the cause flags (R173 to R175). -/
theorem State.report_eq (r : FaultReport) (s : State) :
    State.report r s =
      { s with
        fcu := s.fcu.report r
        alu := match s.fcu.cause r with
          | some c => s.alu.set c
          | none => s.alu } := by
  unfold State.report
  cases s.fcu.cause r <;> simp [State.setCause]

end Sys2Proof.Machine
end

