-- ==== Sys2Proof/Laws/Requests.lean ====
section
/-! SUPPORT. Requests on the link and in the queue: codes there and back (R197), the beginning of a WAITING request (R48), how often the arbiter chooses (R70), dual writes
dropped by a revert (R26, R59), the fields a transfer holds (R34, R185). -/

namespace Sys2Proof.Machine

/-- A request presented by its codes is the request (R44, R197). -/
theorem Request.request_link (r : Request) : r.link.request = r := by
  obtain ⟨kind, tag, cls, address, count⟩ := r
  cases kind <;> cases cls <;> rfl

/-! ## Slots not yet answered -/

/-- How many slots are not ANSWERED. -/
def unanswered (q : List Slot) : Nat := (q.filter fun x => 0 < x.rank).length

@[simp] theorem unanswered_cons (x : Slot) (q : List Slot) :
    unanswered (x :: q) = (if 0 < x.rank then 1 else 0) + unanswered q := by
  unfold unanswered
  by_cases h : 0 < x.rank <;> simp [h]
  omega

theorem unanswered_le (q : List Slot) : unanswered q ≤ q.length := List.length_filter_le _ _

/-- Beginning requests keeps the number of slots. -/
theorem beginDue_length (f : Request → Slot) (q : List Slot) : (beginDue f q).length = q.length := by
  induction q with
  | nil => rfl
  | cons x rest ih =>
    cases x with
    | waiting r =>
      unfold beginDue
      split <;> simp [ih]
    | executing r p t => rfl
    | answered resp => simp [beginDue, ih]

/-- Beginning requests leaves no more slots to answer. -/
theorem beginDue_unanswered (f : Request → Slot) (q : List Slot) : unanswered (beginDue f q) ≤ unanswered q := by
  induction q with
  | nil => exact Nat.le_refl _
  | cons x rest ih =>
    cases x with
    | waiting r =>
      unfold beginDue
      split
      all_goals
        simp [Slot.rank]
        try omega
    | executing r p t => exact Nat.le_refl _
    | answered resp => simpa [beginDue, Slot.rank] using ih

/-- Requests that begin change nothing but the slots (R48). -/
theorem State.beginRequests_eq (s : State) :
    s.beginRequests = { s with lli := { s.lli with queue := s.beginRequests.lli.queue } } ∧
      s.beginRequests.lli.queue.length = s.lli.queue.length ∧
      unanswered s.beginRequests.lli.queue ≤ unanswered s.lli.queue := by
  unfold State.beginRequests
  split
  · exact ⟨rfl, beginDue_length _ _, beginDue_unanswered _ _⟩
  · exact ⟨rfl, rfl, Nat.le_refl _⟩

/-- While a request executes none begins (R48). -/
theorem State.beginRequests_executing (s : State) (h : s.executing ≠ none) : s.beginRequests = s := by
  unfold State.beginRequests
  rw [if_neg]
  simp [h]

/-- Outside ONLINE no request begins of itself (log entry 3). -/
theorem State.beginRequests_offline (s : State) (h : s.mode ≠ .online) : s.beginRequests = s := by
  unfold State.beginRequests
  simp [h]

/-! ## The executing request's slot -/

/-- The slots with the executing request answered. -/
theorem replaceExec_unanswered (resp : Response) (q : List Slot) :
    unanswered (q.map (Slot.answered resp).replaceExec) + (if (q.findSome? Slot.exec?).isSome then 1 else 0) ≤ unanswered q := by
  induction q with
  | nil => simp [unanswered]
  | cons x rest ih =>
    have hr : unanswered (rest.map (Slot.answered resp).replaceExec) ≤ unanswered rest := by omega
    cases x with
    | waiting r => simpa [Slot.replaceExec, Slot.exec?, Slot.rank, Nat.add_assoc] using ih
    | executing r p t => simp [Slot.replaceExec, Slot.exec?, Slot.rank]; omega
    | answered x => simpa [Slot.replaceExec, Slot.exec?, Slot.rank] using ih

/-- A DEMAND request chosen takes a grant, is answered, or stays as it is. -/
theorem State.grantDemand_cases (s : State) :
    (∃ op, s.grantDemand.aa.grant = some op) ∨ s.grantDemand = s ∨
      ∃ r ph, s.executing = some (r, ph, .raised) ∧
        s.grantDemand = State.answer r .noaddr (State.report (noaddrReport r) s) := by
  unfold State.grantDemand
  split
  · rename_i r ph h
    split
    · cases ph with
      | read => exact .inl ⟨_, rfl⟩
      | mergeRead => exact .inl ⟨_, rfl⟩
      | write st failed => exact .inl ⟨_, rfl⟩
      | dual failed => exact .inr (.inl rfl)
    · exact .inr (.inr ⟨r, ph, h, rfl⟩)
  · exact .inr (.inl rfl)
  · exact .inr (.inl rfl)
  · exact .inr (.inl rfl)

/-- One turn of the choice (R70). -/
theorem State.chooseFrom_turn (n : Nat) (s : State) :
    State.chooseFrom (n + 1) s =
      match s.choice with
      | some .demand =>
        match s.grantDemand.aa.grant with
        | some _ => s.grantDemand
        | none => State.chooseFrom n s.grantDemand.beginRequests
      | some .repair => State.grantRepair s
      | some .migration => State.grantMigration s
      | some .sweep => State.grantSweep s
      | none => s := rfl

/-- DEMAND is chosen only while a request executes (R69). -/
theorem State.executing_of_choice (s : State) (h : s.choice = some .demand) : s.executing ≠ none := by
  intro hn
  have hd : s.demandRaised = false := by simp [State.demandRaised, hn]
  unfold State.choice State.backgroundChoice at h
  rw [hd] at h
  simp only [Bool.false_eq_true, if_false] at h
  split_ifs at h <;> cases h

/-- The arbiter's choice does not depend on the bound once it exceeds the slots to answer (R70). -/
theorem State.chooseFrom_succ (n : Nat) (s : State) (h : unanswered s.lli.queue < n) :
    State.chooseFrom (n + 1) s = State.chooseFrom n s := by
  induction n generalizing s with
  | zero => omega
  | succ n ih =>
    rw [State.chooseFrom_turn (n + 1) s, State.chooseFrom_turn n s]
    cases hc : s.choice with
    | none => rfl
    | some q =>
      cases q with
      | repair => rfl
      | migration => rfl
      | sweep => rfl
      | demand =>
        dsimp only
        cases hg : s.grantDemand.aa.grant with
        | some op => rfl
        | none =>
          dsimp only
          rcases s.grantDemand_cases with ⟨op, ho⟩ | heq | ⟨r, ph, hx, heq⟩
          · rw [ho] at hg
            cases hg
          · rw [heq, State.beginRequests_executing _ (s.executing_of_choice hc), State.chooseFrom_turn n, hc]
            dsimp only
            rw [hg]
            dsimp only
            rw [heq, State.beginRequests_executing _ (s.executing_of_choice hc)]
          · refine ih _ (Nat.lt_of_le_of_lt (State.beginRequests_eq _).2.2 ?_)
            rw [heq]
            have hle := replaceExec_unanswered ⟨r.tag, .noaddr⟩ s.lli.queue
            have hx' : (s.lli.queue.findSome? Slot.exec?).isSome = true := by
              have : s.lli.queue.findSome? Slot.exec? = some (r, ph, .raised) := hx
              rw [this]
              rfl
            rw [if_pos hx'] at hle
            have hq : (State.answer r .noaddr (State.report (noaddrReport r) s)).lli.queue =
                s.lli.queue.map (Slot.answered ⟨r.tag, .noaddr⟩).replaceExec := by
              simp [State.answer, State.putExec]
            rw [hq]
            omega

/-- Two bounds above the slots to answer give one choice (R70). -/
theorem State.chooseFrom_of_le {m n : Nat} (s : State) (h : unanswered s.lli.queue < m) (hmn : m ≤ n) :
    State.chooseFrom n s = State.chooseFrom m s := by
  induction n with
  | zero => omega
  | succ n ih =>
    by_cases hm : m ≤ n
    · rw [State.chooseFrom_succ n s (by omega), ih hm]
    · have : m = n + 1 := by omega
      rw [this]

/-! ## Dual writes dropped by a revert (R26, R59, R65) -/

/-- A queue without an EXECUTING slot has no dual write to drop. -/
theorem map_withoutDual (q : List Slot) (h : ∀ x ∈ q, x.exec? = none) : q.map Slot.withoutDual = q := by
  induction q with
  | nil => rfl
  | cons x rest ih =>
    rw [List.map_cons, ih fun y hy => h y (by simp [hy])]
    cases x with
    | waiting r => rfl
    | executing r p t => exact absurd (h _ List.mem_cons_self) (by simp [Slot.exec?])
    | answered resp => rfl

/-- After a revert no dual write is due (R26, R59). -/
theorem State.dropDual_dual (s : State) (r : Request) (ph : DemandPhase) (g : Nat) (d : Option Nat)
    (h : s.dropDual.executing = some (r, ph, .outstanding g d)) : d = none := by
  obtain ⟨x, hx, he⟩ := List.exists_of_findSome?_eq_some h
  obtain ⟨y, _, rfl⟩ := List.mem_map.mp hx
  cases y with
  | waiting r => cases he
  | executing r' p t =>
    cases t <;> simp only [Slot.withoutDual, Slot.exec?, Option.some.injEq, Prod.mk.injEq, DemandStep.outstanding.injEq] at he
    · cases he.2.2
    · cases he.2.2
    · exact he.2.2.2.symm
  | answered resp => cases he

end Sys2Proof.Machine
end

