-- ==== Sys2Proof/Tests/Slice0.lean ====
section
/-! SUPPORT. The model's own tests: ill-formed commands refused, the spec's worked examples, one small step per command, and for every obligation with hypotheses a state that meets them,
clause by clause. The states are of a small part with 8 physical segments and 2 spares. -/

namespace Sys2Proof.Tests

open Sys2Proof Sys2Proof.Machine

set_option Elab.async false

/-! ## Small states -/

/-- A part ONLINE with P = 8, S = 2, every logical segment filled and QUIET, nothing raised. -/
def base : State :=
  { State.reset with
    mode := .online
    rc := ⟨some ⟨8, 2⟩, List.replicate 6 ⟨.inUse, true⟩ ++ List.replicate 2 ⟨.spareFree, false⟩, List.replicate 32 .free⟩
    hm := { State.reset.hm with
      table := List.replicate 6 (.fresh .independent) ++ List.replicate 2 (.untracked .independent)
      epochTimer := some 1024000 }
    se := { State.reset.se with patrolTimer := some 100 } }

/-- A part in CONFIG. -/
def config : State := { State.reset with mode := .config }

/-- An operation outstanding on the port. -/
def withOp (q : Requester) (segment line : Nat) (write : Option (List (Option StoredWord))) (s : State) : State :=
  { s with aa := { s.aa with grant := some ⟨q, segment, line, write, true⟩ } }

/-- A request executing. -/
def withExec (r : Request) (ph : DemandPhase) (st : DemandStep) (s : State) : State :=
  { s with lli := ⟨[.executing r ph st], []⟩ }

/-- A READ of line 0 of upstream segment 0, its 8 words. -/
def readReq : Request := ⟨.read, 5, .a, 0, 8⟩

/-- A WRITE of line 3 of upstream segment 0: word 0 whole, word 1 in part. -/
def mergeReq : Request := ⟨.write [⟨7, 0xFF⟩, ⟨9, 0x01⟩], 6, .a, 0xC0, 2⟩

/-- A full write of word 0 of line 3 of upstream segment 0. -/
def fullReq : Request := ⟨.write [⟨7, 0xFF⟩], 6, .a, 0xC0, 1⟩

/-- A READ of upstream segment 6, which the small part does not serve. -/
def farReq : Request := ⟨.read, 9, .a, 0x180000, 1⟩

/-- No cell has changed. -/
def noFlips : LineFlips := List.replicate 8 .zero

/-- Data bit 0 of word 1 has changed. -/
def oneFlip : LineFlips := [.zero, ⟨1, 0⟩, .zero, .zero, .zero, .zero, .zero, .zero]

/-- Data bits 0 and 1 of word 2 have changed. -/
def twoFlips : LineFlips := [.zero, .zero, ⟨3, 0⟩, .zero, .zero, .zero, .zero, .zero]

/-- Logical segment 0 in migration onto spare 6, the cursor at `c`. -/
def migEntry (c : Nat) : CopyingEntry := ⟨0, 0, 6, c, .manual, 0, 0, .free⟩

/-- The ME in state `m` with step `st` in that migration. -/
def withMig (c : Nat) (m : MigState) (st : OpStep) (s : State) : State :=
  { s with
    rc := { s.rc with
      segs := List.replicate 6 ⟨.inUse, true⟩ ++ [⟨.spareBound, false⟩, ⟨.spareFree, false⟩]
      remap := .copying (migEntry c) :: List.replicate 31 .free }
    me := { s.me with state := m, step := st } }

/-- A line buffer of zeros. -/
def zeros : List StoreWord := List.replicate 8 (.data 0)

/-- A FILL of logical segments 2 to 3 at line `n` of segment `g`. -/
def fillRun (g n : Nat) (st : OpStep) : SweepRun := ⟨2, 3, g - 2, some ⟨g, g, n⟩, st⟩

/-- A long command executing. -/
def withLong (code : Byte) (s : State) : State :=
  { s with mp := { s.mp with busy := true, longCommand := code, lastCommand := code } }

/-- Parameters 0 and 1. -/
def withParams (a b : BitVec 16) (s : State) : State := { s with mp := { s.mp with param0 := a, param1 := b } }

/-- The state after a command. -/
def after (c : Instr) (s : State) : Option State :=
  match exec c s with
  | .next t => some t
  | .fault _ => none
  | .refused _ => none

theorem test_base_is_settled : base.settle = base := by decide +kernel

/-! ## Ill-formed commands -/

theorem test_wf_request_without_its_words : (Instr.requestTaken ⟨.write [⟨1, 0xFF⟩], 0, .a, 0, 2⟩).wf = false := by decide
theorem test_wf_request : (Instr.requestTaken mergeReq).wf = true := by decide
theorem test_wf_demand_read_flips : (Instr.demandReadComplete [.zero]).wf = false := by decide
theorem test_wf_merge_read_flips : (Instr.demandMergeReadComplete []).wf = false := by decide
theorem test_wf_patrol_read_flips : (Instr.patrolReadComplete (.zero :: noFlips)).wf = false := by decide
theorem test_wf_verify_sweep_flips : (Instr.verifySweepReadComplete []).wf = false := by decide
theorem test_wf_copy_read_flips : (Instr.copyReadComplete []).wf = false := by decide
theorem test_wf_verify_read_flips : (Instr.verifyReadComplete []).wf = false := by decide
theorem test_wf_flips : (Instr.verifyReadComplete noFlips).wf = true := by decide
theorem test_wf_settings_without_index : (Instr.settingsWrite ⟨0x5C, []⟩).wf = false := by decide
theorem test_wf_enables_without_index : (Instr.enableWrite ⟨0x5C, []⟩).wf = false := by decide
theorem test_wf_acknowledge_without_index : (Instr.acknowledgeMaskWrite ⟨0x5C, []⟩).wf = false := by decide
theorem test_wf_code_zero : (Instr.unknownCommand 0x00).wf = false := by decide
theorem test_wf_named_code : (Instr.unknownCommand 0x43).wf = false := by decide
theorem test_wf_unknown_code : (Instr.unknownCommand 0x44).wf = true := by decide

/-! ## The spec's worked words (R10 to R14) -/

theorem test_check_byte_of_one : checkByte 1 = 0x83 := by decide +kernel
theorem test_clean : classify ⟨1, 0x83⟩ = .clean ∧ deliveredData ⟨1, 0x83⟩ = 1 := by decide +kernel
theorem test_data_bit_lost :
    classify ⟨0, 0x83⟩ = .corrected ∧ deliveredData ⟨0, 0x83⟩ = 1 ∧ syndromeByte ⟨0, 0x83⟩ = 0x83 := by decide +kernel
theorem test_check_bit_lost :
    classify ⟨1, 0x03⟩ = .corrected ∧ deliveredData ⟨1, 0x03⟩ = 1 ∧ syndromeByte ⟨1, 0x03⟩ = 0x80 := by decide +kernel
theorem test_two_bits_flipped : classify ⟨2, 0x83⟩ = .uncorrectable ∧ syndromeByte ⟨2, 0x83⟩ = 0x06 := by decide +kernel
theorem test_all_ones : encodeWord 0xFFFFFFFFFFFFFFFF = ⟨0xFFFFFFFFFFFFFFFF, 0xFF⟩ ∧ classify (encodeWord 0xFFFFFFFFFFFFFFFF) = .clean := by
  decide +kernel
theorem test_poison : classify poisonPattern = .poison ∧ syndromeByte poisonPattern = 0x03 := by decide +kernel

/-! ## The spec's worked translations, health passes, reports (R35, R112 to R120, R173 to R181) -/

/-- The settings and the geometry of the example of R35 to R41, logical 260 on physical 504. -/
def lineCard : State :=
  { base with
    settings := { base.settings with split := true, window := 16, baseA := 16, lenA := 240, baseB := 256, lenB := 260 }
    rc := ⟨some ⟨512, 8⟩, [], .active ⟨260, 504, .manual, 0, 0⟩ :: List.replicate 31 .free⟩ }

theorem test_translation_example :
    lineCard.translate .a 0x0123456 = some 4 ∧ lineCard.translate .a 0x0500080 = some 20 ∧
    lineCard.translate .b 0x0500080 = some 260 ∧ lineCard.physOf 260 = 504 ∧ lineCard.translate .a 0x0FFC0000 = none ∧
    lineCard.translate .b 0x4400000 = none ∧ lineCard.translate .b 0x0123456 = some 4 ∧
    requestLine 0x0123456 = 2257 ∧ requestFirst 0x0123456 = 2 := by decide +kernel

/-- The settings of the example of R112 to R120. -/
def watchSettings : Settings :=
  { Settings.reset with betaF := 1, betaA := 1, watchDebounce := 2, settleEpochs := 2, releasePct := 32 }

theorem test_epoch_2 :
    quietPass watchSettings 8 ⟨.quiet, .independent, 0, 32, 32, 0, .none, 0⟩ =
      (⟨.quiet, .independent, 0, 80, 32, 1, .watch, 0⟩, false) := by decide +kernel
theorem test_epoch_3 :
    quietPass watchSettings 9 ⟨.quiet, .independent, 0, 80, 32, 1, .watch, 0⟩ =
      (⟨.watch 112 none, .independent, 0, 112, 42, 0, .none, 0⟩, true) := by decide +kernel
theorem test_epoch_6 :
    watchUpdate watchSettings 8 0 124 none ⟨.watch 124 none, .independent, 0, 128, 42, 0, .none, 1⟩ =
      ⟨.watch 126 (some 86), .independent, 0, 128, 42, 0, .none, 2⟩ := by decide +kernel
theorem test_epoch_7 :
    watchUpdate watchSettings 4 0 126 (some 86) ⟨.watch 126 (some 86), .independent, 0, 128, 42, 0, .none, 2⟩ =
      ⟨.watch 111 (some 86), .independent, 0, 96, 42, 0, .none, 0⟩ := by decide +kernel
theorem test_epoch_8 :
    watchEnd watchSettings
      (watchUpdate watchSettings 2 0 111 (some 86) ⟨.watch 111 (some 86), .independent, 0, 96, 42, 0, .none, 0⟩) =
        .release := by decide +kernel
theorem test_follower_pass_1 :
    watchUpdate { Settings.reset with betaL := 3, watchThreshold := 96 } 10
        (compensation [(900, 8)] ⟨.watch 148 none, .follower 900 6144, 0, 150, 60, 0, .none, 3⟩) 148 none
        ⟨.watch 148 none, .follower 900 6144, 0, 150, 60, 0, .none, 3⟩ =
      ⟨.watch 148 none, .follower 900 6144, 0, 152, 72, 0, .none, 4⟩ := by decide +kernel

/-- A corrected report, a NOADDR report and an uncorrectable one, as the example of R173 to R181 has them. -/
def threeReports : State :=
  State.report ⟨.uncorrectable, .demandRead, some (⟨12, 6, 6⟩, 0x06), some 12, some (0, .a)⟩
    (State.report ⟨.noaddr, .demandRead, none, none, some (0x0FFC0000, .a)⟩
      (State.report ⟨.corrected, .patrol, some (⟨300, 17, 4⟩, 0x8B), some 300, none⟩
        { base with alu := ⟨0, 0x116, true⟩ }))

theorem test_report_example :
    threeReports.fcu.record = some ⟨.noaddr, .demandRead, none, none, some (0x0FFC0000, .a)⟩ ∧
    threeReports.fcu.corrected = ⟨true, false⟩ ∧ threeReports.alu.causes = 0x142 ∧ threeReports.summaryCode = 2 ∧
    threeReports.alert = true := by decide +kernel

/-! ## One step of each command -/

theorem test_power_on_reset :
    (after (.powerOnReset 2 0) base).map (fun t => (t.mode, t.aselPins, t.rc.geometry)) = some (.init, 2, none) := by
  decide +kernel
theorem test_init_complete :
    (after .initComplete { State.reset with aselPins := 3 }).map (fun t => (t.mode, t.aselLatch)) = some (.config, 3) := by
  decide +kernel
theorem test_request_taken : (after (.requestTaken readReq) base).map (fun t => t.lli.queue) = some [.waiting readReq] := by
  decide +kernel
theorem test_response_taken :
    (after .responseTaken { base with lli := ⟨[.answered ⟨5, .okayWrite⟩], []⟩ }).map (fun t => t.lli.queue) = some [] := by
  decide +kernel
theorem test_request_execute :
    (after .requestExecute { base with lli := ⟨[.waiting mergeReq], []⟩ }).map (fun t => t.lli.queue) =
      some [.executing mergeReq .mergeRead .raised] := by decide +kernel
theorem test_request_execute_offline :
    (after .requestExecute { config with lli := ⟨[.waiting mergeReq], []⟩ }).map (fun t => t.lli.queue) =
      some [.answered ⟨6, .offline⟩] := by decide +kernel
theorem test_array_grant :
    (after .arrayGrant (withExec readReq .read .raised base)).map (fun t => t.aa.grant) =
      some (some ⟨.demand, 0, 0, none, true⟩) := by decide +kernel
theorem test_array_grant_noaddr :
    (after .arrayGrant (withExec farReq .read .raised base)).map (fun t => (t.aa.grant, t.lli.queue)) =
      some (none, [.answered ⟨9, .noaddr⟩]) := by decide +kernel
theorem test_demand_read_fixed :
    (after (.demandReadComplete oneFlip) (withOp .demand 0 0 none (withExec readReq .read (.outstanding 0 none) base))).map
        (fun t => (t.lli.queue, (t.health 0).raw, t.ru.queue)) =
      some ([.answered ⟨5, .fixed (List.replicate 8 0) 1⟩], 1, [⟨⟨0, 0, 1⟩, 0⟩]) := by decide +kernel
theorem test_demand_read_fault :
    (after (.demandReadComplete twoFlips) (withOp .demand 0 0 none (withExec readReq .read (.outstanding 0 none) base))).map
        (fun t => (t.lli.queue, t.aa.holdOff, (t.health 0).state)) =
      some ([.answered ⟨5, .fault 2 .uncorrectable⟩], some 10000, .alarm .uncorrectable) := by decide +kernel
theorem test_merge_read :
    (after (.demandMergeReadComplete noFlips)
        (withOp .demand 0 3 none (withExec mergeReq .mergeRead (.outstanding 0 none) base))).map (fun t => t.lli.queue) =
      some [.executing mergeReq
        (.write [some (.data 7), some (.data 9), none, none, none, none, none, none] none) .raised] := by decide +kernel
theorem test_demand_write :
    (after .demandWriteComplete (withOp .demand 0 3 (some [some (encodeWord 7)])
        (withExec fullReq (.write [some (.data 7)] none) (.outstanding 0 none) base))).map (fun t => (t.lli.queue, t.array)) =
      some ([.answered ⟨6, .okayWrite⟩], [(24, encodeWord 7)]) := by decide +kernel
theorem test_dual_write :
    (after .dualWriteComplete (withOp .demand 6 3 (some [some (encodeWord 7)])
        (withExec fullReq (.dual none) (.outstanding 0 none) base))).map (fun t => (t.lli.queue, t.array)) =
      some ([.answered ⟨6, .okayWrite⟩], [(196632, encodeWord 7)]) := by decide +kernel
theorem test_repair_write :
    (after .repairWriteComplete (withOp .repair 0 0 (some (repairWords ⟨⟨0, 0, 1⟩, 5⟩))
        { base with ru := ⟨[⟨⟨0, 0, 1⟩, 5⟩], some ⟨0, 0, 1⟩⟩ })).map (fun t => (t.ru.queue, t.ru.record, t.array)) =
      some ([], none, [(1, encodeWord 5)]) := by decide +kernel
theorem test_patrol_read :
    (after (.patrolReadComplete noFlips) (withOp .sweep 5 4095 none
        { base with se := { base.se with patrolPending := .outstanding } })).map
          (fun t => (t.se.cursorSegment, t.se.cursorLine, t.se.patrolPending)) = some (0, 0, .none) := by decide +kernel
theorem test_fill_write :
    (after .fillWriteComplete (withOp .sweep 3 4095 (some fillWords)
        (withLong 0x10 { base with se := { base.se with mode := .fill (fillRun 3 4095 .outstanding) } }))).map
          (fun t => (t.mp.longOutcome, t.mp.results.head?, t.se.mode)) = some (.ok, some 2, .patrol) := by decide +kernel
theorem test_verify_read :
    (after (.verifySweepReadComplete twoFlips) (withOp .sweep 2 9 none
        (withLong 0x11 { base with se := { base.se with mode := .verify (fillRun 2 9 .outstanding) } }))).map
          (fun t => (t.mp.longOutcome, t.mp.results.take 5)) = some (.uncorrectable, [2, 2, 9, 0x0102, 2]) := by decide +kernel
theorem test_copy_read :
    (after (.copyReadComplete twoFlips) (withOp .migration 0 5 none (withMig 5 (.copyRead false) .outstanding base))).map
        (fun t => t.me.state) =
      some (.copyWrite [.data 0, .data 0, .poison, .data 0, .data 0, .data 0, .data 0, .data 0] false) := by decide +kernel
theorem test_copy_write :
    (after .copyWriteComplete (withOp .migration 6 5 (some fillWords) (withMig 5 (.copyWrite zeros true) .outstanding base))).map
        (fun t => (t.me.state, t.me.step)) = some (.verifyRead zeros true, .raised) := by decide +kernel
theorem test_verify_commit :
    (after (.verifyReadComplete noFlips) (withOp .migration 6 4095 none (withMig 4095 (.verifyRead zeros false) .outstanding base))).map
        (fun t => (t.physOf 0, (t.seg 0).role, t.seg 6, t.me.state)) = some (6, .retired, ⟨.inUse, true⟩, .idle) := by
  decide +kernel
theorem test_verify_failure :
    (after (.verifyReadComplete oneFlip) (withOp .migration 6 7 none (withMig 7 (.verifyRead zeros false) .outstanding base))).map
        (fun t => ((t.seg 6).role, (t.seg 7).role, t.copying.map fun x => (x.2.target, x.2.cursor, x.2.restarts))) =
      some (.spareBad, .spareBound, some (7, 0, 1)) := by decide +kernel
theorem test_discarded_completion :
    (after .discardedCompletion { base with aa := { base.aa with grant := some ⟨.sweep, 1, 0, some [some (encodeWord 7)], false⟩ } }).map
        (fun t => (t.aa.grant, t.array)) = some (none, [(32768, encodeWord 7)]) := by decide +kernel
theorem test_patrol_tick :
    (after .patrolTick base).map (fun t => (t.se.patrolPending, t.se.patrolTimer)) = some (.raised, some 100) := by
  decide +kernel
theorem test_epoch_end :
    (after .epochEnd { base with hm := { base.hm with table := [⟨.quiet, .independent, 200, 0, 0, 2, .watch, 0⟩] } }).map
        (fun t => (t.health 0, t.alu.isSet .watchEntered)) =
      some (⟨.watch 800 none, .independent, 0, 800, 100, 0, .none, 0⟩, true) := by decide +kernel
theorem test_hold_off_end :
    (after .holdOffEnd { base with aa := { base.aa with holdOff := some 4 } }).map (fun t => t.aa.holdOff) = some none := by
  decide +kernel
theorem test_migration_start :
    (after .migrationStart { base with me := { base.me with queue := [⟨4, .auto⟩] } }).map (fun t => (t.me.state, t.entryAt 0)) =
      some (.copyRead false, .copying ⟨4, 4, 6, 0, .auto, 0, 0, .free⟩) := by decide +kernel
theorem test_quiesce_complete :
    (after .quiesceComplete (withLong 0x22 base)).map (fun t => (t.mp.busy, t.mp.longOutcome)) = some (false, .ok) := by
  decide +kernel
theorem test_settings_write :
    (after (.settingsWrite ⟨0x5C, [0x42, 40, 20]⟩) config).map (fun t => (t.settings.geomS, t.settings.epochExp, t.mp.index)) =
      some (32, 15, 0x44) := by decide +kernel
theorem test_settings_write_half_field :
    (after (.settingsWrite ⟨0x5C, [0x40, 0x00]⟩) config).map (fun t => t.settings.geomP) = some 1024 := by decide +kernel
theorem test_settings_write_to_another_address :
    after (.settingsWrite ⟨0x5E, [0x42, 40, 20]⟩) config = some config ∧
    (after (.settingsWrite ⟨0x5E, [0x42, 40, 20]⟩) { config with aselLatch := 2 }).map (fun t => t.settings.geomS) = some 32 := by
  decide +kernel
theorem test_low_byte_first :
    heldWord ⟨0x5C, [0x44, 1, 2]⟩ 0x44 = some 0x0201 ∧ heldWord ⟨0x5C, [0x45, 2]⟩ 0x44 = none ∧
    lastPair 0x44 [7, 8, 9] 0x43 none = some 0x0908 := by decide +kernel
theorem test_epoch_exponent_write :
    (after (.epochExponentWrite 3) base).map (fun t => (t.settings.epochExp, t.hm.epochTimer)) = some (3, some 8000) := by
  decide +kernel
theorem test_patrol_interval_write :
    (after (.patrolIntervalWrite .patrol 0) { base with aa := { base.aa with holdOff := some 9 }, se := { base.se with patrolPending := .raised } }).map
        (fun t => (t.se.patrolTimer, t.se.patrolPending)) = some (none, .none) := by decide +kernel
theorem test_enable_write :
    (after (.enableWrite ⟨0x5C, [0x73, 0xFF, 2]⟩) base).map (fun t => (t.alu.enables, t.alu.master)) = some (0xF00, true) := by
  decide +kernel
theorem test_acknowledge :
    (after (.acknowledgeMaskWrite ⟨0x5C, [0x75, 0x01]⟩) { base with alu := ⟨0xFFF, 0, false⟩ }).map (fun t => t.alu.causes) = some 0xFFE := by
  decide +kernel
theorem test_unknown_command :
    (after (.unknownCommand 0x44) base).map (fun t => (t.mp.lastCommand, t.mp.lastOutcome)) = some (0x44, .badParameter) := by
  decide +kernel
theorem test_go_online :
    (after .goOnline { config with settings := { config.settings with geomP := 256, geomS := 4 } }).map
        (fun t => (t.mode, t.numL, (t.seg 251).role, (t.seg 252).role, t.hm.epochTimer)) =
      some (.online, 252, .inUse, .spareFree, some 1024000) := by decide +kernel
theorem test_engine_reset :
    (after .engineReset (withLong 0x10 { base with
        se := { base.se with mode := .fill (fillRun 3 9 .raised) }, aa := { base.aa with holdOff := some 9 } })).map
          (fun t => (t.mp.longOutcome, t.mp.results.head?, t.alu.causes, t.mp.lastCommand, t.mp.lastOutcome)) =
      some (.aborted, some 1, 1, 0x02, .ok) := by decide +kernel
theorem test_fill :
    (after .fill (withParams 2 2 base)).map (fun t => (t.mp.busy, t.underFill)) = some (true, some 2) := by decide +kernel
theorem test_fill_out_of_range :
    (after .fill (withParams 5 2 base)).map (fun t => (t.mp.busy, t.mp.longOutcome, t.alu.isSet .commandDone)) =
      some (false, .badParameter, true) := by decide +kernel
theorem test_verify :
    (after .verify (withParams 0 0 base)).map (fun t => t.se.mode) =
      some (.verify ⟨0, 5, 0, some ⟨0, 0, 0⟩, .raised⟩) := by decide +kernel
theorem test_retire :
    (after .retire (withParams 4 0 base)).map (fun t => (t.mp.lastOutcome, t.me.queue)) = some (.ok, [⟨4, .manual⟩]) := by
  decide +kernel
theorem test_cancel :
    (after .cancelMigration { withMig 5 (.copyRead false) .raised base with aa := { base.aa with holdOff := some 9 } }).map
        (fun t => (t.mp.longOutcome, t.mp.results.take 2, t.seg 6, t.entryAt 0)) =
      some (.ok, [0, 5], ⟨.spareFree, false⟩, .free) := by decide +kernel
theorem test_quiesce : (after .quiesce base).map (fun t => (t.me.quiesced, t.mp.longOutcome)) = some (true, .ok) := by
  decide +kernel
theorem test_resume :
    (after .resume { base with me := { base.me with quiesced := true } }).map (fun t => (t.me.quiesced, t.mp.lastOutcome)) =
      some (false, .ok) := by decide +kernel
theorem test_restore :
    (after .restore (withParams 3 7 base)).map (fun t => (t.physOf 3, (t.seg 3).role, t.seg 7, (t.health 3).state)) =
      some (7, .retired, ⟨.inUse, false⟩, .untracked) := by decide +kernel
theorem test_translate :
    (after .translate (withParams 3 0 base)).map (fun t => t.mp.results) =
      some [3, 0xFFFF, 0xFFFF, 0xFFFF, 0xFFFF, 1, 2, 0xFFFF] := by decide +kernel
theorem test_read_remap :
    (after .readRemap { withMig 5 (.copyRead false) .raised base with aa := { base.aa with holdOff := some 9 } }).map
        (fun t => t.mp.results) = some [1, 0, 0, 6, 5, 1, 0, 0] := by decide +kernel
theorem test_set_role :
    (after .setRole (withParams 1 1 base)).map (fun t => (t.health 1).role) = some .reference := by
  decide +kernel
theorem test_reseed :
    (after .reseed { withParams 0 0 base with hm := { base.hm with table := [⟨.alarm .threshold, .independent, 3, 90, 10, 0, .none, 0⟩] } }).map
        (fun t => t.health 0) = some ⟨.quiet, .independent, 3, 90, 90, 0, .none, 0⟩ := by decide +kernel
theorem test_read_health :
    (after .readHealth (withParams 0 0 base)).map (fun t => t.mp.results) =
      some [0xFE1A, 0, 0, 0xFFFF, 0xFFFF, 0, 0, 0] := by decide +kernel
theorem test_calibrate :
    (after .calibrate base).map (fun t => (t.mp.busy, t.hm.cal.taken, (t.health 0).state, t.se.patrolTimer)) =
      some (true, 6, .baseline 8, some 10) := by decide +kernel
theorem test_clear_capture :
    (after .clearCapture threeReports).map (fun t => (t.fcu, t.alu.causes)) = some (.reset, 0x142) := by decide +kernel
theorem test_read_capture :
    (after .readCapture threeReports).map (fun t => t.mp.results) =
      some [0x4587, 0xFFFF, 0xFFFF, 0, 0xFFFF, 0, 0x0FFC, 0xFFFF] := by decide +kernel
theorem test_read_transfer :
    (after (.readTransfer ⟨0x5C, 3⟩) { base with mp := { base.mp with index := 0xFF } }).map (fun t => (t.mp.readBytes, t.mp.index)) =
      some ([0xFF, 0x24, 0x41], 2) := by decide +kernel
/-- The second request of the queue is waiting as the first READ completes, and a repair is raised. -/
def nextInLine (s : State) : State :=
  { s with lli := { s.lli with queue := s.lli.queue ++ [.waiting fullReq] }, ru := ⟨[⟨⟨0, 0, 1⟩, 5⟩], none⟩ }

theorem test_demand_outranks_repair :
    ((after (.demandReadComplete noFlips)
        (nextInLine (withOp .demand 0 0 none (withExec readReq .read (.outstanding 0 none) base)))).map State.settle).bind
      (fun t => t.aa.grant.map PortOp.requester) = some .demand := by decide +kernel
theorem test_ninth_grant_is_the_repair :
    ((after (.demandReadComplete noFlips)
        (nextInLine (withOp .demand 0 0 none (withExec readReq .read (.outstanding 0 none)
          { base with aa := { base.aa with fairness := 8 } })))).map State.settle).bind
      (fun t => t.aa.grant.map PortOp.requester) = some .repair := by decide +kernel
theorem test_reverted_dual_write_is_not_issued :
    ((after .cancelMigration (withOp .demand 0 3 (some [some (encodeWord 7)])
        (withExec fullReq (.write [some (.data 7)] none) (.outstanding 0 (some 6)) (withMig 9 (.copyRead false) .raised base)))).bind
      fun t => after .demandWriteComplete { t with me := { t.me with queue := [⟨0, .manual⟩] } }).map
        (fun t => (t.copying.map fun x => x.2.target, t.lli.queue)) = some (some 6, [.answered ⟨6, .okayWrite⟩]) := by
  decide +kernel
theorem test_second_offer_finds_no_spare :
    (after .epochEnd { base with
      settings := { base.settings with autoRetire := true }
      rc := { base.rc with segs := List.replicate 7 ⟨.inUse, true⟩ ++ [⟨.spareFree, false⟩] }
      hm := { base.hm with table := List.replicate 2 ⟨.alarm .threshold, .independent, 0, 0, 0, 0, .none, 0⟩ } }).map
        (fun t => (t.me.queue, t.copying.map fun x => (x.2.logical, x.2.target), t.alu.isSet .sparesExhausted)) =
      some ([], some (0, 7), true) := by decide +kernel
theorem test_link_codes :
    mergeReq.link = ⟨1, 6, 0, 0xC0, 2, [⟨7, 0xFF⟩, ⟨9, 0x01⟩]⟩ ∧
    Response.link ⟨5, .fault 2 .poison⟩ = ⟨5, 2, none, none, some 2, some 2⟩ := by decide +kernel
theorem test_idle_period : base.tick.se.patrolTimer = some 99 ∧ base.tick.hm.epochTimer = some 1023999 := by decide +kernel
theorem test_whole_transfer :
    transferCommands 0x5C ⟨0x5C, [0x18, 40, 0, 2, 0, 0, 0, 0, 0, 0x10]⟩ =
      [.settingsWrite ⟨0x5C, [0x18, 40, 0, 2, 0, 0, 0, 0, 0, 0x10]⟩, .fill] ∧
    transferCommands 0x5D ⟨0x5C, [0x20, 0x10]⟩ = [] := by decide +kernel

/-! ## States that meet the hypotheses of the obligations, clause by clause -/

/-- A READ's LINE_READ outstanding. -/
def readOut : State := withOp .demand 0 0 none (withExec readReq .read (.outstanding 0 none) base)

/-- A read-modify-write's LINE_READ outstanding. -/
def mergeOut : State := withOp .demand 0 3 none (withExec mergeReq .mergeRead (.outstanding 0 none) base)

/-- A full write's LINE_WRITE outstanding, with `d` as its dual write's target. -/
def writeOut (d : Option Nat) (s : State) : State :=
  withOp .demand 0 3 (some [some (encodeWord 7)])
    (withExec fullReq (.write [some (.data 7)] none) (.outstanding 0 d) s)

/-- A patrol read outstanding. -/
def patrolOut (line : Nat) : State :=
  withOp .sweep 5 line none { base with se := { base.se with patrolPending := .outstanding } }

/-- A FILL write outstanding. -/
def fillOut (g n : Nat) : State :=
  withOp .sweep g n (some fillWords) (withLong 0x10 { base with se := { base.se with mode := .fill (fillRun g n .outstanding) } })

/-- A VERIFY read outstanding. -/
def verifyOut (g n : Nat) : State :=
  withOp .sweep g n none (withLong 0x11 { base with se := { base.se with mode := .verify (fillRun g n .outstanding) } })

/-- A verify read of the ME outstanding at line `c`. -/
def checkOut (c : Nat) (buffer : List StoreWord) (redo : Bool) : State :=
  withOp .migration 6 c none (withMig c (.verifyRead buffer redo) .outstanding base)

/-- The hold-off running, which keeps raised MIGRATION and SWEEP requests waiting. -/
def held (s : State) : State := { s with aa := { s.aa with holdOff := some 9 } }

/-- No SPARE_FREE segment left. -/
def noSpares (s : State) : State :=
  { s with rc := { s.rc with segs := List.replicate 6 ⟨.inUse, true⟩ ++ [⟨.spareBound, false⟩, ⟨.retired, false⟩] } }

theorem bound_of_some {a b : Nat} {x : Option Nat} (hx : x = some a) (hb : b ≤ a) : ∀ n, x = some n → b ≤ n := by
  intro n h
  rw [hx] at h
  cases h
  exact hb

theorem bound_of_none {b : Nat} {x : Option Nat} (hx : x = none) : ∀ n, x = some n → b ≤ n := by
  intro n h
  rw [hx] at h
  cases h

theorem witness_StepRunsTheFrontCommand :
    ({ base with pending := [.fill, .verify] } : State).pending = .fill :: [.verify] := rfl

/-- The three timers at 2 periods. -/
def twoLeft : State :=
  { base with
    aa := { base.aa with holdOff := some 2 }, se := { base.se with patrolTimer := some 2 }
    hm := { base.hm with epochTimer := some 2 } }

/-- The hold-off at its last period, the other timers stopped. -/
def oneLeft : State :=
  { base with
    aa := { base.aa with holdOff := some 1 }, se := { base.se with patrolTimer := none }
    hm := { base.hm with epochTimer := none } }

theorem witness_EmptyQueueStepIsOnePeriod :
    (twoLeft.pending = [] ∧ twoLeft.settle = twoLeft ∧ twoLeft.mode ≠ .init ∧ (∀ n, twoLeft.aa.holdOff = some n → 2 ≤ n) ∧
      (∀ n, twoLeft.se.patrolTimer = some n → 2 ≤ n) ∧ ∀ n, twoLeft.hm.epochTimer = some n → 2 ≤ n) ∧
    (∀ n, base.aa.holdOff = some n → 2 ≤ n) ∧
    (oneLeft.pending = [] ∧ oneLeft.settle = oneLeft ∧ oneLeft.mode ≠ .init ∧ oneLeft.aa.holdOff = some 1 ∧
      oneLeft.se.patrolTimer = none ∧ oneLeft.hm.epochTimer = none) ∧
    (∀ n ∈ [0, 198], ({ State.reset with initElapsed := n } : State).settle = { State.reset with initElapsed := n } ∧ n < 199) ∧
    (({ State.reset with initElapsed := 199 } : State).settle = { State.reset with initElapsed := 199 } ∧
      State.reset.mode = .init) := by
  refine ⟨⟨rfl, by decide +kernel, by decide +kernel, bound_of_some rfl (by decide), bound_of_some rfl (by decide),
    bound_of_some rfl (by decide)⟩, bound_of_none rfl, ?_, ?_, ?_⟩ <;> decide +kernel

theorem witness_PowerOnResetRestoresInitialState :
    (base.settle = base ∧ base.aa.grant = none) ∧
    (readOut.settle = readOut ∧ readOut.aa.grant = some ⟨.demand, 0, 0, none, true⟩) ∧
    ((writeOut none base).settle = writeOut none base ∧ (writeOut none base).ArrayOk ∧
      (writeOut none base).aa.grant = some ⟨.demand, 0, 3, some [some (encodeWord 7)], true⟩) := by decide +kernel

theorem witness_InitCompleteEntersConfig :
    (State.reset.settle = State.reset ∧ State.reset.mode = .init) ∧ base.settle = base ∧ base.mode ≠ .init := by
  decide +kernel

/-- CONFIG with geometry `p`, `n` stored. -/
def configWith (p n : Nat) : State := { config with settings := { config.settings with geomP := p, geomS := n } }

theorem witness_GoOnlineBuildsTheTables :
    (base.settle = base ∧ base.mp.busy = false ∧ base.mode = .online) ∧
    ((configWith 257 4).settle = configWith 257 4 ∧ (configWith 257 4).mp.busy = false ∧ (configWith 257 4).mode = .config ∧
      ¬((257 = 256 ∨ 257 = 512 ∨ 257 = 768 ∨ 257 = 1024) ∧ 4 ≤ 32 ∧ 4 ≤ 257 / 8)) ∧
    ∀ p ∈ [256, 512, 768, 1024], ∀ n ∈ [0, 32], (configWith p n).settle = configWith p n ∧ (configWith p n).mode = .config ∧
      (p = 256 ∨ p = 512 ∨ p = 768 ∨ p = 1024) ∧ n ≤ 32 ∧ n ≤ p / 8 := by decide +kernel

/-- A READ of word 0 of upstream segment 2, which is under fill in `fillOut 2`. -/
def fillReq : Request := { readReq with address := 0x80000, count := 1 }

/-- That READ held while logical segment `g` is under fill. -/
def heldRead (g : Nat) : State := withExec fillReq .read .held (fillOut g 4095)

/-- A CALIBRATE of segments 0 and 1 under way, segment 0 at its last epoch. -/
def calibrating : State :=
  withLong 0x43 { base with hm := { base.hm with
    table := ⟨.baseline 1, .independent, 9, 40, 40, 0, .none, 0⟩ :: ⟨.baseline 2, .independent, 9, 40, 40, 0, .none, 0⟩ ::
      List.replicate 6 (.untracked .independent)
    cal := ⟨true, 2, 2, 0, 0, 0, 0⟩ } }

theorem witness_EngineResetResetsTheEngines :
    (base.settle = base ∧ base.mode ≠ .init ∧ base.mp.busy = false ∧ base.aa.grant = none) ∧
    (config.settle = config ∧ config.mode ≠ .init ∧ config.mp.busy = false) ∧
    (readOut.settle = readOut ∧ readOut.mp.busy = false ∧ readOut.aa.grant = some ⟨.demand, 0, 0, none, true⟩) ∧
    ((checkOut 9 zeros false).settle = checkOut 9 zeros false ∧
      (checkOut 9 zeros false).aa.grant = some ⟨.migration, 6, 9, none, true⟩ ∧
      (checkOut 9 zeros false).rc.remap[0]? = some (.copying (migEntry 9)) ∧
      (checkOut 9 zeros false).rc.remap[31]? = some .free ∧ RemapEntry.free.copying? = none ∧
      0 < (checkOut 9 zeros false).rc.segs.length ∧ 0 < (checkOut 9 zeros false).hm.table.length) ∧
    ((fillOut 2 9).settle = fillOut 2 9 ∧ (fillOut 2 9).mp.busy = true ∧ ((fillOut 2 9).seg 0).filled = true) ∧
    (calibrating.settle = calibrating ∧ calibrating.mp.busy = true ∧ calibrating.hm.cal.active = true) ∧
    (∀ x ∈ [(writeOut (some 6) (withMig 9 (.copyRead false) .raised base), Slot.executing fullReq (.write [some (.data 7)] none) (.outstanding 0 (some 6))),
        (heldRead 2, .executing fillReq .read .held)],
      x.1.settle = x.1 ∧ x.1.lli.queue = [] ++ x.2 :: []) := by decide +kernel

theorem witness_EngineResetAbortsTheLongCommand :
    ((fillOut 2 9).settle = fillOut 2 9 ∧ (fillOut 2 9).mode ≠ .init ∧ (fillOut 2 9).mp.busy = true ∧
      (fillOut 2 9).mp.longCommand = 0x10 ∧ (fillOut 2 9).se.mode = .fill (fillRun 2 9 .outstanding)) ∧
    ((verifyOut 2 9).settle = verifyOut 2 9 ∧ (verifyOut 2 9).mode ≠ .init ∧ (verifyOut 2 9).mp.busy = true ∧
      (verifyOut 2 9).mp.longCommand = 0x11 ∧ (verifyOut 2 9).se.mode = .verify (fillRun 2 9 .outstanding) ∧
      (fillRun 2 9 .outstanding).pos = some ⟨2, 2, 9⟩) ∧
    (∀ code ∈ [0x43, 0x22], (withLong code (withOp .migration 6 9 none (withMig 9 (.copyRead false) .outstanding base))).settle =
        withLong code (withOp .migration 6 9 none (withMig 9 (.copyRead false) .outstanding base)) ∧
      (withLong code base).mp.longCommand = code) := by decide +kernel

/-- A part with `n` answered slots and no request held off. -/
def answered (n : Nat) : State := { base with lli := ⟨List.replicate n (.answered ⟨1, .okayWrite⟩), []⟩ }

theorem witness_RequestsAreTakenInOrder :
    (State.reset.settle = State.reset ∧ State.reset.mode = .init) ∧
    (∀ n ∈ [0, 15], (answered n).settle = answered n ∧ (answered n).mode ≠ .init ∧ (answered n).lli.heldOff = [] ∧
      (answered n).lli.queue.length < 16) ∧
    ((answered 16).settle = answered 16 ∧ 16 ≤ (answered 16).lli.queue.length) ∧
    (∀ s ∈ [({ answered 14 with lli := { (answered 14).lli with heldOff := [readReq, fullReq] } } : State)],
      s.settle = s ∧ s.mode ≠ .init) := by decide +kernel

theorem witness_ResponsesLeaveInOrder :
    ((answered 2).settle = answered 2 ∧ (answered 2).lli.queue = .answered ⟨1, .okayWrite⟩ :: [.answered ⟨1, .okayWrite⟩]) ∧
    base.settle = base ∧ ∀ x rest, base.lli.queue ≠ .answered x :: rest := by
  refine ⟨by decide +kernel, by decide +kernel, ?_⟩
  intro x rest h
  cases h

/-- Request `r` waiting behind an answered slot. -/
def waiting (r : Request) (s : State) : State :=
  { s with lli := ⟨[.answered ⟨1, .okayWrite⟩, .waiting r, .waiting readReq], []⟩ }

/-- A request of 9 words. -/
def longReq : Request := { readReq with count := 9 }

theorem witness_RequestExecutionBegins :
    (∀ r ∈ [readReq, mergeReq, fullReq], r.wf = true ∧
      (waiting r config).lli.queue = [.answered ⟨1, .okayWrite⟩] ++ .waiting r :: [.waiting readReq] ∧
      (waiting r config).mode = .config) ∧
    ((∀ x ∈ [Slot.answered ⟨1, .okayWrite⟩], ∃ resp, x = .answered resp) ∧
      ∀ x ∈ [Slot.waiting readReq], ∃ r', x = .waiting r') ∧
    ((waiting longReq base).mode = .online ∧ 8 < longReq.count) ∧
    (¬(fillReq.count = 0 ∨ 8 < fillReq.count ∨ 8 < fillReq.address.toNat % 64 / 8 + fillReq.count) ∧
      (fillOut 2 9).translate fillReq.cls fillReq.address = some 2 ∧ (fillOut 2 9).underFill = some 2) ∧
    (¬(readReq.count = 0 ∨ 8 < readReq.count ∨ 8 < readReq.address.toNat % 64 / 8 + readReq.count) ∧
      base.underFill = none) ∧ readOut.executing ≠ none ∧ State.reset.mode = .init := by
  refine ⟨by decide +kernel, ⟨?_, ?_⟩, by decide +kernel, by decide +kernel, by decide +kernel, by decide +kernel, rfl⟩
  · intro x hx
    simp only [List.mem_singleton] at hx
    exact ⟨_, hx⟩
  · intro x hx
    simp only [List.mem_singleton] at hx
    exact ⟨_, hx⟩

theorem witness_DemandReadIsGranted :
    (∀ x ∈ [(readReq, DemandPhase.read), (mergeReq, DemandPhase.mergeRead)],
      (withExec x.1 x.2 .raised base).beginRequests.migrationStart = withExec x.1 x.2 .raised base ∧
      (withExec x.1 x.2 .raised base).aa.grant = none ∧
      (withExec x.1 x.2 .raised base).executing = some (x.1, x.2, .raised) ∧
      (withExec x.1 x.2 .raised base).translate x.1.cls x.1.address = some 0 ∧ base.aa.fairness < 8) ∧
    ({ base with aa := { base.aa with fairness := 8 } } : State).backgroundChoice = none := by decide +kernel

/-- A full write raised while logical segment 0 is in migration, the ME's operation held by the hold-off. -/
def writeRaised (c : Nat) (m : MigState) : State :=
  withExec fullReq (.write [some (.data 7)] none) .raised (held (withMig c m .raised base))

theorem witness_DemandWriteIsGranted :
    (∀ x ∈ [(3, MigState.copyRead false), (3, .copyWrite zeros false), (3, .verifyRead zeros true), (4, .copyRead false),
        (2, .copyRead false), (3, .cancelling)],
      (writeRaised x.1 x.2).beginRequests.migrationStart = writeRaised x.1 x.2 ∧ (writeRaised x.1 x.2).aa.grant = none ∧
      (writeRaised x.1 x.2).executing = some (fullReq, .write [some (.data 7)] none, .raised) ∧
      (writeRaised x.1 x.2).translate .a fullReq.address = some 0 ∧ (writeRaised x.1 x.2).aa.fairness < 8 ∧
      (writeRaised x.1 x.2).copying = some (0, migEntry x.1) ∧ (migEntry x.1).current = (writeRaised x.1 x.2).physOf 0) ∧
    requestLine fullReq.address = 3 ∧
    ((withExec fullReq (.write [some (.data 7)] none) .raised base).migrationStart =
        withExec fullReq (.write [some (.data 7)] none) .raised base ∧
      (withExec fullReq (.write [some (.data 7)] none) .raised base).copying = none) := by decide +kernel

theorem witness_NoaddrIsAnsweredWithoutAGrant :
    (withExec farReq .read .raised base).beginRequests.migrationStart = withExec farReq .read .raised base ∧
    (withExec farReq .read .raised base).aa.grant = none ∧
    (withExec farReq .read .raised base).executing = some (farReq, .read, .raised) ∧
    (withExec farReq .read .raised base).translate farReq.cls farReq.address = none ∧
    (withExec farReq .read .raised base).backgroundChoice = none ∧
    (∀ x ∈ (withExec farReq .read .raised base).lli.queue, x ≠ .waiting readReq ∧ x.exec?.isSome = true) ∧
    (∀ s ∈ [nextInLine (withExec farReq .read .raised base)],
      s.beginRequests.migrationStart = s ∧ s.aa.grant = none ∧ s.executing = some (farReq, .read, .raised) ∧
      s.aa.fairness < 8 ∧ (after .arrayGrant s).bind (fun t => t.aa.grant.map PortOp.requester) = some .demand) := by
  decide +kernel

/-- One entry in the Repair Queue. -/
def repairing : State := { base with ru := ⟨[⟨⟨0, 0, 1⟩, 5⟩], none⟩ }

theorem witness_RepairAndMigrationAreGranted :
    (repairing.beginRequests.migrationStart = repairing ∧ repairing.aa.grant = none ∧ repairing.demandRaised = false ∧
      repairing.ru.queue = ⟨⟨0, 0, 1⟩, 5⟩ :: [] ∧ repairing.ru.record = none) ∧
    ∀ m ∈ [MigState.copyRead true, .copyWrite zeros false, .verifyRead zeros false],
      (withMig 7 m .raised base).beginRequests.migrationStart = withMig 7 m .raised base ∧ (withMig 7 m .raised base).aa.grant = none ∧
      (withMig 7 m .raised base).demandRaised = false ∧ (withMig 7 m .raised base).ru.queue = [] ∧
      (withMig 7 m .raised base).aa.holdOff = none ∧ (withMig 7 m .raised base).me.step = .raised ∧
      (withMig 7 m .raised base).copying = some (0, migEntry 7) ∧ (withMig 7 m .raised base).me.state = m := by
  decide +kernel

/-- The SE in mode `m` with a patrol request at step `p`. -/
def sweeping (m : SweepMode) (p : OpStep) : State := { base with se := { base.se with mode := m, patrolPending := p } }

theorem witness_SweepIsGranted :
    ∀ x ∈ [(SweepMode.patrol, OpStep.raised), (.fill (fillRun 2 9 .raised), .none), (.verify (fillRun 2 9 .raised), .none)],
      (sweeping x.1 x.2).beginRequests.migrationStart = sweeping x.1 x.2 ∧ (sweeping x.1 x.2).aa.grant = none ∧
      (sweeping x.1 x.2).aa.holdOff = none ∧ (sweeping x.1 x.2).demandRaised = false ∧ (sweeping x.1 x.2).ru.queue = [] ∧
      (sweeping x.1 x.2).me.step ≠ .raised ∧ (sweeping x.1 x.2).sweepRaised = true ∧
      (fillRun 2 9 .raised).pos = some ⟨2, 2, 9⟩ ∧
      ∀ s ∈ [({ withExec readReq .read .raised (sweeping x.1 x.2) with aa := { base.aa with fairness := 8 } } : State)],
        s.beginRequests.migrationStart = s ∧ s.demandRaised = true ∧ 8 ≤ s.aa.fairness := by decide +kernel

theorem witness_HoldOffBlocksMigrationAndSweep :
    (∀ s ∈ [held repairing, held (withExec readReq .read .raised base)], s.aa.holdOff ≠ none ∧ s.aa.grant = none ∧
      ∃ q ∈ [Requester.demand, .repair], (((after .arrayGrant s).bind fun t => t.aa.grant).map PortOp.requester) = some q) ∧
    (held base).settle = held base := by decide +kernel

theorem witness_ReadIsAnsweredByItsWords :
    (readOut.settle = readOut ∧ readOut.aa.grant = some ⟨.demand, 0, 0, none, true⟩ ∧
      readOut.executing = some (readReq, .read, .outstanding 0 none)) ∧
    (∀ w < 8, classify (Memory.read (Memory.flipLine readOut.array 0 0 noFlips) w) = .clean) ∧
    ((∀ w < 8, badClass (Memory.read (Memory.flipLine readOut.array 0 0 oneFlip) w) = none) ∧
      classify (Memory.read (Memory.flipLine readOut.array 0 0 oneFlip) 1) = .corrected) ∧
    (badClass (Memory.read (Memory.flipLine readOut.array 0 0 twoFlips) 2) = some .uncorrectable ∧
      ∀ v < 2, badClass (Memory.read (Memory.flipLine readOut.array 0 0 twoFlips) v) = none) := by decide +kernel

theorem witness_UncorrectableWordsAreReported :
    readOut.settle = readOut ∧ (readOut.health 0).tracked = true ∧
    classify (Memory.read (Memory.flipLine readOut.array 0 0 twoFlips) 2) = .uncorrectable ∧
    (∀ w < 8, classify (Memory.read (Memory.flipLine readOut.array 0 0 oneFlip) w) ≠ .uncorrectable) ∧
    (∀ n ∈ [1, 2], ∀ s ∈ [withOp .demand 0 0 none (withExec readReq .read (.outstanding 0 none)
        { calibrating with hm := { calibrating.hm with cal := ⟨true, n, 2, 0, 0, 0, 0⟩ } })],
      s.settle = s ∧ (s.health 0).state = .baseline 1 ∧ s.hm.cal.baselineCount = n) := by decide +kernel

theorem witness_MergeReadFormsTheWrite :
    (mergeOut.settle = mergeOut ∧ mergeOut.aa.grant = some ⟨.demand, 0, 3, none, true⟩ ∧
      mergeOut.executing = some (mergeReq, .mergeRead, .outstanding 0 none)) ∧
    (mergeReq.wordAt 0).enables = 0xFF ∧ (mergeReq.wordAt 1).enables = 0x01 ∧ (mergeReq.wordAt 2).enables = 0 ∧
    badClass (Memory.read (Memory.flipLine mergeOut.array 0 3 noFlips) 25) = none ∧
    badClass (Memory.read (Memory.flipLine mergeOut.array 0 3 [.zero, ⟨3, 0⟩]) 25) = some .uncorrectable := by
  decide +kernel

theorem witness_WritesAreCarriedToTheTarget :
    ((writeOut none base).settle = writeOut none base ∧
      (writeOut none base).executing = some (fullReq, .write [some (.data 7)] none, .outstanding 0 none)) ∧
    ((writeOut (some 6) base).settle = writeOut (some 6) base ∧
      (writeOut (some 6) base).executing = some (fullReq, .write [some (.data 7)] none, .outstanding 0 (some 6)) ∧
      (writeOut (some 6) base).copying = none) ∧
    ((writeOut (some 6) (withMig 9 (.copyRead false) .raised base)).settle =
        writeOut (some 6) (withMig 9 (.copyRead false) .raised base) ∧
      (writeOut (some 6) (withMig 9 (.copyRead false) .raised base)).copying = some (0, migEntry 9) ∧
      (migEntry 9).target = 6) ∧
    (∀ s ∈ [(withOp .demand 6 3 (some [some (encodeWord 7)]) (withExec fullReq (.dual none) (.outstanding 0 none) base) : State)],
      s.settle = s ∧ s.executing = some (fullReq, .dual none, .outstanding 0 none)) := by decide +kernel

/-- An operation whose delivery mark is cleared. -/
def discarded (write : Option (List (Option StoredWord))) : State :=
  { base with aa := { base.aa with grant := some ⟨.sweep, 1, 0, write, false⟩ } }

theorem witness_RepairsAndDiscardedOperationsComplete :
    (∀ s ∈ [(withOp .repair 0 0 (some (repairWords ⟨⟨0, 0, 1⟩, 5⟩)) { base with ru := ⟨[⟨⟨0, 0, 1⟩, 5⟩], some ⟨0, 0, 1⟩⟩ } : State)],
      s.settle = s ∧ s.aa.grant = some ⟨.repair, 0, 0, some (repairWords ⟨⟨0, 0, 1⟩, 5⟩), true⟩) ∧
    (discarded (some fillWords)).settle = discarded (some fillWords) ∧ (discarded none).settle = discarded none := by
  decide +kernel

/-- A patrol read outstanding on a segment that a RESTORE has since retired. -/
def patrolRetired : State :=
  { patrolOut 9 with rc := { (patrolOut 9).rc with segs := (patrolOut 9).rc.segs.set 5 ⟨.retired, true⟩ } }

theorem witness_PatrolReadAdvancesTheCursor :
    (∀ n ∈ [0, 4094, 4095], (patrolOut n).settle = patrolOut n ∧ (patrolOut n).aa.grant = some ⟨.sweep, 5, n, none, true⟩ ∧
      (patrolOut n).se.patrolPending = .outstanding ∧ (patrolOut n).se.mode = .patrol ∧
      (patrolOut n).seg 5 = ⟨.inUse, true⟩ ∧
      ∀ w < 8, classify (Memory.read (Memory.flipLine (patrolOut n).array 5 n noFlips) (5 * 32768 + n * 8 + w)) = .clean) ∧
    (patrolRetired.settle = patrolRetired ∧ (patrolRetired.seg 5).role = .retired) ∧
    (∀ m ∈ [SweepMode.fill ⟨2, 3, 0, none, .none⟩, .verify ⟨2, 3, 0, some ⟨2, 2, 0⟩, .none⟩],
      ∀ s ∈ [withExec fillReq .read .raised { patrolOut 9 with se := { (patrolOut 9).se with mode := m } }],
        s.settle = s ∧ s.se.mode = m ∧ s.translate fillReq.cls fillReq.address = some 2) := by decide +kernel

theorem witness_FillAdvancesAndCompletes :
    ∀ x ∈ [(2, 0), (2, 4094), (2, 4095), (3, 4095)],
      (fillOut x.1 x.2).settle = fillOut x.1 x.2 ∧
      (fillOut x.1 x.2).aa.grant = some ⟨.sweep, x.1, x.2, some fillWords, true⟩ ∧
      (fillOut x.1 x.2).se.mode = .fill (fillRun x.1 x.2 .outstanding) ∧
      (fillRun x.1 x.2 .outstanding).pos = some ⟨x.1, x.1, x.2⟩ ∧ (fillRun x.1 x.2 .outstanding).last = 3 ∧
      (heldRead x.1).settle = heldRead x.1 ∧ (heldRead x.1).executing = some (fillReq, .read, .held) := by decide +kernel

theorem witness_VerifyStopsOrGoesOn :
    (∀ x ∈ [(2, 0), (2, 4094), (2, 4095), (3, 4095)],
      (verifyOut x.1 x.2).settle = verifyOut x.1 x.2 ∧ (verifyOut x.1 x.2).aa.grant = some ⟨.sweep, x.1, x.2, none, true⟩ ∧
      (verifyOut x.1 x.2).se.mode = .verify (fillRun x.1 x.2 .outstanding) ∧
      ∀ w < 8, classify (Memory.read (Memory.flipLine (verifyOut x.1 x.2).array x.1 x.2 noFlips)
        (x.1 * 32768 + x.2 * 8 + w)) = .clean) ∧
    badClass (Memory.read (Memory.flipLine (verifyOut 2 9).array 2 9 twoFlips) (2 * 32768 + 9 * 8 + 2)) = some .uncorrectable ∧
    (∀ w < 8, badClass (Memory.read (Memory.flipLine (verifyOut 2 9).array 2 9 oneFlip) (2 * 32768 + 9 * 8 + w)) = none) := by
  decide +kernel

theorem witness_CopyFollowsTheLineLoop :
    (∀ s ∈ [(withOp .migration 0 5 none (withMig 5 (.copyRead true) .outstanding base) : State)],
      s.settle = s ∧ s.aa.grant = some ⟨.migration, 0, 5, none, true⟩ ∧ s.copying = some (0, migEntry 5) ∧
        s.me.state = .copyRead true ∧ (s.health 0).state = .quiet ∧
        classify (Memory.read (Memory.flipLine s.array 0 5 twoFlips) (5 * 8 + 2)) = .uncorrectable) ∧
    (∀ s ∈ [(withOp .migration 6 5 (some fillWords) (withMig 5 (.copyWrite zeros true) .outstanding base) : State)],
      s.settle = s ∧ s.aa.grant = some ⟨.migration, 6, 5, some fillWords, true⟩ ∧ s.me.state = .copyWrite zeros true) := by
  decide +kernel

theorem witness_VerifiedLineAdvancesTheCursor :
    ∀ x ∈ [(0, false), (4094, false), (9, true)],
      (checkOut x.1 zeros x.2).settle = checkOut x.1 zeros x.2 ∧
      (checkOut x.1 zeros x.2).aa.grant = some ⟨.migration, 6, x.1, none, true⟩ ∧
      (checkOut x.1 zeros x.2).copying = some (0, migEntry x.1) ∧ zeros.length = 8 ∧
      ∀ w < 8, classify (Memory.read (Memory.flipLine (checkOut x.1 zeros x.2).array 6 x.1 noFlips) (6 * 32768 + x.1 * 8 + w)) =
        if zeros[w]? = some .poison then .poison else .clean := by decide +kernel

theorem witness_CommitMovesTheSegment :
    (checkOut 4095 zeros false).settle = checkOut 4095 zeros false ∧
    (checkOut 4095 zeros false).copying = some (0, migEntry 4095) ∧ (migEntry 4095).current ≠ (migEntry 4095).target ∧
    (migEntry 4095).current < (checkOut 4095 zeros false).rc.segs.length ∧
    (migEntry 4095).target < (checkOut 4095 zeros false).rc.segs.length ∧
    (migEntry 4095).target < (checkOut 4095 zeros false).hm.table.length ∧
    ∀ w < 8, classify (Memory.read (Memory.flipLine (checkOut 4095 zeros false).array 6 4095 noFlips) (6 * 32768 + 4095 * 8 + w)) =
      if zeros[w]? = some .poison then .poison else .clean := by decide +kernel

/-- `s` with a CALIBRATE running that has two records taken, `n` of them still in BASELINE with one epoch left; every filled segment's record is in BASELINE. -/
def calibratingIn (n : Nat) (s : State) : State :=
  { s with
    hm := { s.hm with
      table := List.replicate 6 { HealthRecord.fresh .independent with state := .baseline 1 } ++
        List.replicate 2 (.untracked .independent)
      cal := ⟨true, n, 2, 0, 0, 0, 0⟩ }
    mp := { s.mp with busy := true, longCommand := 0x43, longOutcome := .none }
    se := { s.se with patrolTimer := some 5 } }

/-- A read completion or a commit that takes a record out of BASELINE: the states before, by how many records are in BASELINE. -/
theorem witness_calibration_leaves :
    ∀ n ∈ [1, 2], ∀ s ∈ [calibratingIn n readOut, calibratingIn n mergeOut, calibratingIn n (patrolOut 9),
        calibratingIn n (withOp .migration 0 5 none (withMig 5 (.copyRead true) .outstanding base)),
        calibratingIn n (checkOut 4095 zeros false)],
      s.settle = s ∧ (s.health 0).state = .baseline 1 ∧ (s.health 5).state = .baseline 1 ∧ s.hm.cal.active = true ∧
        s.hm.cal.baselineCount = n := by decide +kernel

/-- A read of each source outstanding, with the completion that finds word 2 UNCORRECTABLE. -/
def readsOut : List (Instr × State) :=
  [(.demandReadComplete twoFlips, readOut), (.patrolReadComplete twoFlips, patrolOut 9),
    (.copyReadComplete twoFlips, withOp .migration 0 5 none (withMig 5 (.copyRead true) .outstanding base))]

/-- The last record out of BASELINE ends the CALIBRATE, whichever read found the UNCORRECTABLE word (R142, R143). -/
theorem test_last_uncorrectable_ends_calibration :
    (readsOut.map fun x => (after x.1 (calibratingIn 2 x.2)).map fun t => (t.hm.cal, t.mp.busy)) =
      List.replicate 3 (some (⟨true, 1, 2, 0, 0, 1, 0⟩, true)) ∧
    (readsOut.map fun x => (after x.1 (calibratingIn 1 x.2)).map fun t => (t.hm.cal, t.mp.results, t.se.patrolTimer)) =
      List.replicate 3 (some (⟨false, 0, 2, 0, 0, 1, 0⟩, [0, 0, 1, 0, 2, 0xFFFF, 0xFFFF, 0xFFFF], some 100)) := by
  decide +kernel

/-- A commit whose old current is the last record in BASELINE ends the CALIBRATE with one retired (R142, R143). -/
theorem test_commit_ends_calibration :
    (after (.verifyReadComplete noFlips) (calibratingIn 2 (checkOut 4095 zeros false))).map (fun t => (t.hm.cal, t.mp.busy)) =
      some (⟨true, 1, 2, 0, 0, 0, 1⟩, true) ∧
    (after (.verifyReadComplete noFlips) (calibratingIn 1 (checkOut 4095 zeros false))).map
        (fun t => (t.hm.cal, t.mp.busy, t.mp.results, t.se.patrolTimer)) =
      some (⟨false, 0, 2, 0, 0, 0, 1⟩, false, [0, 0, 0, 1, 2, 0xFFFF, 0xFFFF, 0xFFFF], some 100) := by decide +kernel

theorem witness_FailedTargetIsAbandoned :
    ((checkOut 7 zeros false).settle = checkOut 7 zeros false ∧ (checkOut 7 zeros false).copying = some (0, migEntry 7) ∧
      ((checkOut 7 zeros false).seg 6).role = .spareBound ∧ (checkOut 7 zeros false).lowestSpare = some 7 ∧
      classify (Memory.read (Memory.flipLine (checkOut 7 zeros false).array 6 7 oneFlip) (6 * 32768 + 7 * 8 + 1)) ≠ .clean) ∧
    ((noSpares (checkOut 7 zeros false)).settle = noSpares (checkOut 7 zeros false) ∧
      ((noSpares (checkOut 7 zeros false)).seg 6).role = .spareBound ∧
      (noSpares (checkOut 7 zeros false)).lowestSpare = none) ∧
    classify (Memory.read (Memory.flipLine (checkOut 7 zeros false).array 6 7 twoFlips) (6 * 32768 + 7 * 8 + 2)) = .uncorrectable ∧
    classify (Memory.read (Memory.flipLine (checkOut 7 zeros false).array 6 7 oneFlip) (6 * 32768 + 7 * 8 + 1)) = .corrected ∧
    (∀ b ∈ [false, true],
      ∀ s ∈ [({ checkOut 7 zeros false with settings := { base.settings with captureCorrected := b } } : State)], s.settle = s) := by
  decide +kernel

/-- Only segment `p` is filled, and the patrol cursor stands at segment `c`. -/
def oneFilled (p c : Nat) : State :=
  { base with
    rc := { base.rc with segs := (List.range 8).map fun k => ⟨.inUse, k == p⟩ }
    se := { base.se with cursorSegment := c } }

theorem not_eligible_beyond (p c q : Nat) (h : q ≠ p) : ¬(((oneFilled p c).seg q).role = .inUse ∧ ((oneFilled p c).seg q).filled = true) := by
  intro hq
  have h8 : 8 ≤ q ∨ q < 8 := by omega
  rcases h8 with h8 | h8
  · have : (oneFilled p c).seg q = ⟨.retired, false⟩ := by
      simp [State.seg, oneFilled, List.getD_eq_getElem?_getD, h8]
    rw [this] at hq
    exact absurd hq.1 (by decide)
  · have : ((oneFilled p c).seg q).filled = (q == p) := by
      simp [State.seg, oneFilled, List.getD_eq_getElem?_getD, h8]
    rw [this] at hq
    simp [h] at hq

theorem witness_PatrolTickRaisesARead :
    (base.settle = base ∧ base.se.patrolTimer = some 100 ∧ base.mode = .online ∧ base.se.mode = .patrol ∧
      base.me.quiesced = false ∧ base.pace ≠ 0 ∧ base.se.patrolPending = .none ∧
      (base.seg base.se.cursorSegment).role = .inUse ∧ (base.seg base.se.cursorSegment).filled = true) ∧
    (patrolOut 9).se.patrolPending ≠ .none ∧ (verifyOut 2 9).se.mode ≠ .patrol ∧
    ((oneFilled 5 2).settle = oneFilled 5 2 ∧ (oneFilled 5 2).seg 5 = ⟨.inUse, true⟩ ∧ 5 < (oneFilled 5 2).rc.segs.length ∧
      ∀ q, 2 < q → q < 5 → ¬(((oneFilled 5 2).seg q).role = .inUse ∧ ((oneFilled 5 2).seg q).filled = true)) ∧
    ((oneFilled 1 2).settle = oneFilled 1 2 ∧ (oneFilled 1 2).seg 1 = ⟨.inUse, true⟩ ∧
      (∀ q, 2 < q → ¬(((oneFilled 1 2).seg q).role = .inUse ∧ ((oneFilled 1 2).seg q).filled = true)) ∧
      ∀ q < 1, ¬(((oneFilled 1 2).seg q).role = .inUse ∧ ((oneFilled 1 2).seg q).filled = true)) ∧
    ((oneFilled 9 2).settle = oneFilled 9 2 ∧
      ∀ q, ¬(((oneFilled 9 2).seg q).role = .inUse ∧ ((oneFilled 9 2).seg q).filled = true)) := by
  refine ⟨by decide +kernel, by decide +kernel, by decide +kernel, ⟨by decide +kernel, by decide +kernel, by decide +kernel, ?_⟩,
    ⟨by decide +kernel, by decide +kernel, ?_, ?_⟩, by decide +kernel, ?_⟩
  · exact fun q _ h => not_eligible_beyond 5 2 q (by omega)
  · exact fun q h => not_eligible_beyond 1 2 q (by omega)
  · exact fun q h => not_eligible_beyond 1 2 q (by omega)
  · intro q
    by_cases h : q = 9
    · rw [h]
      decide +kernel
    · exact not_eligible_beyond 9 2 q h

/-- A record in each state of R107. -/
def fiveRecords : State :=
  { base with hm := { base.hm with table :=
      [.untracked .independent, .fresh .reference, ⟨.baseline 1, .independent, 9, 40, 40, 0, .none, 0⟩,
       ⟨.baseline 2, .independent, 9, 40, 40, 0, .none, 0⟩, ⟨.watch 126 none, .independent, 8, 128, 42, 0, .none, 1⟩,
       ⟨.alarm .threshold, .independent, 3, 90, 10, 0, .none, 0⟩] } }

/-- A REFERENCE, and WATCH records that the pass alarms, releases, lets out and keeps. -/
def watched : State :=
  { base with hm := { base.hm with table :=
      [⟨.quiet, .reference, 0, 100, 100, 0, .none, 0⟩, ⟨.watch 300 none, .independent, 30, 400, 10, 3, .alarm, 0⟩,
       ⟨.watch 300 (some 200), .independent, 0, 190, 100, 0, .none, 9⟩, ⟨.watch 20 none, .independent, 1, 20, 10, 2, .exit, 0⟩,
       ⟨.watch 100 (some 90), .follower 0 4096, 6, 100, 10, 0, .none, 9⟩] } }

/-- Auto-retire on. -/
def retiring : State := { base with settings := { base.settings with autoRetire := true } }

/-- Logical segment 4 queued for retirement. -/
def queued : State := { base with me := { base.me with queue := [⟨4, .auto⟩] } }

/-- Eight logical segments queued, the ME kept from starting by the hold-off. -/
def fullQueue : State :=
  held { base with
    rc := { base.rc with geometry := some ⟨12, 2⟩ }
    me := { base.me with queue := (List.range 8).map fun g => ⟨g, .manual⟩ } }

theorem witness_EpochEndFiltersEveryRecord :
    fiveRecords.settle = fiveRecords ∧ fiveRecords.hm.epochTimer = some 1024000 ∧
    (fiveRecords.health 0).state = .untracked ∧ (fiveRecords.health 1).state = .quiet ∧
    (fiveRecords.health 2).state = .baseline 1 ∧ (fiveRecords.health 3).state = .baseline 2 ∧
    (fiveRecords.health 4).state = .watch 126 none ∧ (fiveRecords.health 5).state = .alarm .threshold ∧
    (watched.settle = watched ∧ ((after .epochEnd watched).map fun t => (List.range 5).map fun p => (t.health p).state) =
      some [.quiet, .alarm .threshold, .quiet, .quiet, .watch 100 (some 90)]) ∧
    (calibrating.settle = calibrating ∧
      ((after .epochEnd { calibrating with hm := { calibrating.hm with cal := ⟨true, 1, 1, 0, 0, 0, 0⟩ } }).map fun t =>
        (t.hm.cal.active, t.mp.longOutcome)) = some (false, .ok)) ∧
    (base.logicalOf 6 = none ∧ base.logicalOf 4 = some 4 ∧ base.settings.autoRetire = false ∧
      retiring.settings.autoRetire = true ∧ ⟨.spareFree, false⟩ ∈ retiring.rc.segs ∧ retiring.me.queue.length < 8 ∧
      (∀ x ∈ retiring.me.queue, x.logical ≠ 4) ∧ retiring.entryIndex 4 = none ∧
      (∃ x ∈ ({ retiring with me := queued.me } : State).me.queue, x.logical = 4) ∧
      (∀ x ∈ (noSpares retiring).rc.segs, x.role ≠ .spareFree) ∧ fullQueue.me.queue.length = 8) := by decide +kernel

theorem no_fill_at_rest (g : Nat) : (noSpares queued).inRemainingFill g = false := rfl

theorem witness_MigrationStartTakesTheHead :
    (queued.me.queue = ⟨4, .auto⟩ :: [] ∧ queued.mode = .online ∧ queued.me.state = .idle ∧ queued.me.quiesced = false ∧
      queued.aa.holdOff = none ∧ queued.inRemainingFill 4 = false ∧ queued.lowestSpare = some 6 ∧
      queued.entryIndex 4 = none ∧ queued.rc.remap.findIdx? (fun x => x == .free) = some 0) ∧
    (∀ s ∈ [({ queued with rc := { queued.rc with remap := .active ⟨4, 5, .manual, 0, 0⟩ :: List.replicate 31 .free } } : State)],
      s.entryIndex 4 = some 0 ∧ s.rc.remap[0]? = some (.active ⟨4, 5, .manual, 0, 0⟩) ∧ s.lowestSpare = some 6) ∧
    (held queued).aa.holdOff ≠ none ∧
    ({ queued with se := { queued.se with mode := .fill ⟨3, 5, 0, none, .none⟩ } } : State).inRemainingFill 4 = true ∧
    ((noSpares queued).lowestSpare = none ∧ ∀ g, (noSpares queued).inRemainingFill g = false) := by
  refine ⟨by decide +kernel, by decide +kernel, by decide +kernel, by decide +kernel, by decide +kernel, no_fill_at_rest⟩

theorem witness_QuiesceWaitsForTheEngines :
    ((withLong 0x22 base).mp.busy = true ∧ (withLong 0x22 base).mp.longCommand = 0x22 ∧
      (withLong 0x22 base).me.state = .idle ∧ (withLong 0x22 base).ru.queue = []) ∧
    base.mp.busy = false ∧ (withLong 0x10 base).mp.longCommand ≠ 0x22 ∧
    (withMig 5 (.copyRead false) .raised base).me.state ≠ .idle ∧ repairing.ru.queue ≠ [] := by decide +kernel

theorem witness_SettingsTakeCompleteClampedValues :
    (base.settle = base ∧ base.mode ≠ .init) ∧ (config.settle = config ∧ config.mode ≠ .init) ∧
    heldWord ⟨0x5C, [0x44, 0x34, 0x12]⟩ 0x44 = some 0x1234 ∧ heldWord ⟨0x5C, [0x44, 0x34]⟩ 0x44 = none ∧
    heldByte ⟨0x5C, [0x43, 7, 9]⟩ 0x43 = some 7 ∧ (0x5C : BitVec 7) = 0x5C + base.aselLatch.setWidth 7 := by
  decide +kernel

theorem witness_EnablesAndAcknowledgeAreTakenByByte :
    base.settle = base ∧ base.mode ≠ .init ∧ (0x5C : BitVec 7) = 0x5C + base.aselLatch.setWidth 7 ∧
    heldByte ⟨0x5C, [0x72, 0x81]⟩ 0x72 = some 0x81 ∧ heldByte ⟨0x5C, [0x72, 0x81]⟩ 0x73 = none ∧
    heldByte ⟨0x5C, [0x75, 0x01, 0x08]⟩ 0x76 = some 0x08 ∧ base.alu.isSet .resetSeen = true := by decide +kernel

theorem witness_CommandsAreRefusedWhileBusy :
    ((fillOut 2 9).settle = fillOut 2 9 ∧ (fillOut 2 9).mode ≠ .init ∧ (fillOut 2 9).mp.busy = true) ∧
    (base.settle = base ∧ base.mp.busy = false) ∧ State.reset.settle = State.reset ∧ State.reset.mode = .init := by
  decide +kernel

theorem witness_ReadTransferShowsOneMoment : base.settle = base ∧ base.mode ≠ .init := by decide +kernel

theorem witness_FillIsCheckedAndStarts :
    (config.settle = config ∧ config.mp.busy = false ∧ config.mode ≠ .init ∧ config.mode ≠ .online) ∧
    ((withParams 5 2 base).settle = withParams 5 2 base ∧ (withParams 5 2 base).numL < 5 + 2) ∧
    (∀ s ∈ [(withParams 0 1 (held (withMig 5 (.copyRead false) .raised base)) : State)],
      s.settle = s ∧ s.mp.busy = false ∧ .copying (migEntry 5) ∈ s.rc.remap ∧ (migEntry 5).logical < 0 + 1) ∧
    ((withParams 0 0 base).settle = withParams 0 0 base ∧ (withParams 0 0 base).numL = 6 ∧
      ∀ x ∈ base.rc.remap, x.copying? = none) ∧
    (∀ s ∈ [(withParams 4 2 (patrolOut 9) : State)],
      s.settle = s ∧ s.mp.busy = false ∧ s.se.patrolPending = .outstanding ∧ 4 + 2 ≤ s.numL) ∧
    (∀ s ∈ [(withParams 0 1 (withOp .repair 1 0 (some []) (withExec readReq .read .raised base)) : State)],
      s.settle = s ∧ s.mp.busy = false ∧ s.executing = some (readReq, .read, .raised) ∧
        s.translate readReq.cls readReq.address = some 0) := by decide +kernel

/-- Physical segment 3 is not filled. -/
def unfilled : State := { base with rc := { base.rc with segs := base.rc.segs.set 3 ⟨.inUse, false⟩ } }

theorem witness_VerifyIsCheckedAndStarts :
    (config.settle = config ∧ config.mp.busy = false ∧ config.mode ≠ .online) ∧
    ((withParams 5 2 base).settle = withParams 5 2 base ∧ (withParams 5 2 base).numL < 5 + 2) ∧
    ((withParams 2 2 unfilled).settle = withParams 2 2 unfilled ∧ 2 + 2 ≤ (withParams 2 2 unfilled).numL ∧
      (unfilled.seg (unfilled.physOf 3)).filled = false) ∧
    ((withParams 0 0 base).settle = withParams 0 0 base ∧ ∀ g < 6, (base.seg (base.physOf g)).filled = true) := by
  decide +kernel

theorem witness_RetireIsCheckedInOrder :
    (config.settle = config ∧ config.mp.busy = false ∧ config.mode ≠ .online) ∧
    ((withParams 6 0 base).settle = withParams 6 0 base ∧ (withParams 6 0 base).numL ≤ 6) ∧
    ((withParams 7 0 fullQueue).settle = withParams 7 0 fullQueue ∧ 7 < (withParams 7 0 fullQueue).numL ∧
      ⟨7, .manual⟩ ∈ fullQueue.me.queue) ∧
    (∀ s ∈ [(withParams 0 0 (held (withMig 5 (.copyRead false) .raised base)) : State)],
      s.settle = s ∧ s.entryIndex 0 = some 0 ∧ s.rc.remap[0]? = some (.copying (migEntry 5))) ∧
    ((withParams 9 0 fullQueue).settle = withParams 9 0 fullQueue ∧ 9 < (withParams 9 0 fullQueue).numL ∧
      (∀ x ∈ fullQueue.me.queue, x.logical ≠ 9) ∧ 8 ≤ fullQueue.me.queue.length ∧ fullQueue.entryIndex 9 = none) ∧
    ((withParams 5 0 (noSpares base)).settle = withParams 5 0 (noSpares base) ∧
      ∀ x ∈ (noSpares base).rc.segs, x.role ≠ .spareFree) ∧
    ((withParams 5 0 base).settle = withParams 5 0 base ∧ (withParams 5 0 base).me.queue.length < 8 ∧
      ⟨.spareFree, false⟩ ∈ base.rc.segs) := by decide +kernel

theorem witness_CancelRevertsTheMigration :
    (config.settle = config ∧ config.mp.busy = false ∧ config.mode ≠ .online) ∧
    (base.settle = base ∧ ∀ x ∈ base.rc.remap, x.copying? = none) ∧
    (∀ s ∈ [(held (withMig 5 (.copyRead false) .raised base) : State)],
      s.settle = s ∧ s.mp.busy = false ∧ s.copying = some (0, migEntry 5) ∧ s.me.step ≠ .outstanding ∧
        (migEntry 5).target < s.rc.segs.length) ∧
    ((checkOut 5 zeros false).settle = checkOut 5 zeros false ∧ (checkOut 5 zeros false).mp.busy = false ∧
      (checkOut 5 zeros false).me.step = .outstanding) ∧
    (∀ x ∈ [(0, none), (6, some fillWords), (6, none)],
      ∀ s ∈ [withLong 0x21 (withOp .migration x.1 5 x.2 (withMig 5 .cancelling .outstanding base))],
        s.settle = s ∧ s.copying = some (0, migEntry 5) ∧ s.me.state = .cancelling ∧ (migEntry 5).target < s.rc.segs.length ∧
        s.aa.grant = some ⟨.migration, x.1, 5, x.2, true⟩) ∧
    (migEntry 5).current = 0 ∧ (migEntry 5).target = 6 := by decide +kernel

theorem witness_QuiesceAndResumeSetTheFlag :
    (config.settle = config ∧ config.mp.busy = false ∧ config.mode ≠ .online) ∧
    (base.settle = base ∧ base.mode = .online ∧ base.me.state = .idle ∧ base.ru.queue = []) ∧
    ((checkOut 5 zeros false).settle = checkOut 5 zeros false ∧ (checkOut 5 zeros false).me.state ≠ .idle) := by
  decide +kernel

/-- Logical segment 3 moved to physical segment 7. -/
def moved : State :=
  { base with rc := { base.rc with
    segs := [⟨.inUse, true⟩, ⟨.inUse, true⟩, ⟨.inUse, true⟩, ⟨.retired, true⟩, ⟨.inUse, true⟩, ⟨.inUse, true⟩, ⟨.spareFree, false⟩,
      ⟨.inUse, true⟩]
    remap := .active ⟨3, 7, .restored, 0, 0⟩ :: List.replicate 31 .free } }

theorem witness_RestoreReplaysAMove :
    (config.settle = config ∧ config.mp.busy = false ∧ config.mode ≠ .online) ∧
    ((withParams 3 5 base).settle = withParams 3 5 base ∧ 5 < (withParams 3 5 base).numL) ∧
    ((withParams 3 6 (noSpares base)).settle = withParams 3 6 (noSpares base) ∧ ((noSpares base).seg 6).role ≠ .spareFree) ∧
    (∀ s ∈ [(withParams 0 7 (held (withMig 5 (.copyRead false) .raised base)) : State)],
      s.settle = s ∧ (s.seg 7).role = .spareFree ∧ s.entryIndex 0 = some 0 ∧ s.rc.remap[0]? = some (.copying (migEntry 5))) ∧
    ((withParams 3 7 base).settle = withParams 3 7 base ∧ 3 < (withParams 3 7 base).numL ∧ (base.seg 7).role = .spareFree ∧
      base.entryIndex 3 = none ∧ base.rc.remap.findIdx? (fun x => x == .free) = some 0 ∧ base.physOf 3 ≠ 7 ∧
      base.physOf 3 < base.rc.segs.length) ∧
    (∀ s ∈ [(withParams 3 6 moved : State)],
      s.settle = s ∧ 3 < s.numL ∧ (s.seg 6).role = .spareFree ∧ s.entryIndex 3 = some 0 ∧
        s.rc.remap[0]? = some (.active ⟨3, 7, .restored, 0, 0⟩) ∧ s.physOf 3 = 7 ∧ s.physOf 3 < s.rc.segs.length) := by
  decide +kernel

theorem witness_ReadingCommandsLeaveResults :
    (config.settle = config ∧ config.mp.busy = false ∧ config.mode ≠ .online) ∧
    ((withParams 6 0 base).settle = withParams 6 0 base ∧ (withParams 6 0 base).numL ≤ 6) ∧
    ((withParams 5 0 base).settle = withParams 5 0 base ∧ base.entryIndex 5 = none) ∧
    ((withParams 3 0 moved).settle = withParams 3 0 moved ∧ moved.entryIndex 3 = some 0 ∧
      moved.rc.remap[0]? = some (.active ⟨3, 7, .restored, 0, 0⟩)) ∧
    (∀ s ∈ [(withParams 0 0 (held (withMig 5 (.copyRead false) .raised base)) : State)],
      s.settle = s ∧ s.entryIndex 0 = some 0 ∧ s.rc.remap[0]? = some (.copying (migEntry 5))) ∧
    ((withParams 32 0 base).settle = withParams 32 0 base ∧ base.rc.remap[31]? = some .free) ∧
    ((withParams 8 0 base).settle = withParams 8 0 base ∧ (withParams 8 0 base).numP ≤ 8) ∧
    ((withParams 7 0 base).settle = withParams 7 0 base ∧ 7 < (withParams 7 0 base).numP) ∧
    (base.fcu.record = none ∧ threeReports.settle = threeReports ∧ threeReports.fcu.record.isSome = true) ∧
    ((after .readCapture (State.report ⟨.corrected, .patrol, some (⟨300, 17, 4⟩, 0x8B), some 300, none⟩ base)).map fun t => t.mp.results) =
      some [0x0111, 300, 17, 0x8B84, 300, 0xFFFF, 0xFFFF, 0xFFFF] ∧
    ((after .readHealth (withParams 4 0 watched)).map fun t => t.mp.results) =
      some [0xFE5B, 0x0906, 90, 0, 4096, 100, 10, 0x3064] := by decide +kernel

/-- Four parameters. -/
def withRole (p role ref weight : BitVec 16) (s : State) : State :=
  { s with mp := { s.mp with param0 := p, param1 := role, param2 := ref, param3 := weight } }

theorem witness_RolesAndReseedsChangeOneRecord :
    (config.settle = config ∧ config.mp.busy = false ∧ config.mode ≠ .online) ∧
    (∀ x ∈ [withRole 8 0 0 0 fiveRecords, withRole 1 3 0 0 fiveRecords, withRole 4 2 1 8192 fiveRecords,
        withRole 4 2 4 0 fiveRecords, withRole 7 0 0 0 fiveRecords, withRole 7 1 0 0 fiveRecords,
        withRole 4 2 1 8191 fiveRecords, withRole 0 0 0 0 fiveRecords],
      x.settle = x ∧ x.mode = .online ∧ x.mp.busy = false ∧ x.numP = 8) ∧
    (fiveRecords.health 1).role = .reference ∧ (fiveRecords.health 0).state = .untracked ∧
    (fiveRecords.health 5).state ≠ .untracked := by decide +kernel

theorem witness_CalibrateTakesTheQuietRecords :
    (config.settle = config ∧ config.mp.busy = false ∧ config.mode ≠ .online) ∧
    (base.settle = base ∧ base.mode = .online ∧ (base.health 0).state = .quiet ∧ base.settings.calInterval ≠ 0) ∧
    (∀ s ∈ [({ base with hm := { base.hm with table := freshHealth 8 } } : State)],
      s.settle = s ∧ ∀ p < s.hm.table.length, (s.health p).state ≠ .quiet) := by decide +kernel

/-- `n` entries in the Repair Queue, for words of line 0 of physical segment 0. -/
def repairs (n : Nat) : State := { base with ru := ⟨(List.range n).map fun w => ⟨⟨0, 0, w⟩, 5⟩, none⟩ }

theorem witness_RepairOffersAreTestedInOrder :
    ((repairs 1).seg 6).role ≠ .inUse ∧ ((repairs 1).seg 0).role = .inUse ∧
    ((repairs 3).ru.queue = [⟨⟨0, 0, 0⟩, 5⟩] ++ ⟨⟨0, 0, 1⟩, 5⟩ :: [⟨⟨0, 0, 2⟩, 5⟩]) ∧
    ((∀ x ∈ (repairs 8).ru.queue, x.addr ≠ ⟨0, 1, 0⟩) ∧ 8 ≤ (repairs 8).ru.queue.length) ∧
    ((∀ x ∈ (repairs 7).ru.queue, x.addr ≠ ⟨0, 1, 0⟩) ∧ (repairs 7).ru.queue.length < 8 ∧ (repairs 7).ru.record = none) := by
  decide +kernel

theorem witness_FaultReportsAreCaptured :
    base.fcu.record = none ∧
    (∃ old, (State.report ⟨.corrected, .patrol, none, none, none⟩ base).fcu.record = some old ∧ old.kind = .corrected) ∧
    ∃ old, threeReports.fcu.record = some old ∧ old.kind ≠ .corrected := by
  refine ⟨rfl, ⟨_, rfl, rfl⟩, ⟨⟨.noaddr, .demandRead, none, none, some (0x0FFC0000, .a)⟩, ?_, ?_⟩⟩ <;> decide +kernel

theorem witness_SummaryNamesTheMostUrgentCause :
    threeReports.alu.isSet .uncorrectableSeen = true ∧ threeReports.alu.enables.getLsbD Cause.uncorrectableSeen.bit = true ∧
    (∀ c' : Cause, c'.bit < Cause.uncorrectableSeen.bit → c' = .resetSeen) ∧ threeReports.alu.isSet .resetSeen = false := by
  refine ⟨by decide +kernel, by decide +kernel, ?_, by decide +kernel⟩
  intro c
  cases c <;> decide

theorem witness_CommandsKeepWhatTheyDoNotName :
    after .patrolTick base ≠ none ∧ after (.demandReadComplete oneFlip) readOut ≠ none ∧ readOut.ArrayOk ∧
    readOut.settle.aa.grant = some ⟨.demand, 0, 0, none, true⟩ := by decide +kernel

/-- A FILL under way whose next step is a command. -/
def busyPart : State := { fillOut 2 9 with pending := [.fillWriteComplete] }

theorem witness_busyPart_steps : (match step busyPart with
    | .next t => t.se.mode == .fill (fillRun 2 10 .raised)
    | .fault _ => false
    | .refused _ => false) = true := by decide +kernel

theorem witness_StepsKeepTheArrayCanonical : busyPart.ArrayOk := by decide +kernel

theorem witness_StepsKeepTheQueuesInOrder : busyPart.QueuesOk ∧ busyPart.StatusOk := by
  refine ⟨by decide +kernel, ?_⟩
  unfold State.StatusOk
  decide +kernel

theorem witness_StepsKeepTheTablesSized : busyPart.TablesOk := by
  unfold State.TablesOk
  decide +kernel

/-- Two entries of a table, as positions and entries, are apart where their fields say so. -/
theorem apart_of (x y : RemapEntry) (hl : x.logical? = none ∨ x.logical? ≠ y.logical?)
    (hc : x.current? = none ∨ x.current? ≠ y.current?) : x.apart y := by
  refine ⟨fun g hg hy => ?_, fun q hq hy => ?_⟩
  · rcases hl with h | h
    · rw [h] at hg
      cases hg
    · exact h (hg.trans hy.symm)
  · rcases hc with h | h
    · rw [h] at hq
      cases hq
    · exact h (hq.trans hy.symm)

/-- A segment beyond the table is RETIRED. -/
theorem role_beyond (s : State) (p : Nat) (h : s.rc.segs.length ≤ p) : (s.seg p).role = .retired := by
  simp [State.seg, List.getD_eq_getElem?_getD, h]

theorem witness_StepsKeepOneMigration :
    busyPart.MigrationOk ∧ (checkOut 5 zeros false).MigrationOk ∧ (checkOut 5 zeros false).RemapOk := by
  refine ⟨?_, ?_, ?_, ?_, ?_, ?_, ?_, ?_, ⟨?_, ?_, ?_⟩, ?_⟩
  · unfold State.MigrationOk
    decide +kernel
  · unfold State.MigrationOk
    decide +kernel
  · unfold State.TablesOk
    decide +kernel
  · unfold State.MigrationOk
    decide +kernel
  · intro g hg
    have : g = ⟨8, 2⟩ := (Option.some.inj hg).symm
    subst this
    decide
  · intro h
    exact absurd rfl h
  · intro e he
    have : e = .copying (migEntry 5) ∨ e = .free := by
      revert e
      decide +kernel
    rcases this with rfl | rfl
    · refine ⟨by decide +kernel, by decide +kernel, by decide +kernel, by decide, fun _ => rfl, fun h => ?_⟩
      cases h
    · trivial
  · have : (checkOut 5 zeros false).rc.remap = .copying (migEntry 5) :: List.replicate 31 .free := rfl
    rw [this, List.pairwise_cons]
    refine ⟨fun y hy => ?_, List.pairwise_replicate.mpr (.inr (apart_of _ _ (.inl rfl) (.inl rfl)))⟩
    rw [(List.mem_replicate.mp hy).2]
    exact apart_of _ _ (.inr (by decide)) (.inr (by decide))
  · decide +kernel
  · intro q _ h
    by_cases h8 : q < 8
    · have : ∀ q < 8, ((checkOut 5 zeros false).seg q).role = .inUse → q < 6 := by decide +kernel
      have h6 : 6 ≤ q := by assumption
      exact absurd (this q h8 h) (by omega)
    · rw [role_beyond _ q (by simpa [checkOut, withOp, withMig] using Nat.le_of_not_lt h8)] at h
      cases h
  · intro q h
    by_cases h8 : q < 8
    · have : ∀ q < 8, ((checkOut 5 zeros false).seg q).role = .spareBound → q = 6 := by decide +kernel
      rw [this q h8 h]
      exact ⟨migEntry 5, by decide +kernel, rfl⟩
    · rw [role_beyond _ q (by simpa [checkOut, withOp, withMig] using Nat.le_of_not_lt h8)] at h
      cases h
  · refine ⟨fun x hx => ?_, by decide +kernel, fun x hx => ?_⟩
    · cases hx
    · cases hx

theorem witness_StepsKeepTheRanges : busyPart.RangesOk := by
  refine ⟨?_, ?_⟩
  · intro x
    cases x <;> decide +kernel
  · intro r hr
    have : r = .fresh .independent ∨ r = .untracked .independent := by
      revert r
      decide +kernel
    rcases this with h | h <;> subst h <;>
      simp [HealthRecord.InRange, HealthRecord.fresh, HealthRecord.untracked, HealthState.InRange, HealthRole.weight?, HealthRole.ref?]

end Sys2Proof.Tests
end

-- ==== Proofs: Kept ====
section
/-! SUPPORT. What each operation keeps beyond the frames of Laws/: the length of the Health Table, the parameters, the enables. -/

namespace Sys2Proof.Machine

/-- The four parameters of the command block (R186). -/
def MgmtPort.params (m : MgmtPort) : List (BitVec 16) := [m.param0, m.param1, m.param2, m.param3]

/-- The enables and the master enable (R179). -/
def AlertUnit.switches (a : AlertUnit) : BitVec 12 × Bool := (a.enables, a.master)

/-- An update of the other fields of the command block leaves the parameters. -/
@[simp] theorem MgmtPort.params_update (m : MgmtPort) (i : Byte) (busy refused : Bool) (last long code : Byte) (o o' : CmdOutcome)
    (ws : List (BitVec 16)) (copy bytes : List Byte) :
    MgmtPort.params ⟨i, m.param0, m.param1, m.param2, m.param3, busy, refused, last, o, long, o', code, ws, copy, bytes⟩ =
      m.params := rfl

@[simp] theorem calibratedTable_length (n : Nat) (table : List HealthRecord) :
    (calibratedTable n table).length = table.length := by
  simp [calibratedTable]

@[simp] theorem AlertUnit.switches_set (a : AlertUnit) (c : Cause) : (a.set c).switches = a.switches := rfl

@[simp] theorem AlertUnit.switches_acknowledge (a : AlertUnit) (m : BitVec 12) : (a.acknowledge m).switches = a.switches := rfl

@[simp] theorem AlertUnit.switches_engineReset (a : AlertUnit) : a.engineReset.switches = a.switches := rfl

@[simp] theorem State.report_keeps (r : FaultReport) (s : State) :
    (State.report r s).alu.switches = s.alu.switches := by
  unfold State.report
  repeat' split
  all_goals simp

@[simp] theorem State.startFrom_keeps (q : List RetireEntry) (s : State) :
    (State.startFrom q s).alu.switches = s.alu.switches := by
  induction q generalizing s with
  | nil => simp [State.startFrom]
  | cons h rest ih =>
    unfold State.startFrom
    repeat' split
    all_goals simp [ih]

@[simp] theorem State.migrationStart_keeps (s : State) :
    (State.migrationStart s).alu.switches = s.alu.switches := by
  unfold State.migrationStart
  repeat' split
  all_goals simp

@[simp] theorem State.retireOffer_keeps (p : Nat) (s : State) :
    (State.retireOffer p s).alu.switches = s.alu.switches := by
  unfold State.retireOffer
  repeat' split
  all_goals simp

@[simp] theorem State.enterAlarm_keeps (p : Nat) (reason : AlarmReason) (s : State) :
    (State.enterAlarm p reason s).hm.table.length = s.hm.table.length ∧
    (State.enterAlarm p reason s).alu.switches = s.alu.switches := by
  simp [State.enterAlarm]

@[simp] theorem State.countCorrected_keeps (p : Nat) (s : State) :
    (State.countCorrected p s).hm.table.length = s.hm.table.length := by
  unfold State.countCorrected
  repeat' split
  all_goals simp

@[simp] theorem State.offerRepair_keeps (a : WordAddr) (d : Word) (s : State) :
    (State.offerRepair a d s).alu.switches = s.alu.switches := by
  unfold State.offerRepair
  repeat' split
  all_goals simp

@[simp] theorem State.completeCalibrate_keeps (s : State) :
    (State.completeCalibrate s).hm.table.length = s.hm.table.length ∧
    (State.completeCalibrate s).mp.params = s.mp.params ∧
    (State.completeCalibrate s).alu.switches = s.alu.switches := by
  unfold State.completeCalibrate
  repeat' split
  all_goals simp

@[simp] theorem State.uncorrectableReport_keeps (p : Nat) (s : State) :
    (State.uncorrectableReport p s).hm.table.length = s.hm.table.length ∧
    (State.uncorrectableReport p s).mp.params = s.mp.params ∧
    (State.uncorrectableReport p s).alu.switches = s.alu.switches := by
  unfold State.uncorrectableReport
  repeat' split
  all_goals simp

@[simp] theorem State.retireHealth_keeps (p : Nat) (s : State) :
    (State.retireHealth p s).hm.table.length = s.hm.table.length ∧
    (State.retireHealth p s).mp.params = s.mp.params ∧
    (State.retireHealth p s).alu.switches = s.alu.switches := by
  unfold State.retireHealth
  repeat' split
  all_goals simp

@[simp] theorem State.handleWords_keeps (offer : Bool) (segment line : Nat) (ws : List (Nat × StoredWord)) (s : State) :
    (State.handleWords offer segment line ws s).hm.table.length = s.hm.table.length ∧
    (State.handleWords offer segment line ws s).mp.params = s.mp.params ∧
    (State.handleWords offer segment line ws s).alu.switches = s.alu.switches := by
  induction ws generalizing s with
  | nil => simp [State.handleWords]
  | cons x rest ih =>
    obtain ⟨w, x⟩ := x
    unfold State.handleWords
    split <;> simp [ih]
    split <;> simp

@[simp] theorem State.reportWords_keeps (mk : FaultKind → Nat → Byte → FaultReport) (ws : List (Nat × StoredWord)) (s : State) :
    (State.reportWords mk ws s).alu.switches = s.alu.switches := by
  unfold State.reportWords
  repeat' split
  all_goals simp

@[simp] theorem State.grantDemand_keeps (s : State) :
    (State.grantDemand s).alu.switches = s.alu.switches := by
  unfold State.grantDemand
  repeat' split
  all_goals simp

@[simp] theorem State.chooseFrom_keeps (n : Nat) (s : State) :
    (State.chooseFrom n s).alu.switches = s.alu.switches := by
  induction n generalizing s with
  | zero => simp [State.chooseFrom]
  | succ n ih =>
    unfold State.chooseFrom
    repeat' split
    all_goals simp [ih]

@[simp] theorem State.arrayGrant_keeps (s : State) :
    (State.arrayGrant s).alu.switches = s.alu.switches := by
  unfold State.arrayGrant
  repeat' split
  all_goals simp

@[simp] theorem State.quiesceComplete_keeps (s : State) :
    (State.quiesceComplete s).mp.params = s.mp.params ∧
    (State.quiesceComplete s).alu.switches = s.alu.switches := by
  unfold State.quiesceComplete
  repeat' split
  all_goals simp

@[simp] theorem State.settle_keeps (s : State) :
    (State.settle s).mp.params = s.mp.params ∧
    (State.settle s).alu.switches = s.alu.switches := by
  simp [State.settle]

@[simp] theorem State.finishRead_keeps (r : Request) (g : Nat) (op : PortOp) (s : State) :
    (State.finishRead r g op s).hm.table.length = s.hm.table.length ∧
    (State.finishRead r g op s).mp.params = s.mp.params ∧
    (State.finishRead r g op s).alu.switches = s.alu.switches := by
  simp [State.finishRead]

@[simp] theorem State.completeRead_keeps (flips : LineFlips) (s : State) :
    (State.completeRead flips s).hm.table.length = s.hm.table.length ∧
    (State.completeRead flips s).mp.params = s.mp.params ∧
    (State.completeRead flips s).alu.switches = s.alu.switches := by
  unfold State.completeRead
  (repeat' split) <;> simp

@[simp] theorem State.finishMergeRead_keeps (r : Request) (g : Nat) (op : PortOp) (s : State) :
    (State.finishMergeRead r g op s).hm.table.length = s.hm.table.length ∧
    (State.finishMergeRead r g op s).mp.params = s.mp.params ∧
    (State.finishMergeRead r g op s).alu.switches = s.alu.switches := by
  simp [State.finishMergeRead]

@[simp] theorem State.completeMergeRead_keeps (flips : LineFlips) (s : State) :
    (State.completeMergeRead flips s).hm.table.length = s.hm.table.length ∧
    (State.completeMergeRead flips s).mp.params = s.mp.params ∧
    (State.completeMergeRead flips s).alu.switches = s.alu.switches := by
  unfold State.completeMergeRead
  (repeat' split) <;> simp

@[simp] theorem State.handleSweepLine_keeps (o : FaultOrigin) (op : PortOp) (s : State) :
    (State.handleSweepLine o op s).hm.table.length = s.hm.table.length ∧
    (State.handleSweepLine o op s).mp.params = s.mp.params ∧
    (State.handleSweepLine o op s).alu.switches = s.alu.switches := by
  simp [State.handleSweepLine]

@[simp] theorem State.patrolLine_keeps (op : PortOp) (s : State) :
    (State.patrolLine op s).hm.table.length = s.hm.table.length ∧
    (State.patrolLine op s).mp.params = s.mp.params ∧
    (State.patrolLine op s).alu.switches = s.alu.switches := by
  unfold State.patrolLine
  (repeat' split) <;> simp

@[simp] theorem State.completePatrol_keeps (flips : LineFlips) (s : State) :
    (State.completePatrol flips s).hm.table.length = s.hm.table.length ∧
    (State.completePatrol flips s).mp.params = s.mp.params ∧
    (State.completePatrol flips s).alu.switches = s.alu.switches := by
  unfold State.completePatrol
  (repeat' split) <;> simp

@[simp] theorem State.completeFillSegment_keeps (run : SweepRun) (pos : SweepPos) (s : State) :
    (State.completeFillSegment run pos s).hm.table.length = s.hm.table.length ∧
    (State.completeFillSegment run pos s).mp.params = s.mp.params ∧
    (State.completeFillSegment run pos s).alu.switches = s.alu.switches := by
  unfold State.completeFillSegment
  (repeat' split) <;> simp

@[simp] theorem State.advanceFill_keeps (run : SweepRun) (pos : SweepPos) (s : State) :
    (State.advanceFill run pos s).hm.table.length = s.hm.table.length ∧
    (State.advanceFill run pos s).mp.params = s.mp.params ∧
    (State.advanceFill run pos s).alu.switches = s.alu.switches := by
  unfold State.advanceFill
  (repeat' split) <;> simp

@[simp] theorem State.completeFill_keeps (s : State) :
    (State.completeFill s).hm.table.length = s.hm.table.length ∧
    (State.completeFill s).mp.params = s.mp.params ∧
    (State.completeFill s).alu.switches = s.alu.switches := by
  unfold State.completeFill
  (repeat' split) <;> simp

@[simp] theorem State.verifyLine_keeps (run : SweepRun) (pos : SweepPos) (op : PortOp) (s : State) :
    (State.verifyLine run pos op s).hm.table.length = s.hm.table.length ∧
    (State.verifyLine run pos op s).mp.params = s.mp.params ∧
    (State.verifyLine run pos op s).alu.switches = s.alu.switches := by
  unfold State.verifyLine
  dsimp only
  (repeat' split) <;> simp

@[simp] theorem State.completeVerify_keeps (flips : LineFlips) (s : State) :
    (State.completeVerify flips s).hm.table.length = s.hm.table.length ∧
    (State.completeVerify flips s).mp.params = s.mp.params ∧
    (State.completeVerify flips s).alu.switches = s.alu.switches := by
  unfold State.completeVerify
  (repeat' split) <;> simp

@[simp] theorem State.startFill_keeps (f n : Nat) (s : State) :
    (State.startFill f n s).mp.params = s.mp.params := by
  unfold State.startFill
  dsimp only
  (repeat' split) <;> simp

@[simp] theorem State.takeFill_keeps (s : State) :
    (State.takeFill s).mp.params = s.mp.params ∧
    (State.takeFill s).alu.switches = s.alu.switches := by
  unfold State.takeFill
  (repeat' split) <;> simp

@[simp] theorem State.startVerify_keeps (f n : Nat) (s : State) :
    (State.startVerify f n s).mp.params = s.mp.params := by
  simp [State.startVerify]

@[simp] theorem State.takeVerify_keeps (s : State) :
    (State.takeVerify s).mp.params = s.mp.params ∧
    (State.takeVerify s).alu.switches = s.alu.switches := by
  unfold State.takeVerify
  (repeat' split) <;> simp

@[simp] theorem State.calReturn_keeps (p : Nat) (r : HealthRecord) (s : State) :
    (State.calReturn p r s).hm.table.length = s.hm.table.length := by
  simp [State.calReturn]

@[simp] theorem State.calAlarm_keeps (p : Nat) (r : HealthRecord) (s : State) :
    (State.calAlarm p r s).hm.table.length = s.hm.table.length ∧
    (State.calAlarm p r s).alu.switches = s.alu.switches := by
  simp [State.calAlarm]

@[simp] theorem State.passBaseline_keeps (p raw left : Nat) (r : HealthRecord) (s : State) :
    (State.passBaseline p raw left r s).hm.table.length = s.hm.table.length ∧
    (State.passBaseline p raw left r s).alu.switches = s.alu.switches := by
  unfold State.passBaseline
  dsimp only
  (repeat' split) <;> simp

@[simp] theorem State.passQuiet_keeps (p raw : Nat) (r : HealthRecord) (s : State) :
    (State.passQuiet p raw r s).hm.table.length = s.hm.table.length ∧
    (State.passQuiet p raw r s).alu.switches = s.alu.switches := by
  unfold State.passQuiet
  (repeat' split) <;> simp

@[simp] theorem State.passWatch_keeps (p raw : Nat) (comp : Int) (a : Nat) (snap : Option Nat) (r : HealthRecord) (s : State) :
    (State.passWatch p raw comp a snap r s).hm.table.length = s.hm.table.length ∧
    (State.passWatch p raw comp a snap r s).alu.switches = s.alu.switches := by
  unfold State.passWatch
  dsimp only
  (repeat' split) <;> simp

@[simp] theorem State.passAlarm_keeps (p raw : Nat) (r : HealthRecord) (s : State) :
    (State.passAlarm p raw r s).hm.table.length = s.hm.table.length ∧
    (State.passAlarm p raw r s).alu.switches = s.alu.switches := by
  simp [State.passAlarm]

@[simp] theorem State.passOne_keeps (p raw : Nat) (ds : Deltas) (s : State) :
    (State.passOne p raw ds s).hm.table.length = s.hm.table.length ∧
    (State.passOne p raw ds s).alu.switches = s.alu.switches := by
  unfold State.passOne
  dsimp only
  (repeat' split) <;> simp

@[simp] theorem State.passOver_keeps (raws ps : List Nat) (ds : Deltas) (s : State) :
    (State.passOver raws ps ds s).hm.table.length = s.hm.table.length ∧
    (State.passOver raws ps ds s).alu.switches = s.alu.switches := by
  induction ps generalizing ds s with
  | nil => simp [State.passOver]
  | cons p rest ih => simp [State.passOver, ih]

@[simp] theorem State.epochPass_keeps (s : State) :
    (State.epochPass s).hm.table.length = s.hm.table.length ∧
    (State.epochPass s).mp.params = s.mp.params ∧
    (State.epochPass s).alu.switches = s.alu.switches := by
  simp [State.epochPass]

@[simp] theorem State.endEpochTimer_keeps (s : State) :
    (State.endEpochTimer s).hm.table.length = s.hm.table.length ∧
    (State.endEpochTimer s).mp.params = s.mp.params ∧
    (State.endEpochTimer s).alu.switches = s.alu.switches := by
  unfold State.endEpochTimer
  (repeat' split) <;> simp

@[simp] theorem State.takeSetRole_keeps (s : State) :
    (State.takeSetRole s).hm.table.length = s.hm.table.length ∧
    (State.takeSetRole s).mp.params = s.mp.params := by
  unfold State.takeSetRole
  (repeat' split) <;> simp

@[simp] theorem State.takeReseed_keeps (s : State) :
    (State.takeReseed s).hm.table.length = s.hm.table.length ∧
    (State.takeReseed s).mp.params = s.mp.params := by
  unfold State.takeReseed
  dsimp only
  (repeat' split) <;> simp

@[simp] theorem State.takeReadHealth_keeps (s : State) :
    (State.takeReadHealth s).mp.params = s.mp.params := by
  unfold State.takeReadHealth
  dsimp only
  (repeat' split) <;> simp

@[simp] theorem State.startCalibrate_keeps (s : State) :
    (State.startCalibrate s).hm.table.length = s.hm.table.length ∧
    (State.startCalibrate s).mp.params = s.mp.params ∧
    (State.startCalibrate s).alu.switches = s.alu.switches := by
  simp [State.startCalibrate]

@[simp] theorem State.takeCalibrate_keeps (s : State) :
    (State.takeCalibrate s).hm.table.length = s.hm.table.length ∧
    (State.takeCalibrate s).mp.params = s.mp.params ∧
    (State.takeCalibrate s).alu.switches = s.alu.switches := by
  unfold State.takeCalibrate
  (repeat' split) <;> simp

@[simp] theorem State.finishCancel_keeps (s : State) :
    (State.finishCancel s).mp.params = s.mp.params ∧
    (State.finishCancel s).alu.switches = s.alu.switches := by
  unfold State.finishCancel
  (repeat' split) <;> simp

@[simp] theorem State.reportCopy_keeps (e : CopyingEntry) (op : PortOp) (ws : List (Nat × StoredWord)) (s : State) :
    (State.reportCopy e op ws s).alu.switches = s.alu.switches := by
  unfold State.reportCopy
  (repeat' split) <;> simp

@[simp] theorem State.finishCopyRead_keeps (redo : Bool) (e : CopyingEntry) (op : PortOp) (s : State) :
    (State.finishCopyRead redo e op s).hm.table.length = s.hm.table.length ∧
    (State.finishCopyRead redo e op s).mp.params = s.mp.params ∧
    (State.finishCopyRead redo e op s).alu.switches = s.alu.switches := by
  simp [State.finishCopyRead]

@[simp] theorem State.completeCopyRead_keeps (flips : LineFlips) (s : State) :
    (State.completeCopyRead flips s).hm.table.length = s.hm.table.length ∧
    (State.completeCopyRead flips s).mp.params = s.mp.params ∧
    (State.completeCopyRead flips s).alu.switches = s.alu.switches := by
  unfold State.completeCopyRead
  (repeat' split) <;> simp

@[simp] theorem State.completeCopyWrite_keeps (s : State) :
    (State.completeCopyWrite s).mp.params = s.mp.params ∧
    (State.completeCopyWrite s).alu.switches = s.alu.switches := by
  unfold State.completeCopyWrite
  (repeat' split) <;> simp

@[simp] theorem State.reportFailure_keeps (op : PortOp) (fs : List (Nat × StoreWord × StoredWord)) (s : State) :
    (State.reportFailure op fs s).alu.switches = s.alu.switches := by
  unfold State.reportFailure
  (repeat' split) <;> simp

@[simp] theorem State.failTarget_keeps (i : Nat) (e : CopyingEntry) (s : State) :
    (State.failTarget i e s).alu.switches = s.alu.switches := by
  unfold State.failTarget
  dsimp only
  (repeat' split) <;> simp

@[simp] theorem State.commit_keeps (i : Nat) (e : CopyingEntry) (poisoned : Nat) (s : State) :
    (State.commit i e poisoned s).hm.table.length = s.hm.table.length ∧
    (State.commit i e poisoned s).mp.params = s.mp.params ∧
    (State.commit i e poisoned s).alu.switches = s.alu.switches := by
  simp [State.commit]

@[simp] theorem State.endLine_keeps (i : Nat) (e : CopyingEntry) (buffer : List StoreWord) (redo : Bool) (s : State) :
    (State.endLine i e buffer redo s).hm.table.length = s.hm.table.length ∧
    (State.endLine i e buffer redo s).mp.params = s.mp.params ∧
    (State.endLine i e buffer redo s).alu.switches = s.alu.switches := by
  unfold State.endLine
  (repeat' split) <;> simp

@[simp] theorem State.finishVerifyRead_keeps (i : Nat) (e : CopyingEntry) (buffer : List StoreWord) (redo : Bool) (op : PortOp) (s : State) :
    (State.finishVerifyRead i e buffer redo op s).hm.table.length = s.hm.table.length ∧
    (State.finishVerifyRead i e buffer redo op s).mp.params = s.mp.params ∧
    (State.finishVerifyRead i e buffer redo op s).alu.switches = s.alu.switches := by
  unfold State.finishVerifyRead
  dsimp only
  (repeat' split) <;> simp

@[simp] theorem State.completeVerifyRead_keeps (flips : LineFlips) (s : State) :
    (State.completeVerifyRead flips s).hm.table.length = s.hm.table.length ∧
    (State.completeVerifyRead flips s).mp.params = s.mp.params ∧
    (State.completeVerifyRead flips s).alu.switches = s.alu.switches := by
  unfold State.completeVerifyRead
  (repeat' split) <;> simp

@[simp] theorem State.takeRetire_keeps (s : State) :
    (State.takeRetire s).mp.params = s.mp.params := by
  unfold State.takeRetire
  dsimp only
  (repeat' split) <;> simp

@[simp] theorem State.takeCancel_keeps (s : State) :
    (State.takeCancel s).mp.params = s.mp.params ∧
    (State.takeCancel s).alu.switches = s.alu.switches := by
  unfold State.takeCancel
  (repeat' split) <;> simp

@[simp] theorem State.takeQuiesce_keeps (s : State) :
    (State.takeQuiesce s).mp.params = s.mp.params ∧
    (State.takeQuiesce s).alu.switches = s.alu.switches := by
  unfold State.takeQuiesce
  dsimp only
  (repeat' split) <;> simp

@[simp] theorem State.takeResume_keeps (s : State) :
    (State.takeResume s).mp.params = s.mp.params := by
  unfold State.takeResume
  (repeat' split) <;> simp

@[simp] theorem State.doRestore_keeps (g t : Nat) (s : State) :
    (State.doRestore g t s).hm.table.length = s.hm.table.length := by
  unfold State.doRestore
  (repeat' split) <;> simp

@[simp] theorem State.takeRestore_keeps (s : State) :
    (State.takeRestore s).hm.table.length = s.hm.table.length ∧
    (State.takeRestore s).mp.params = s.mp.params := by
  unfold State.takeRestore
  dsimp only
  (repeat' split) <;> simp

@[simp] theorem State.takeTranslate_keeps (s : State) :
    (State.takeTranslate s).mp.params = s.mp.params := by
  unfold State.takeTranslate
  dsimp only
  (repeat' split) <;> simp

@[simp] theorem State.takeReadRemap_keeps (s : State) :
    (State.takeReadRemap s).mp.params = s.mp.params := by
  unfold State.takeReadRemap
  dsimp only
  (repeat' split) <;> simp

@[simp] theorem State.takeGoOnline_keeps (s : State) :
    (State.takeGoOnline s).mp.params = s.mp.params := by
  unfold State.takeGoOnline
  (repeat' split) <;> simp

@[simp] theorem State.abortResults_keeps (s : State) :
    (State.abortResults s).mp.params = s.mp.params := by
  unfold State.abortResults
  (repeat' split) <;> simp

@[simp] theorem State.abortLong_keeps (s : State) :
    (State.abortLong s).mp.params = s.mp.params ∧
    (State.abortLong s).alu.switches = s.alu.switches := by
  unfold State.abortLong
  (repeat' split) <;> simp

@[simp] theorem State.restartTimers_keeps (s : State) :
    (State.restartTimers s).hm.table.length = s.hm.table.length := by
  unfold State.restartTimers
  (repeat' split) <;> simp

@[simp] theorem State.resetBlocks_keeps (s : State) :
    (State.resetBlocks s).alu.switches = s.alu.switches := by
  simp [State.resetBlocks, RemapCtl.engineReset]

@[simp] theorem State.engineReset_keeps (s : State) :
    (State.engineReset s).mp.params = s.mp.params ∧
    (State.engineReset s).alu.switches = s.alu.switches := by
  unfold State.engineReset
  (repeat' split) <;> simp

@[simp] theorem State.takeClearCapture_keeps (s : State) :
    (State.takeClearCapture s).mp.params = s.mp.params := by
  simp [State.takeClearCapture]

@[simp] theorem State.takeReadCapture_keeps (s : State) :
    (State.takeReadCapture s).mp.params = s.mp.params := by
  simp [State.takeReadCapture]

@[simp] theorem State.restartEpochIfWritten_keeps (t : Transfer) (s : State) :
    (State.restartEpochIfWritten t s).hm.table.length = s.hm.table.length := by
  unfold State.restartEpochIfWritten
  (repeat' split) <;> simp

@[simp] theorem State.writeSettings_keeps (t : Transfer) (s : State) :
    (State.writeSettings t s).hm.table.length = s.hm.table.length := by
  unfold State.writeSettings
  (repeat' split) <;> simp

@[simp] theorem State.writeEnables_keeps (t : Transfer) (s : State) :
    (State.writeEnables t s).mp.params = s.mp.params := by
  unfold State.writeEnables
  (repeat' split) <;> simp

@[simp] theorem State.writeAck_keeps (t : Transfer) (s : State) :
    (State.writeAck t s).mp.params = s.mp.params ∧
    (State.writeAck t s).alu.switches = s.alu.switches := by
  unfold State.writeAck
  (repeat' split) <;> simp

@[simp] theorem State.writeSetting_keeps (x : Setting) (v : BitVec 16) (s : State) :
    (State.writeSetting x v s).hm.table.length = s.hm.table.length := by
  simp [State.writeSetting]

@[simp] theorem State.unknownCode_keeps (code : Byte) (s : State) :
    (State.unknownCode code s).mp.params = s.mp.params := by
  unfold State.unknownCode State.takeCommand
  repeat' split
  all_goals simp

@[simp] theorem State.readTransfer_keeps (x : ReadTransfer) (s : State) :
    (State.readTransfer x s).mp.params = s.mp.params := by
  unfold State.readTransfer
  (repeat' split) <;> simp

theorem State.resetBlocks_table (s : State) :
    s.resetBlocks.hm.table.length = min s.rc.segs.length s.hm.table.length := by
  have h : ∀ t : State, t.restartTimers.hm.table = t.hm.table := by
    intro t
    unfold State.restartTimers
    split <;> simp
  simp [State.resetBlocks, h, HealthMonitor.engineReset, RemapCtl.engineReset]

theorem State.engineReset_table (s : State) (h : s.hm.table.length = s.rc.segs.length) :
    s.engineReset.hm.table.length = s.hm.table.length := by
  unfold State.engineReset
  split
  · rfl
  · simp [State.resetBlocks_table, h]

/-! ## A code that is taken, refused or not answered (R190) -/

/-- A code that reaches the port leaves what its body leaves, where a refusal leaves it too. -/
theorem State.takeCommand_keeps {α : Type} (f : State → α) (code : Byte) (body : State → State) (s : State)
    (hr : f (State.refuse code s) = f s) (hc : f (State.clearRefusal s) = f s) (hb : ∀ t, f (body t) = f t) :
    f (State.takeCommand code body s) = f s := by
  unfold State.takeCommand
  split_ifs
  · rfl
  · exact hr
  · rw [hb, hc]

end Sys2Proof.Machine

end

-- ==== Proofs: Effects ====
section
/-! SUPPORT. Every command as one effect on the state its event finds, what the effects do to the array and the tables, and what every step keeps of them. -/

namespace Sys2Proof.Machine

/-! ## A command is an effect on the state in which its event finds the part -/

/-- What each command does to the state in which its event finds the part. -/
def effect : Instr → State → State
  | .powerOnReset asel kept => State.powerOn asel kept
  | .initComplete => State.leaveInit
  | .requestTaken r => State.takeRequest r
  | .responseTaken => State.takeResponse
  | .requestExecute => State.executeRequest
  | .arrayGrant => State.arrayGrant
  | .demandReadComplete flips => State.completeRead flips
  | .demandMergeReadComplete flips => State.completeMergeRead flips
  | .demandWriteComplete => State.completeWrite
  | .dualWriteComplete => State.completeDual
  | .repairWriteComplete => State.completeRepair
  | .patrolReadComplete flips => State.completePatrol flips
  | .fillWriteComplete => State.completeFill
  | .verifySweepReadComplete flips => State.completeVerify flips
  | .copyReadComplete flips => State.completeCopyRead flips
  | .copyWriteComplete => State.completeCopyWrite
  | .verifyReadComplete flips => State.completeVerifyRead flips
  | .discardedCompletion => State.discardCompletion
  | .patrolTick => State.endPatrolTimer
  | .epochEnd => State.endEpochTimer
  | .holdOffEnd => State.endHoldOff
  | .migrationStart => State.migrationStart
  | .quiesceComplete => State.quiesceComplete
  | .settingsWrite t => State.writeSettings t
  | .epochExponentWrite k => State.writeSetting .epochExp (k.setWidth 16)
  | .patrolIntervalWrite which v => State.writeSetting (intervalSetting which) v
  | .enableWrite t => State.writeEnables t
  | .acknowledgeMaskWrite t => State.writeAck t
  | .unknownCommand code => State.unknownCode code
  | .goOnline => State.takeCommand 0x01 State.takeGoOnline
  | .engineReset => State.engineReset
  | .fill => State.takeCommand 0x10 State.takeFill
  | .verify => State.takeCommand 0x11 State.takeVerify
  | .retire => State.takeCommand 0x20 State.takeRetire
  | .cancelMigration => State.takeCommand 0x21 State.takeCancel
  | .quiesce => State.takeCommand 0x22 State.takeQuiesce
  | .resume => State.takeCommand 0x23 State.takeResume
  | .restore => State.takeCommand 0x30 State.takeRestore
  | .translate => State.takeCommand 0x31 State.takeTranslate
  | .readRemap => State.takeCommand 0x32 State.takeReadRemap
  | .setRole => State.takeCommand 0x40 State.takeSetRole
  | .reseed => State.takeCommand 0x41 State.takeReseed
  | .readHealth => State.takeCommand 0x42 State.takeReadHealth
  | .calibrate => State.takeCommand 0x43 State.takeCalibrate
  | .clearCapture => State.takeCommand 0x50 State.takeClearCapture
  | .readCapture => State.takeCommand 0x51 State.takeReadCapture
  | .readTransfer t => State.readTransfer t

/-- The state in which a command's event finds the part: settled, but for the four rows that are internal events themselves (log entry 3). -/
def found : Instr → State → State
  | .requestExecute, s => s
  | .arrayGrant, s => s.beginRequests.migrationStart
  | .migrationStart, s => s
  | .quiesceComplete, s => s
  | _, s => s.settle

/-- Every command is answered with its effect on the state found. -/
theorem exec_eq (c : Instr) (s : State) : exec c s = .next (effect c (found c s)) := by
  cases c <;> rfl


/-- The internal events due change neither array, settings, mode nor the sizes of the tables. -/
@[simp] theorem found_frame (c : Instr) (s : State) :
    (found c s).array = s.array ∧ (found c s).mode = s.mode ∧ (found c s).settings = s.settings ∧
    (found c s).aselPins = s.aselPins ∧ (found c s).aselLatch = s.aselLatch ∧ (found c s).rc.geometry = s.rc.geometry ∧
    (found c s).rc.segs.length = s.rc.segs.length ∧ (found c s).rc.remap.length = s.rc.remap.length ∧
    (found c s).hm = s.hm ∧ (found c s).mp.params = s.mp.params ∧ (found c s).alu.switches = s.alu.switches := by
  cases c <;> simp [found]

/-! ## What taking a code leaves (R190) -/

section
variable {code : Byte} {body : State → State} {s : State}

@[simp] theorem State.takeCommand_array (h : ∀ t, (body t).array = t.array) :
    (State.takeCommand code body s).array = s.array := State.takeCommand_keeps State.array code body s rfl rfl h

@[simp] theorem State.takeCommand_mode (h : ∀ t, (body t).mode = t.mode) :
    (State.takeCommand code body s).mode = s.mode := State.takeCommand_keeps State.mode code body s rfl rfl h

@[simp] theorem State.takeCommand_settings (h : ∀ t, (body t).settings = t.settings) :
    (State.takeCommand code body s).settings = s.settings := State.takeCommand_keeps State.settings code body s rfl rfl h

@[simp] theorem State.takeCommand_aselPins (h : ∀ t, (body t).aselPins = t.aselPins) :
    (State.takeCommand code body s).aselPins = s.aselPins := State.takeCommand_keeps State.aselPins code body s rfl rfl h

@[simp] theorem State.takeCommand_aselLatch (h : ∀ t, (body t).aselLatch = t.aselLatch) :
    (State.takeCommand code body s).aselLatch = s.aselLatch := State.takeCommand_keeps State.aselLatch code body s rfl rfl h

@[simp] theorem State.takeCommand_geometry (h : ∀ t, (body t).rc.geometry = t.rc.geometry) :
    (State.takeCommand code body s).rc.geometry = s.rc.geometry :=
  State.takeCommand_keeps (fun t => t.rc.geometry) code body s rfl rfl h

@[simp] theorem State.takeCommand_segs (h : ∀ t, (body t).rc.segs.length = t.rc.segs.length) :
    (State.takeCommand code body s).rc.segs.length = s.rc.segs.length :=
  State.takeCommand_keeps (fun t => t.rc.segs.length) code body s rfl rfl h

@[simp] theorem State.takeCommand_remap (h : ∀ t, (body t).rc.remap.length = t.rc.remap.length) :
    (State.takeCommand code body s).rc.remap.length = s.rc.remap.length :=
  State.takeCommand_keeps (fun t => t.rc.remap.length) code body s rfl rfl h

@[simp] theorem State.takeCommand_table (h : ∀ t, (body t).hm.table.length = t.hm.table.length) :
    (State.takeCommand code body s).hm.table.length = s.hm.table.length :=
  State.takeCommand_keeps (fun t => t.hm.table.length) code body s rfl rfl h

@[simp] theorem State.takeCommand_params (h : ∀ t, (body t).mp.params = t.mp.params) :
    (State.takeCommand code body s).mp.params = s.mp.params :=
  State.takeCommand_keeps (fun t => t.mp.params) code body s rfl rfl h

@[simp] theorem State.takeCommand_switches (h : ∀ t, (body t).alu.switches = t.alu.switches) :
    (State.takeCommand code body s).alu.switches = s.alu.switches :=
  State.takeCommand_keeps (fun t => t.alu.switches) code body s rfl rfl h

end

/-! ## One line of the array after a LINE_WRITE (R66) -/

/-- A LINE_WRITE leaves in word `w` of its line what it carries for it, and what was there if it carries nothing (R66). -/
theorem Memory.read_storeLine_word {m : Memory} (h : Memory.wf m) (p n w : Nat) (hw : w < 8) (ws : List (Option StoredWord)) :
    (Memory.storeLine m p n ws).read (p * 32768 + n * 8 + w) =
      (ws.getD w none).getD (m.read (p * 32768 + n * 8 + w)) := by
  have hword : (fun v => wordNumber p n v == p * 32768 + n * 8 + w) = fun v => v == w := by
    funext v
    simp [wordNumber, Config.wordsPerSegment, Config.wordsPerLine]
  have hfind : ∀ w < 8, lineWords.find? (fun v => v == w) = some w := by decide
  rw [Memory.read_storeLine h, hword, hfind w hw]

/-- A LINE_WRITE leaves every word outside its line (R66). -/
theorem Memory.read_storeLine_other {m : Memory} (h : Memory.wf m) (p n a : Nat) (ws : List (Option StoredWord))
    (ha : ∀ w < 8, a ≠ p * 32768 + n * 8 + w) : (Memory.storeLine m p n ws).read a = m.read a := by
  have hfind : lineWords.find? (fun v => wordNumber p n v == a) = none := by
    rw [List.find?_eq_none]
    intro v hv he
    exact ha v (List.mem_range.mp hv) (beq_iff_eq.mp he).symm
  rw [Memory.read_storeLine h, hfind]

/-! ## Words reach the array in the outstanding operation's line alone (R66, R68) -/

/-- `m` is the array of `s`, or that with words stored in the line of the outstanding operation. -/
def State.StoresInLine (s : State) (m : Memory) : Prop :=
  m = s.array ∨ ∃ op ws, s.aa.grant = some op ∧ m = Memory.storeLine s.array op.segment op.line ws

theorem State.StoresInLine.of_eq {s : State} {m : Memory} (h : m = s.array) : s.StoresInLine m := .inl h

theorem State.StoresInLine.flipLine {s : State} {r : Requester} {op : PortOp} (h : s.delivered r = some op) (flips : LineFlips) :
    s.StoresInLine (Memory.flipLine s.array op.segment op.line flips) :=
  .inr ⟨op, _, ((s.delivered_eq_some r op).mp h).1, rfl⟩

theorem State.StoresInLine.storeLine {s : State} {op : PortOp} (h : s.aa.grant = some op) :
    s.StoresInLine (State.storeLine op s).array := by
  unfold State.storeLine
  split
  · exact .inr ⟨op, _, h, rfl⟩
  · exact .inl rfl

theorem State.StoresInLine.delivered {s : State} {r : Requester} {op : PortOp} (h : s.delivered r = some op) :
    s.StoresInLine (State.storeLine op s).array :=
  .storeLine ((s.delivered_eq_some r op).mp h).1

theorem State.StoresInLine.wf {s : State} {m : Memory} (h : s.StoresInLine m) (hs : s.ArrayOk) : Memory.wf m := by
  obtain rfl | ⟨op, ws, -, rfl⟩ := h
  · exact hs
  · exact Memory.wf_storeLine hs _ _ _

/-- A word outside that line reads as before. -/
theorem State.StoresInLine.read {s : State} {m : Memory} (h : s.StoresInLine m) (hs : s.ArrayOk) (a : Nat)
    (ha : ∀ op, s.aa.grant = some op → ∀ w < 8, a ≠ op.segment * 32768 + op.line * 8 + w) :
    Memory.read m a = Memory.read s.array a := by
  obtain rfl | ⟨op, ws, hg, rfl⟩ := h
  · rfl
  · exact Memory.read_storeLine_other hs _ _ _ _ (ha op hg)

/-- The commands that can store words: completions and power-on reset. -/
def storesWords : Instr → Bool
  | .powerOnReset _ _ | .demandReadComplete _ | .demandMergeReadComplete _ | .demandWriteComplete | .dualWriteComplete
  | .repairWriteComplete | .patrolReadComplete _ | .fillWriteComplete | .verifySweepReadComplete _ | .copyReadComplete _
  | .copyWriteComplete | .verifyReadComplete _ | .discardedCompletion => true
  | _ => false

theorem effect_array (c : Instr) (s : State) (h : storesWords c = false) : (effect c s).array = s.array := by
  cases c <;> simp [storesWords, effect] at h ⊢

theorem found_of_storesWords (c : Instr) (s : State) (h : storesWords c = true) : found c s = s.settle := by
  cases c <;> simp [storesWords, found] at h ⊢

theorem State.powerOn_stores (asel : BitVec 2) (kept : Byte) (s : State) : s.StoresInLine (s.powerOn asel kept).array := by
  show s.StoresInLine (s.arrayAcrossReset kept)
  unfold State.arrayAcrossReset
  split
  · rename_i op hg
    split
    · exact .inr ⟨op, _, hg, rfl⟩
    · exact .of_eq rfl
  · exact .of_eq rfl

theorem State.discardCompletion_stores (s : State) : s.StoresInLine s.discardCompletion.array := by
  unfold State.discardCompletion
  split
  · rename_i op hg
    split
    · exact .of_eq rfl
    · exact .storeLine hg
  · exact .of_eq rfl

theorem State.completeRead_stores (flips : LineFlips) (s : State) : s.StoresInLine (s.completeRead flips).array := by
  unfold State.completeRead
  split
  · rename_i hd _
    simpa using .flipLine hd flips
  · exact .of_eq rfl

theorem State.completeMergeRead_stores (flips : LineFlips) (s : State) : s.StoresInLine (s.completeMergeRead flips).array := by
  unfold State.completeMergeRead
  split
  · rename_i hd _
    simpa using .flipLine hd flips
  · exact .of_eq rfl

theorem State.completeWrite_stores (s : State) : s.StoresInLine s.completeWrite.array := by
  unfold State.completeWrite
  split
  · rename_i hd _
    simpa using .delivered hd
  · exact .of_eq rfl

theorem State.completeDual_stores (s : State) : s.StoresInLine s.completeDual.array := by
  unfold State.completeDual
  split
  · rename_i hd _
    simpa using .delivered hd
  · exact .of_eq rfl

theorem State.completeRepair_stores (s : State) : s.StoresInLine s.completeRepair.array := by
  unfold State.completeRepair
  split
  · rename_i hd
    simpa using .delivered hd
  · exact .of_eq rfl

theorem State.completePatrol_stores (flips : LineFlips) (s : State) : s.StoresInLine (s.completePatrol flips).array := by
  unfold State.completePatrol
  split
  · rename_i hd _
    simpa using .flipLine hd flips
  all_goals exact .of_eq rfl

theorem State.completeFill_stores (s : State) : s.StoresInLine s.completeFill.array := by
  unfold State.completeFill
  split
  · rename_i hd _
    split
    · simpa using .delivered hd
    · exact .of_eq rfl
  · exact .of_eq rfl

theorem State.completeVerify_stores (flips : LineFlips) (s : State) : s.StoresInLine (s.completeVerify flips).array := by
  unfold State.completeVerify
  split
  · rename_i hd _
    split
    · simpa using .flipLine hd flips
    · exact .of_eq rfl
  · exact .of_eq rfl

theorem State.completeCopyRead_stores (flips : LineFlips) (s : State) : s.StoresInLine (s.completeCopyRead flips).array := by
  unfold State.completeCopyRead
  split
  · rename_i hd _
    split
    · simpa using .flipLine hd flips
    · split
      · simpa using .flipLine hd flips
      · exact .of_eq rfl
    all_goals exact .of_eq rfl
  · exact .of_eq rfl

theorem State.completeCopyWrite_stores (s : State) : s.StoresInLine s.completeCopyWrite.array := by
  unfold State.completeCopyWrite
  split
  · rename_i hd
    split
    · simpa using .delivered hd
    · split
      · simpa using .delivered hd
      · exact .of_eq rfl
    all_goals exact .of_eq rfl
  · exact .of_eq rfl

theorem State.completeVerifyRead_stores (flips : LineFlips) (s : State) :
    s.StoresInLine (s.completeVerifyRead flips).array := by
  unfold State.completeVerifyRead
  split
  · rename_i hd _
    split
    · simpa using .flipLine hd flips
    · split
      · simpa using .flipLine hd flips
      · exact .of_eq rfl
    all_goals exact .of_eq rfl
  · exact .of_eq rfl

/-- Whatever the command, words reach the array in the outstanding operation's line alone. -/
theorem effect_stores (c : Instr) (s : State) : s.StoresInLine (effect c s).array := by
  cases hc : storesWords c with
  | false => exact .of_eq (effect_array c s hc)
  | true =>
    cases c with
    | powerOnReset asel kept => exact s.powerOn_stores asel kept
    | demandReadComplete flips => exact s.completeRead_stores flips
    | demandMergeReadComplete flips => exact s.completeMergeRead_stores flips
    | demandWriteComplete => exact s.completeWrite_stores
    | dualWriteComplete => exact s.completeDual_stores
    | repairWriteComplete => exact s.completeRepair_stores
    | patrolReadComplete flips => exact s.completePatrol_stores flips
    | fillWriteComplete => exact s.completeFill_stores
    | verifySweepReadComplete flips => exact s.completeVerify_stores flips
    | copyReadComplete flips => exact s.completeCopyRead_stores flips
    | copyWriteComplete => exact s.completeCopyWrite_stores
    | verifyReadComplete flips => exact s.completeVerifyRead_stores flips
    | discardedCompletion => exact s.discardCompletion_stores
    | _ => cases hc

/-! ## One step -/

/-- `t` is `s` but for the queue of commands, the periods spent in INIT and the time the timers have left. -/
def State.SameButTime (s t : State) : Prop :=
  t = { s with
    pending := t.pending
    initElapsed := t.initElapsed
    aa := { s.aa with holdOff := t.aa.holdOff }
    se := { s.se with patrolTimer := t.se.patrolTimer }
    hm := { s.hm with epochTimer := t.hm.epochTimer } }

/-- What the passing of time, the internal events and every command's effect keep, every step keeps. -/
theorem step_keeps {P : State → Prop} (htime : ∀ s t, s.SameButTime t → P s → P t)
    (hfound : ∀ c s, P s → P (found c s)) (heffect : ∀ c s, P s → P (effect c s)) (s t : State) (hs : P s)
    (h : step s = .next t) : P t := by
  have hsettle : ∀ s : State, P s → P s.settle := hfound .holdOffEnd
  have hexpire : ∀ (f : State → Option Nat) (c : Instr) (s : State), P s → P (State.expire f (effect c) s) := by
    intro f c s hs
    unfold State.expire
    split_ifs
    · exact hsettle _ (heffect c s hs)
    · exact hs
  unfold step at h
  split at h
  · cases h
    unfold State.tick
    split_ifs
    · unfold State.initPeriod
      split_ifs
      · exact heffect .initComplete _ (hsettle s hs)
      · exact htime s.settle _ rfl (hsettle s hs)
    · exact hexpire _ .epochEnd _ (hexpire _ .patrolTick _ (hexpire _ .holdOffEnd _
        (htime s.settle _ rfl (hsettle s hs))))
  · rename_i c rest _
    rw [exec_eq] at h
    cases h
    exact heffect c _ (hfound c _ (htime s { s with pending := rest } rfl hs))

end Sys2Proof.Machine

open Sys2Proof Sys2Proof.Machine

/-- Settles O56: settling leaves the array, and every effect stores words in the one outstanding line. -/
theorem stepsKeepTheArrayCanonical : Obligations.StepsKeepTheArrayCanonical := by
  intro s t hs h
  refine step_keeps (P := State.ArrayOk) ?_ ?_ ?_ s t hs h
  · intro s t hst hs
    rw [hst]
    exact hs
  · intro c s hs
    simpa [State.ArrayOk] using hs
  · intro c s hs
    exact (effect_stores c s).wf hs

namespace Sys2Proof.Machine

/-! ## The sizes of the tables (R3, R5, R16, R107) -/

/-- Tables of the same sizes under the same geometry and mode are as well sized. -/
theorem State.TablesOk.congr {s t : State} (h : s.TablesOk) (hmode : t.mode = s.mode) (hgeo : t.rc.geometry = s.rc.geometry)
    (hremap : t.rc.remap.length = s.rc.remap.length) (hsegs : t.rc.segs.length = s.rc.segs.length)
    (htable : t.hm.table.length = s.hm.table.length) : t.TablesOk := by
  simpa [State.TablesOk, State.numP, hmode, hgeo, hremap, hsegs, htable] using h

/-- The commands that build or clear the tables, or change the mode. -/
def rebuilds : Instr → Bool
  | .powerOnReset _ _ | .initComplete | .goOnline | .engineReset => true
  | _ => false

theorem effect_sizes (c : Instr) (s : State) (h : rebuilds c = false) :
    (effect c s).mode = s.mode ∧ (effect c s).rc.geometry = s.rc.geometry ∧
    (effect c s).rc.remap.length = s.rc.remap.length ∧ (effect c s).rc.segs.length = s.rc.segs.length ∧
    (effect c s).hm.table.length = s.hm.table.length := by
  cases c <;> simp [rebuilds, effect] at h ⊢

theorem State.reset_tablesOk : State.reset.TablesOk := ⟨rfl, rfl, rfl, fun _ => rfl⟩

theorem State.leaveInit_tablesOk (s : State) (h : s.TablesOk) : s.leaveInit.TablesOk := by
  unfold State.leaveInit
  split_ifs with hm
  · obtain ⟨hremap, hsegs, htable, hgeo⟩ := h
    exact ⟨hremap, hsegs, htable, fun _ => hgeo (by simp [hm])⟩
  · exact h

/-- A valid geometry has fewer spares than segments (R189). -/
theorem spares_le_of_valid {p n : Nat} (h : validGeometry p n = true) : n ≤ p := by
  simp [validGeometry] at h
  omega

theorem freshSegments_length {p n : Nat} (h : n ≤ p) : (freshSegments p n).length = p := by
  simp [freshSegments]
  omega

theorem State.startOnline_tablesOk {p n : Nat} (s : State) (h : n ≤ p) : (State.startOnline p n s).TablesOk := by
  simp [State.TablesOk, State.numP, State.startOnline, freshHealth, freshSegments_length h]

theorem State.takeGoOnline_tablesOk (s : State) (h : s.TablesOk) : s.takeGoOnline.TablesOk := by
  unfold State.takeGoOnline
  split_ifs with hm hv
  · exact h.congr rfl rfl rfl rfl rfl
  · exact (s.startOnline_tablesOk (spares_le_of_valid hv)).congr rfl rfl rfl rfl rfl
  · exact h.congr rfl rfl rfl rfl rfl

/-- A code taken keeps what its body keeps, where a refusal and the clearing of one keep it. -/
theorem State.takeCommand_holds {P : State → Prop} (code : Byte) (body : State → State) (s : State) (hs : P s)
    (hr : P (State.refuse code s)) (hb : P (body (State.clearRefusal s))) : P (State.takeCommand code body s) := by
  unfold State.takeCommand
  split_ifs <;> assumption

theorem State.engineReset_tablesOk (s : State) (h : s.TablesOk) : s.engineReset.TablesOk := by
  obtain ⟨-, hsegs, htable, -⟩ := id h
  exact h.congr (by simp) (by simp) (by simp) (by simp) (s.engineReset_table (htable.trans hsegs.symm))

theorem effect_tablesOk (c : Instr) (s : State) (h : s.TablesOk) : (effect c s).TablesOk := by
  cases hc : rebuilds c with
  | false =>
    obtain ⟨hmode, hgeo, hremap, hsegs, htable⟩ := effect_sizes c s hc
    exact h.congr hmode hgeo hremap hsegs htable
  | true =>
    cases c with
    | powerOnReset asel kept => exact State.reset_tablesOk.congr rfl rfl rfl rfl rfl
    | initComplete => exact s.leaveInit_tablesOk h
    | goOnline =>
      exact s.takeCommand_holds 0x01 _ h (h.congr rfl rfl rfl rfl rfl)
        (s.clearRefusal.takeGoOnline_tablesOk (h.congr rfl rfl rfl rfl rfl))
    | engineReset => exact s.engineReset_tablesOk h
    | _ => cases hc

end Sys2Proof.Machine

/-- Settles O58: every effect keeps the sizes but those of the four commands that rebuild, which build well-sized tables. -/
theorem stepsKeepTheTablesSized : Obligations.StepsKeepTheTablesSized := by
  intro s t hs h
  refine step_keeps (P := State.TablesOk) ?_ ?_ ?_ s t hs h
  · intro s t hst hs
    rw [hst]
    exact hs.congr rfl rfl rfl rfl rfl
  · intro c s hs
    exact hs.congr (by simp) (by simp) (by simp) (by simp) (by simp)
  · exact effect_tablesOk

end

-- ==== Proofs: Frames ====
section
/-! SUPPORT. What only certain commands change. -/

namespace Sys2Proof.Machine

/-! ## What only certain commands change (R185, R186, R188) -/

theorem MgmtPort.params_inj {m n : MgmtPort} (h : m.params = n.params) :
    m.param0 = n.param0 ∧ m.param1 = n.param1 ∧ m.param2 = n.param2 ∧ m.param3 = n.param3 := by
  simpa [MgmtPort.params] using h

theorem AlertUnit.switches_inj {a b : AlertUnit} (h : a.switches = b.switches) : a.enables = b.enables ∧ a.master = b.master := by
  simpa [AlertUnit.switches] using h

/-- The commands that can write settings or parameters. -/
def writesSettings : Instr → Bool
  | .powerOnReset _ _ | .settingsWrite _ | .epochExponentWrite _ | .patrolIntervalWrite _ _ => true
  | _ => false

theorem effect_settings (c : Instr) (s : State) (h : writesSettings c = false) :
    (effect c s).settings = s.settings ∧ (effect c s).mp.params = s.mp.params := by
  cases c <;> simp [writesSettings, effect] at h ⊢

/-- The commands that can write enables. -/
def writesSwitches : Instr → Bool
  | .powerOnReset _ _ | .enableWrite _ => true
  | _ => false

theorem effect_switches (c : Instr) (s : State) (h : writesSwitches c = false) :
    (effect c s).alu.switches = s.alu.switches := by
  cases c <;> simp [writesSwitches, effect] at h ⊢

/-- The commands that can change the part's mode. -/
def changesMode : Instr → Bool
  | .powerOnReset _ _ | .initComplete | .goOnline => true
  | _ => false

theorem effect_mode (c : Instr) (s : State) (h : changesMode c = false) :
    (effect c s).mode = s.mode ∧ (effect c s).rc.geometry = s.rc.geometry ∧ (effect c s).aselLatch = s.aselLatch ∧
    (effect c s).aselPins = s.aselPins := by
  cases c <;> simp [changesMode, effect] at h ⊢

/-- A command that is no completion leaves the array (R68). -/
theorem answered_array (c : Instr) (s : State) (h : storesWords c = false) : (effect c (found c s)).array = s.array := by
  rw [effect_array c _ h, (found_frame c s).1]

/-- Outside the outstanding operation's line every word of the array stays (R66, R68). -/
theorem answered_read (c : Instr) (s : State) (hs : s.ArrayOk) (a : Nat)
    (ha : ∀ op, s.settle.aa.grant = some op → ∀ w < 8, a ≠ op.segment * 32768 + op.line * 8 + w) :
    Memory.read (effect c (found c s)).array a = Memory.read s.array a := by
  cases hc : storesWords c with
  | false => rw [answered_array c s hc]
  | true =>
    have hsettled : s.settle.ArrayOk := by simpa [State.ArrayOk] using hs
    rw [found_of_storesWords c s hc, (effect_stores c s.settle).read hsettled a ha]
    simp

/-- Settings and parameters change by the settings' writes and power-on reset alone (R185, R188). -/
theorem answered_settings (c : Instr) (s : State) (h : writesSettings c = false) :
    (effect c (found c s)).settings = s.settings ∧ (effect c (found c s)).mp.param0 = s.mp.param0 ∧
    (effect c (found c s)).mp.param1 = s.mp.param1 ∧ (effect c (found c s)).mp.param2 = s.mp.param2 ∧
    (effect c (found c s)).mp.param3 = s.mp.param3 := by
  obtain ⟨hset, hpar⟩ := effect_settings c (found c s) h
  exact ⟨by simpa using hset, MgmtPort.params_inj (by simpa using hpar)⟩

/-- The enables change by ENABLE_WRITE and power-on reset alone (R179, R188). -/
theorem answered_switches (c : Instr) (s : State) (h : writesSwitches c = false) :
    (effect c (found c s)).alu.enables = s.alu.enables ∧ (effect c (found c s)).alu.master = s.alu.master :=
  AlertUnit.switches_inj (by simpa using effect_switches c (found c s) h)

/-- Mode, geometry and pins change by the resets and mode changes alone (R183, R188, R189). -/
theorem answered_mode (c : Instr) (s : State) (h : changesMode c = false) :
    (effect c (found c s)).mode = s.mode ∧ (effect c (found c s)).rc.geometry = s.rc.geometry ∧
    (effect c (found c s)).aselLatch = s.aselLatch ∧ (effect c (found c s)).aselPins = s.aselPins := by
  simpa using effect_mode c (found c s) h

end Sys2Proof.Machine

open Sys2Proof Sys2Proof.Machine

/-- Settles O55: each clause is a fact about the effects, carried back over the internal events that come before. -/
theorem commandsKeepWhatTheyDoNotName : Obligations.CommandsKeepWhatTheyDoNotName := by
  intro c s t h
  rw [exec_eq] at h
  cases h
  refine ⟨answered_read c s, ?_, ?_, ?_, ?_⟩
  · cases c with
    | powerOnReset | demandReadComplete | demandMergeReadComplete | demandWriteComplete | dualWriteComplete
    | repairWriteComplete | patrolReadComplete | fillWriteComplete | verifySweepReadComplete | copyReadComplete
    | copyWriteComplete | verifyReadComplete | discardedCompletion => trivial
    | _ => exact answered_array _ s rfl
  · cases c with
    | powerOnReset | settingsWrite | epochExponentWrite | patrolIntervalWrite => trivial
    | _ => exact answered_settings _ s rfl
  · cases c with
    | powerOnReset | enableWrite => trivial
    | _ => exact answered_switches _ s rfl
  · cases c with
    | powerOnReset | initComplete | goOnline => trivial
    | _ => exact answered_mode _ s rfl

end

-- ==== Proofs: PowerOnReset ====
section
/-! SUPPORT. The state after power-on reset, and POWER_ON_RESET. -/

namespace Sys2Proof.Machine

/-! ## The state after power-on reset (R188) -/

/-- RESET_SEEN alone is set after a reset (R182). -/
theorem AlertUnit.isSet_resetSeen (enables : BitVec 12) (master : Bool) (c : Cause) :
    AlertUnit.isSet ⟨Cause.resetSeen.mask, enables, master⟩ c = true ↔ c = .resetSeen := by
  cases c <;> simp [AlertUnit.isSet, Cause.mask, Cause.bit]

theorem State.reset_queuesOk : State.reset.QueuesOk := by
  simp [State.QueuesOk, LineLink.Ok, RepairUnit.Ok, MigEngine.QueueOk, State.reset, MgmtPort.reset]

theorem State.reset_remap (e : RemapEntry) (h : e ∈ State.reset.rc.remap) : e = .free := List.eq_of_mem_replicate h

theorem State.reset_migrationOk : State.reset.MigrationOk := ⟨by decide, fun _ => rfl⟩

/-- Every default lies in its range (R195). -/
theorem Settings.reset_ok : Settings.reset.Ok := by
  intro x
  cases x <;> decide

/-- Before ONLINE no segment has a role but what an absent one counts as (R5). -/
theorem State.reset_seg (p : Nat) : State.reset.seg p = ⟨.retired, false⟩ := rfl

theorem State.reset_remapOk : State.reset.RemapOk := by
  refine ⟨State.reset_tablesOk, State.reset_migrationOk, ?_, fun _ => ⟨State.reset_remap, rfl, rfl⟩, ?_, ?_, ⟨?_, ?_, ?_⟩, ?_, ?_, ?_⟩
  · intro g hg
    cases hg
  · intro e he
    rw [State.reset_remap e he]
    trivial
  · refine List.pairwise_replicate.mpr (.inr ⟨?_, ?_⟩) <;> intro x hx <;> cases hx
  · intro p hp
    cases hp
  · intro p _ hp
    rw [State.reset_seg] at hp
    cases hp
  · intro p hp
    rw [State.reset_seg] at hp
    cases hp
  · intro x hx
    cases hx
  · exact List.nodup_nil
  · intro x hx
    cases hx

/-! ## POWER_ON_RESET (R64) -/

theorem keptWords_getD (kept : Byte) (ws : List (Option StoredWord)) (w : Nat) (hw : w < 8) :
    (keptWords kept ws).getD w none = if kept.getLsbD w then ws.getD w none else none := by
  have : lineWords[w]? = some w := by
    simp [lineWords, hw]
  simp [keptWords, List.getD_eq_getElem?_getD, this]

end Sys2Proof.Machine

open Sys2Proof Sys2Proof.Machine

/-- Settles O5: the reset state's fields are as written, and its one cause flag is RESET_SEEN. -/
theorem resetValues : Obligations.ResetValues := by
  refine ⟨rfl, rfl, rfl, rfl, rfl, rfl, rfl, rfl, rfl, rfl, rfl, rfl, rfl, rfl, rfl, rfl, rfl, rfl, rfl, rfl, rfl, rfl, rfl,
    rfl, AlertUnit.isSet_resetSeen 0 false, rfl, rfl, rfl, rfl, ?_⟩
  exact ⟨rfl, rfl, rfl, rfl, rfl, rfl, rfl, rfl, rfl, rfl, rfl, rfl, rfl, rfl⟩

/-- Settles O6: the reset state's lists are empty or FREE throughout. -/
theorem resetMeetsTheInvariants : Obligations.ResetMeetsTheInvariants := by
  refine ⟨⟨.nil, nofun⟩, State.reset_queuesOk, State.reset_tablesOk, State.reset_migrationOk, ⟨Settings.reset_ok, nofun⟩,
    nofun, State.reset_remapOk⟩

/-- Settles O7: of an outstanding LINE_WRITE the words `kept` names are stored, and all else is the reset state. -/
theorem powerOnResetRestoresInitialState : Obligations.PowerOnResetRestoresInitialState := by
  rintro asel kept s u rfl
  refine ⟨_, exec_eq _ _, rfl, fun hg => ?_, fun op hg hw => ?_, fun op ws hg hw hok a => ?_⟩
  · simp [effect, found, State.powerOn, State.arrayAcrossReset, hg]
  · simp [effect, found, State.powerOn, State.arrayAcrossReset, hg, hw]
  · have harray : (effect (.powerOnReset asel kept) (found (.powerOnReset asel kept) s)).array =
        Memory.storeLine s.settle.array op.segment op.line (keptWords kept ws) := by
      simp only [effect, found, State.powerOn, State.arrayAcrossReset, hg, hw]
    rw [harray]
    refine ⟨?_, Memory.read_storeLine_other hok _ _ _ _⟩
    rintro w hw rfl
    rw [Memory.read_storeLine_word hok _ _ _ hw, keptWords_getD kept ws w hw]
    split_ifs <;> rfl

end

-- ==== Proofs: GoOnline ====
section
/-! SUPPORT. GO_ONLINE, and how a code is taken. -/

namespace Sys2Proof.Machine

/-! ## A command taken (R190) -/

/-- With no long command running, outside INIT, a code is taken with its body. -/
theorem exec_taken {c : Instr} {code : Byte} {body : State → State} {s u : State} (hc : exec c s = s.event (State.takeCommand code body))
    (hs : s.settle = u) (hmode : u.mode ≠ .init) (hbusy : u.mp.busy = false) : exec c s = .next (body u.clearRefusal) := by
  rw [hc, State.event, hs, State.takeCommand_free code body u hmode hbusy]

/-! ## GO_ONLINE (R189) -/

theorem validGeometry_iff (p n : Nat) :
    validGeometry p n = true ↔ (p = 256 ∨ p = 512 ∨ p = 768 ∨ p = 1024) ∧ n ≤ 32 ∧ n ≤ p / 8 := by
  simp [validGeometry, and_assoc]

/-- The records R5 gives the segments of a part that goes online. -/
theorem freshSegments_getD {p n : Nat} (q : Nat) (hn : n ≤ p) (hq : q < p) :
    (freshSegments p n).getD q ⟨.retired, false⟩ = ⟨if q < p - n then .inUse else .spareFree, false⟩ := by
  unfold freshSegments
  by_cases h : q < p - n
  · simp [List.getD_eq_getElem?_getD, List.getElem?_append, h]
  · have : q - (p - n) < n := by omega
    simp [List.getD_eq_getElem?_getD, List.getElem?_append, h, this]

end Sys2Proof.Machine

open Sys2Proof Sys2Proof.Machine

/-- Settles O9: the three branches of GO_ONLINE as it is taken. -/
theorem goOnlineBuildsTheTables : Obligations.GoOnlineBuildsTheTables := by
  intro s u hs hbusy
  have htaken : u.mode ≠ .init → exec .goOnline s = .next u.clearRefusal.takeGoOnline :=
    fun hmode => exec_taken rfl hs hmode hbusy
  refine ⟨fun hmode => ?_, fun hmode hv => ?_, fun hmode hv => ⟨u.clearRefusal.takeGoOnline, htaken (by simp [hmode]), ?_⟩⟩
  · rw [htaken (by simp [hmode])]
    simp [State.takeGoOnline, hmode, State.completeImmediate, State.clearRefusal]
  · rw [← validGeometry_iff] at hv
    rw [htaken (by simp [hmode])]
    simp [State.takeGoOnline, hmode, hv, State.completeImmediate, State.clearRefusal]
  · rw [← validGeometry_iff] at hv
    have hn : u.settings.geomS ≤ u.settings.geomP := spares_le_of_valid hv
    have ht : u.clearRefusal.takeGoOnline =
        State.completeImmediate 0x01 .ok (State.startOnline u.settings.geomP u.settings.geomS u.clearRefusal) := by
      simp [State.takeGoOnline, hmode, hv]
    rw [ht]
    refine ⟨rfl, rfl, rfl, freshSegments_length hn, fun p hp => freshSegments_getD p hn hp, rfl, rfl, rfl, rfl, rfl⟩

end

-- ==== Proofs: EngineReset ====
section
/-! SUPPORT. ENGINE_RESET, block by block. -/

namespace Sys2Proof.Machine

/-! ## The executing request's slot among the others (R47, R48) -/

/-- The slots before and after the executing one stay as it is replaced. -/
theorem map_replaceExec_of_none (x : Slot) (q : List Slot) (h : ∀ y ∈ q, y.exec? = none) : q.map x.replaceExec = q := by
  have hfix : ∀ y ∈ q, x.replaceExec y = id y := by
    intro y hy
    cases y with
    | executing r ph step => exact absurd (h _ hy) (by simp [Slot.exec?])
    | waiting r => rfl
    | answered resp => rfl
  rw [List.map_congr_left hfix, List.map_id]

theorem findSome_exec (pre post : List Slot) (r : Request) (ph : DemandPhase) (step : DemandStep)
    (h : ∀ y ∈ pre, y.exec? = none) : (pre ++ Slot.executing r ph step :: post).findSome? Slot.exec? = some (r, ph, step) := by
  rw [List.findSome?_append, List.findSome?_eq_none_iff.mpr h]
  rfl

/-- With no segment under fill, nothing is held (R61). -/
theorem State.holdTest_raised (s : State) (r : Request) (h : s.underFill = none) : s.holdTest r = .raised := by
  rcases s.holdTest_cases r with hheld | hraised
  · obtain ⟨g, -, hg⟩ := (s.holdTest_held r).mp hheld
    rw [h] at hg
    cases hg
  · exact hraised

/-- Two states with the same fields are the same. -/
theorem State.eq_of_fields {s t : State} (h : s.pending = t.pending ∧ s.mode = t.mode ∧ s.aselPins = t.aselPins ∧
    s.aselLatch = t.aselLatch ∧ s.initElapsed = t.initElapsed ∧ s.settings = t.settings ∧ s.mp = t.mp ∧ s.lli = t.lli ∧
    s.rc = t.rc ∧ s.me = t.me ∧ s.se = t.se ∧ s.ru = t.ru ∧ s.aa = t.aa ∧ s.hm = t.hm ∧ s.fcu = t.fcu ∧ s.alu = t.alu ∧
    s.array = t.array) : s = t := by
  cases s
  cases t
  simpa using h

/-! ## ENGINE_RESET, block by block (R194) -/

/-- The delivery mark after an engine reset (R76). -/
theorem PortOp.acrossReset_eq (op : PortOp) : op.acrossReset =
    { op with deliver := if op.requester = .migration ∨ op.requester = .sweep then false else op.deliver } := by
  obtain ⟨q, segment, line, write, deliver⟩ := op
  cases q <;> rfl

/-- The blocks' own resets, before the sweep, the timers and the requests (R8, R27, R76, R77, R105, R132, R172, R182). -/
def State.enginesReset (s : State) : State :=
  { s with
    aa := s.aa.engineReset
    rc := s.rc.engineReset
    me := ⟨[], .idle, .none, false⟩
    ru := { s.ru with queue := [] }
    hm := s.hm.engineReset s.rc.engineReset.segs
    fcu := .reset
    alu := s.alu.engineReset }

theorem State.resetBlocks_eq (s : State) :
    s.resetBlocks = s.enginesReset.resetSweep.restartTimers.dropDual.retestHold := rfl

theorem State.restartTimers_se (s : State) : s.restartTimers.se =
    { s.se with patrolTimer := if s.mode = .online then loadTimer s.pace else s.se.patrolTimer } := by
  unfold State.restartTimers
  split_ifs
  · simp [State.pace]
  · rfl

theorem State.restartTimers_hm (s : State) : s.restartTimers.hm =
    { s.hm with epochTimer := if s.mode = .online then some (1000 * 2 ^ s.settings.epochExp) else s.hm.epochTimer } := by
  unfold State.restartTimers
  split_ifs
  · simp
  · rfl

/-- A calibration under way ends with an engine reset (R144). -/
theorem HealthMonitor.engineReset_active (segs : List SegRecord) (h : HealthMonitor) :
    (h.engineReset segs).cal.active = false := by
  unfold HealthMonitor.engineReset
  cases ha : h.cal.active <;> simp [ha]

/-- After an engine reset the patrol's pace is the patrol interval (R89, R144). -/
theorem State.enginesReset_pace (s : State) : s.enginesReset.resetSweep.pace = s.settings.patrolInterval := by
  simp [State.pace, State.enginesReset, HealthMonitor.engineReset_active]

/-- What a revert leaves of a COPYING entry (R25, R27). -/
theorem CopyingEntry.reverted_eq (e : CopyingEntry) : e.reverted =
    if e.previous = .free then .free else .active ⟨e.logical, e.current, e.origin, e.poisoned, e.restarts⟩ := by
  unfold CopyingEntry.reverted
  cases e.previous <;> rfl

theorem RemapEntry.engineReset_of_settled {x : RemapEntry} (h : x.copying? = none) : x.engineReset = x := by
  cases x with
  | copying e => cases h
  | free => rfl
  | active e => rfl

/-- The record of an eligible segment is fresh, any other UNTRACKED (R132). -/
theorem healthAfterReset_engineReset (x : SegRecord) (r : HealthRecord) : healthAfterReset x.engineReset r =
    ⟨if x.role = .inUse ∧ x.filled = true then .quiet else .untracked, r.role, 0, 0, 0, 0, .none, 0⟩ := by
  obtain ⟨role, filled⟩ := x
  cases role <;> cases filled <;> rfl

@[simp] theorem State.resetBlocks_fields (s : State) :
    s.resetBlocks.aa = s.aa.engineReset ∧ s.resetBlocks.rc = s.rc.engineReset ∧ s.resetBlocks.me = ⟨[], .idle, .none, false⟩ ∧
    s.resetBlocks.ru = ⟨[], s.ru.record⟩ ∧ s.resetBlocks.fcu = .reset ∧ s.resetBlocks.alu = s.alu.engineReset := by
  simp [State.resetBlocks_eq, State.enginesReset]

theorem State.resetBlocks_hm (s : State) :
    s.resetBlocks.hm = { s.hm.engineReset s.rc.engineReset.segs with
      epochTimer := if s.mode = .online then some (1000 * 2 ^ s.settings.epochExp) else s.hm.epochTimer } := by
  simp [State.resetBlocks_eq, State.restartTimers_hm]
  simp [State.enginesReset, HealthMonitor.engineReset]

theorem State.resetBlocks_se (s : State) :
    s.resetBlocks.se =
      { mode := .patrol
        cursorSegment := s.enginesReset.firstEligible.getD 0
        cursorLine := 0
        patrolPending := .none
        patrolTimer := if s.mode = .online then loadTimer s.settings.patrolInterval else s.se.patrolTimer } := by
  have hse : s.enginesReset.resetSweep.se =
      ⟨.patrol, s.enginesReset.firstEligible.getD 0, 0, .none, s.se.patrolTimer⟩ := rfl
  have hmode : s.enginesReset.resetSweep.mode = s.mode := rfl
  simp only [State.resetBlocks_eq, State.retestHold_frame, State.dropDual_fields, State.restartTimers_se, State.enginesReset_pace,
    hse, hmode]

/-- The record of a segment after an engine reset (R8). -/
theorem State.enginesReset_seg (s : State) (p : Nat) : s.enginesReset.seg p = (s.seg p).engineReset :=
  List.getD_map s.rc.segs ⟨.retired, false⟩ SegRecord.engineReset

/-- An engine reset makes no segment eligible and none ineligible (R8, R90). -/
theorem State.enginesReset_eligible (s : State) (p : Nat) : s.enginesReset.eligible p = s.eligible p := by
  simp only [State.eligible, State.enginesReset_seg, SegRecord.engineReset]
  cases hr : (s.seg p).role <;> simp [hr]

theorem State.eligible_iff (s : State) (p : Nat) : s.eligible p = true ↔ (s.seg p).role = .inUse ∧ (s.seg p).filled = true := by
  simp [State.eligible]

/-- A segment beyond the table is not eligible. -/
theorem State.lt_of_eligible (s : State) (p : Nat) (h : s.eligible p = true) : p < s.rc.segs.length := by
  by_contra hp
  have : s.rc.segs[p]? = none := List.getElem?_eq_none (by omega)
  simp [State.eligible, State.seg, List.getD_eq_getElem?_getD, this] at h

/-- The lowest eligible segment, where there is one (R105). -/
theorem State.firstEligible_eq_some (s : State) (p : Nat) (hp : s.eligible p = true) (hq : ∀ q < p, s.eligible q = false) :
    s.firstEligible = some p := by
  simp only [State.firstEligible, List.find?_range_eq_some, List.mem_range]
  exact ⟨hp, s.lt_of_eligible p hp, fun q hqp => by simp [hq q hqp]⟩

theorem State.firstEligible_eq_none (s : State) (h : ∀ p, s.eligible p = false) : s.firstEligible = none := by
  simp [State.firstEligible, h]

/-- The record of `p` after an engine reset (R132). -/
theorem State.resetBlocks_health (s : State) (p : Nat) (hp : p < s.rc.segs.length) (ht : p < s.hm.table.length) :
    s.resetBlocks.health p = healthAfterReset (s.seg p).engineReset (s.health p) := by
  simp [State.health, State.seg, State.resetBlocks_hm, HealthMonitor.engineReset, RemapCtl.engineReset,
    List.getD_eq_getElem?_getD, hp, ht]

/-- With nothing executing, or with its operation outstanding, the fill hold has nothing to test (R61, R62). -/
theorem State.retestHold_of_none (s : State) (h : s.executing = none) : s.retestHold = s := by
  simp [State.retestHold, h]

theorem State.retestHold_of_outstanding (s : State) {r : Request} {ph : DemandPhase} {g : Nat} {d : Option Nat}
    (h : s.executing = some (r, ph, .outstanding g d)) : s.retestHold = s := by
  simp [State.retestHold, h]

/-- An operation not yet issued is held or raised by the hold's test (R61, R62). -/
theorem State.retestHold_of_waiting (s : State) {r : Request} {ph : DemandPhase} {step : DemandStep}
    (h : s.executing = some (r, ph, step)) (hstep : step = .held ∨ step = .raised) :
    s.retestHold = State.putExec (.executing r ph (s.holdTest r)) s := by
  rcases hstep with rfl | rfl <;> simp [State.retestHold, h]

/-- Before the hold is tested again: the dual writes dropped, nothing under fill (R26, R65, R105). -/
def State.duelessReset (s : State) : State := s.enginesReset.resetSweep.restartTimers.dropDual

theorem State.duelessReset_facts (s : State) : s.duelessReset.retestHold = s.resetBlocks ∧ s.duelessReset.underFill = none ∧
    s.duelessReset.lli = { s.lli with queue := s.lli.queue.map Slot.withoutDual } := by
  refine ⟨rfl, ?_, by simp [State.duelessReset, State.enginesReset]⟩
  have hse : s.duelessReset.se.mode = .patrol := by
    simp [State.duelessReset, State.restartTimers_se, State.resetSweep]
  simp [State.underFill, hse]

/-- An idle queue is untouched by an engine reset (R65). -/
theorem State.resetBlocks_queue_idle (s : State) (h : ∀ x ∈ s.lli.queue, x.exec? = none) :
    s.resetBlocks.lli.queue = s.lli.queue := by
  obtain ⟨hreset, -, hlli⟩ := s.duelessReset_facts
  have hq : s.duelessReset.lli.queue = s.lli.queue := by simp [hlli, map_withoutDual _ h]
  have hx : s.duelessReset.executing = none := by
    unfold State.executing
    rw [hq, List.findSome?_eq_none_iff.mpr h]
  rw [← hreset, State.retestHold_of_none _ hx, hq]

section
variable {s : State} {pre post : List Slot} {r : Request} {ph : DemandPhase} {step : DemandStep}

theorem State.duelessReset_queue (hq : s.lli.queue = pre ++ Slot.executing r ph step :: post)
    (hnone : ∀ x ∈ pre ++ post, x.exec? = none) :
    s.duelessReset.lli.queue = pre ++ (Slot.executing r ph step).withoutDual :: post := by
  have hpre : pre.map Slot.withoutDual = pre := map_withoutDual _ fun x hx => hnone x (List.mem_append_left _ hx)
  have hpost : post.map Slot.withoutDual = post := map_withoutDual _ fun x hx => hnone x (List.mem_append_right _ hx)
  simp [s.duelessReset_facts.2.2, hq, hpre, hpost]

/-- An outstanding operation goes on, with no dual write to come (R26, R65). -/
theorem State.resetBlocks_queue_outstanding {g : Nat} {d : Option Nat}
    (hq : s.lli.queue = pre ++ Slot.executing r ph (.outstanding g d) :: post) (hnone : ∀ x ∈ pre ++ post, x.exec? = none) :
    s.resetBlocks.lli.queue = pre ++ Slot.executing r ph (.outstanding g none) :: post := by
  have hdrop := State.duelessReset_queue hq hnone
  have hx : s.duelessReset.executing = some (r, ph, .outstanding g none) := by
    unfold State.executing
    rw [hdrop]
    exact findSome_exec _ _ _ _ _ fun x hx => hnone x (List.mem_append_left _ hx)
  rw [← s.duelessReset_facts.1, State.retestHold_of_outstanding _ hx, hdrop]
  rfl

/-- An operation not yet issued is raised: nothing is under fill any more (R65). -/
theorem State.resetBlocks_queue_waiting (hq : s.lli.queue = pre ++ Slot.executing r ph step :: post)
    (hnone : ∀ x ∈ pre ++ post, x.exec? = none) (hstep : step = .held ∨ step = .raised) :
    s.resetBlocks.lli.queue = pre ++ Slot.executing r ph .raised :: post := by
  have hpre : ∀ x ∈ pre, x.exec? = none := fun x hx => hnone x (List.mem_append_left _ hx)
  have hpost : ∀ x ∈ post, x.exec? = none := fun x hx => hnone x (List.mem_append_right _ hx)
  have hslot : (Slot.executing r ph step).withoutDual = .executing r ph step := by
    rcases hstep with rfl | rfl <;> rfl
  have hdrop := State.duelessReset_queue hq hnone
  rw [hslot] at hdrop
  have hx : s.duelessReset.executing = some (r, ph, step) := by
    unfold State.executing
    rw [hdrop]
    exact findSome_exec _ _ _ _ _ hpre
  obtain ⟨hreset, hfill, -⟩ := s.duelessReset_facts
  rw [← hreset, State.retestHold_of_waiting _ hx hstep, State.holdTest_raised _ _ hfill]
  simp [hdrop, map_replaceExec_of_none _ _ hpre, map_replaceExec_of_none _ _ hpost, Slot.replaceExec]

end

/-- The link keeps its held-off requests and its number of slots (R65). -/
theorem State.resetBlocks_link (s : State) :
    s.resetBlocks.lli.heldOff = s.lli.heldOff ∧ s.resetBlocks.lli.queue.length = s.lli.queue.length := by
  obtain ⟨hreset, -, hlli⟩ := s.duelessReset_facts
  obtain ⟨heq, hlen⟩ := s.duelessReset.retestHold_link
  rw [hreset] at heq hlen
  rw [hlli] at hlen
  refine ⟨?_, by simpa using hlen⟩
  rw [heq]
  simp [hlli]

/-! ## The command block of an ENGINE_RESET with no long command running (R194) -/

theorem State.abortLong_idle (s : State) (h : s.mp.busy = false) : s.abortLong = s := by
  simp [State.abortLong, h]

theorem State.engineReset_eq (s : State) (h : s.mode ≠ .init) :
    s.engineReset = State.completeImmediate 0x02 .ok s.abortLong.resetBlocks.clearRefusal := by
  have hb : ∀ t : State, t.resetBlocks.mp = t.mp := fun t => by simp
  simp [State.engineReset, State.mpAnswers, h, State.completeImmediate, State.clearRefusal]

/-- The blocks after an ENGINE_RESET, whatever long command it aborts (R194). -/
theorem State.engineReset_blocks (s : State) (h : s.mode ≠ .init) :
    s.engineReset.aa = s.aa.engineReset ∧ s.engineReset.rc = s.rc.engineReset ∧
    s.engineReset.me = ⟨[], .idle, .none, false⟩ ∧ s.engineReset.ru = ⟨[], s.ru.record⟩ ∧
    s.engineReset.fcu = .reset ∧ s.engineReset.alu = s.abortLong.alu.engineReset ∧
    s.engineReset.hm = s.abortLong.resetBlocks.hm ∧ s.engineReset.se = s.abortLong.resetBlocks.se ∧
    s.engineReset.lli = s.abortLong.resetBlocks.lli := by
  simp [s.engineReset_eq h]

/-- The cursor after an ENGINE_RESET: line 0 of the lowest eligible segment, or of segment 0 (R105). -/
theorem State.engineReset_cursor (s : State) (h : s.mode ≠ .init) :
    s.engineReset.se.mode = .patrol ∧ s.engineReset.se.patrolPending = .none ∧ s.engineReset.se.cursorLine = 0 ∧
    (∀ p, s.eligible p = true → (∀ q < p, s.eligible q = false) → s.engineReset.se.cursorSegment = p) ∧
    ((∀ p, s.eligible p = false) → s.engineReset.se.cursorSegment = 0) := by
  obtain ⟨-, -, -, -, -, -, -, hse, -⟩ := s.engineReset_blocks h
  have helig : s.abortLong.enginesReset.eligible = s.eligible := by
    funext p
    rw [State.enginesReset_eligible]
    simp [State.eligible, State.seg]
  rw [hse, State.resetBlocks_se]
  refine ⟨rfl, rfl, rfl, fun p hp hq => ?_, fun hnone => ?_⟩
  · simp [State.firstEligible_eq_some _ p (helig ▸ hp) (helig ▸ hq)]
  · simp [State.firstEligible_eq_none _ (helig ▸ hnone)]

/-- A record after an ENGINE_RESET (R132). -/
theorem State.engineReset_health (s : State) (h : s.mode ≠ .init) (p : Nat) (hp : p < s.rc.segs.length)
    (ht : p < s.hm.table.length) : s.engineReset.health p =
      ⟨if (s.seg p).role = .inUse ∧ (s.seg p).filled = true then .quiet else .untracked, (s.health p).role,
        0, 0, 0, 0, .none, 0⟩ := by
  obtain ⟨-, -, -, -, -, -, hhm, -, -⟩ := s.engineReset_blocks h
  have hhealth : s.engineReset.health p = s.abortLong.resetBlocks.health p := State.health_congr (by rw [hhm]) p
  rw [hhealth, State.resetBlocks_health _ p (by simpa using hp) (by simpa using ht), healthAfterReset_engineReset]
  simp [State.seg, State.health]

end Sys2Proof.Machine

open Sys2Proof Sys2Proof.Machine

/-- Settles O10: after the abort, which touches the command block alone, each block's reset. -/
theorem engineResetResetsTheEngines : Obligations.EngineResetResetsTheEngines := by
  intro s u hs hmode
  have hexec : exec .engineReset s = .next u.engineReset := by
    rw [exec_eq, ← hs]
    rfl
  have hblocks := u.engineReset_blocks hmode
  obtain ⟨haa, hrc, hme, hru, hfcu, halu, hhm, hse, hlli⟩ := hblocks
  refine ⟨_, hexec, ?_, ?_, ?_, ?_, ?_, ?_, ?_, ?_, ?_, ?_, ?_, hme, hru, hfcu, ?_, ?_, u.engineReset_health hmode, ?_, ?_, ?_, ?_,
    ?_, ?_, ?_, ?_, ?_, ?_⟩
  · exact State.eq_of_fields (by simp)
  · intro hb
    simp [u.engineReset_eq hmode, State.abortLong_idle u hb]
  · rw [haa]
    rfl
  · rw [haa]
    rfl
  · intro hg
    simp [haa, Arbiter.engineReset, hg]
  · intro op hg
    simp [haa, Arbiter.engineReset, hg, PortOp.acrossReset_eq]
  · rw [hrc]
    rfl
  · rw [hrc]
    rfl
  · intro i e he
    simp [hrc, RemapCtl.engineReset, he, RemapEntry.engineReset, CopyingEntry.reverted_eq]
  · intro i x hx hcopy
    simp [hrc, RemapCtl.engineReset, hx, RemapEntry.engineReset_of_settled hcopy]
  · simp [hrc, RemapCtl.engineReset]
  · simpa [← State.eligible_iff] using u.engineReset_cursor hmode
  · simp [hhm, State.resetBlocks_hm, HealthMonitor.engineReset]
  · intro ho
    simp [hhm, State.resetBlocks_hm, ho]
  · intro ho
    simp [hse, State.resetBlocks_se, ho, loadTimer]
  · intro ho
    simp [hse, hhm, State.resetBlocks_se, State.resetBlocks_hm, ho, HealthMonitor.engineReset]
  · intro c
    rw [halu]
    exact AlertUnit.isSet_resetSeen _ _ c
  · exact (AlertUnit.switches_inj u.engineReset_keeps.2).1
  · exact (AlertUnit.switches_inj u.engineReset_keeps.2).2
  · simpa [hlli] using u.abortLong.resetBlocks_link.1
  · simpa [hlli] using u.abortLong.resetBlocks_link.2
  · intro hnone
    simpa [hlli] using u.abortLong.resetBlocks_queue_idle (by simpa using hnone)
  · intro pre r ph step post hq hnone
    rw [hlli]
    refine ⟨fun g d hstep => ?_, fun hstep => ?_⟩
    · subst hstep
      exact State.resetBlocks_queue_outstanding (s := u.abortLong) (by simpa using hq) hnone
    · exact State.resetBlocks_queue_waiting (s := u.abortLong) (by simpa using hq) hnone hstep

end

-- ==== Proofs: DemandWrite ====
section
/-! SUPPORT. A grant to a demand LINE_WRITE. -/

namespace Sys2Proof.Machine

/-! ## A grant to DEMAND (R70, R71) -/

/-- With DEMAND raised, and the fairness count below its limit or no other requester eligible, DEMAND is chosen. -/
theorem State.choice_demand (s : State) (h : s.demandRaised = true) (hf : s.aa.fairness < 8 ∨ s.backgroundChoice = none) :
    s.choice = some .demand := by
  unfold State.choice
  rw [if_pos h, if_neg]
  rcases hf with hf | hf
  · simp [Nat.not_le_of_lt hf]
  · simp [hf]

/-- A DEMAND request chosen whose operation is issued takes the grant. -/
theorem State.arrayGrant_demand (s : State) (hfree : s.aa.grant = none) (hc : s.choice = some .demand) {op : PortOp}
    (hg : s.grantDemand.aa.grant = some op) : s.arrayGrant = s.grantDemand := by
  simp [State.arrayGrant, hfree, State.chooseFrom_turn, hc, hg]

/-! ## The redo mark (R60, R158) -/

/-- A state of the line loop with its redo mark set. -/
def MigState.marked : MigState → MigState
  | .idle => .idle
  | .copyRead _ => .copyRead true
  | .copyWrite b _ => .copyWrite b true
  | .verifyRead b _ => .verifyRead b true
  | .cancelling => .cancelling

/-- A write to the line of the migration in progress gives the ME its redo mark. -/
theorem State.markRedo_same {s : State} {i : Nat} {e : CopyingEntry} (h : s.copying = some (i, e)) :
    (s.markRedo e.current e.cursor).me = { s.me with state := s.me.state.marked } := by
  have hstay : s.me.state.marked = s.me.state → s.me = { s.me with state := s.me.state.marked } := fun hm => by rw [hm]
  unfold State.markRedo
  simp only [h, and_self, if_true]
  cases hst : s.me.state with
  | idle => simpa [hst, MigState.marked] using hstay
  | cancelling => simpa [hst, MigState.marked] using hstay
  | copyRead redo => rfl
  | copyWrite b redo => rfl
  | verifyRead b redo => rfl

/-- A write anywhere else gives none. -/
theorem State.markRedo_other {p n : Nat} {s : State} (h : ∀ i e, s.copying = some (i, e) → e.current ≠ p ∨ e.cursor ≠ n) :
    s.markRedo p n = s := by
  unfold State.markRedo
  split
  · rename_i i e he
    rw [if_neg]
    exact fun hline => (h i e he).elim (· hline.1) (· hline.2)
  · rfl

/-- An ME that is cancelling gets none. -/
theorem State.markRedo_cancelling {p n : Nat} {s : State} (h : s.me.state = .cancelling) : s.markRedo p n = s := by
  unfold State.markRedo
  simp only [h]
  split
  · split_ifs <;> rfl
  · rfl

/-- The mark touches neither the Retire Queue, the step nor the quiesced flag. -/
theorem State.markRedo_me (p n : Nat) (s : State) :
    (s.markRedo p n).me.queue = s.me.queue ∧ (s.markRedo p n).me.step = s.me.step ∧
    (s.markRedo p n).me.quiesced = s.me.quiesced := by
  unfold State.markRedo
  repeat' split
  all_goals exact ⟨rfl, rfl, rfl⟩

/-! ## The dual write (R59) -/

theorem State.dualTarget_below {s : State} {i n : Nat} {e : CopyingEntry} (h : s.copying = some (i, e)) (hn : n < e.cursor) :
    s.dualTarget e.current n = some e.target := by
  simp [State.dualTarget, h, hn]

theorem State.dualTarget_none {s : State} {p n : Nat}
    (h : ∀ i e, s.copying = some (i, e) → e.current ≠ p ∨ e.cursor ≤ n) : s.dualTarget p n = none := by
  unfold State.dualTarget
  split
  · rename_i i e he
    rw [if_neg]
    exact fun hline => (h i e he).elim (· hline.1) (Nat.not_le_of_lt hline.2)
  · rfl

/-! ## A demand LINE_WRITE issued (R55, R59, R60, R83) -/

/-- The state in which the redo mark is judged: the slot outstanding, the covered repair entries removed. -/
def State.writeIssued (r : Request) (store : LineStore) (failed : Option (Nat × BadClass)) (g p n : Nat) (s : State) : State :=
  State.removeCovered p n (LineStore.encode store)
    (State.putExec (.executing r (.write store failed) (.outstanding g (s.dualTarget p n))) s)

theorem State.issueDemand_write (r : Request) (store : LineStore) (failed : Option (Nat × BadClass)) (g : Nat) (s : State) :
    State.issueDemand r (.write store failed) g s =
      State.issue .demand (s.physOf g) (requestLine r.address) (some (LineStore.encode store))
        (State.markRedo (s.physOf g) (requestLine r.address)
          (State.writeIssued r store failed g (s.physOf g) (requestLine r.address) s)) := rfl

/-- What the redo mark looks at is as it was before the write. -/
@[simp] theorem State.writeIssued_fields (r : Request) (store : LineStore) (failed : Option (Nat × BadClass)) (g p n : Nat)
    (s : State) : (s.writeIssued r store failed g p n).me = s.me ∧
      (s.writeIssued r store failed g p n).copying = s.copying := ⟨rfl, rfl⟩

theorem State.issueDemand_write_fields (r : Request) (store : LineStore) (failed : Option (Nat × BadClass)) (g : Nat)
    (s : State) :
    let t := State.issueDemand r (.write store failed) g s
    let p := s.physOf g
    let n := requestLine r.address
    t.aa = { s.aa with
      grant := some ⟨.demand, p, n, some (LineStore.encode store), true⟩, fairness := min 8 (s.aa.fairness + 1) } ∧
    t.lli = { s.lli with
      queue := s.lli.queue.map (Slot.executing r (.write store failed) (.outstanding g (s.dualTarget p n))).replaceExec } ∧
    t.ru = { s.ru with queue := s.ru.queue.filter fun e =>
      !(e.addr.segment == p && e.addr.line == n && ((LineStore.encode store).getD e.addr.word none).isSome) } := by
  simp only [State.issueDemand_write, State.issue_fields, State.markRedo_frame]
  exact ⟨rfl, rfl, rfl⟩

end Sys2Proof.Machine

open Sys2Proof Sys2Proof.Machine

/-- Settles O17: the arbiter chooses DEMAND, and what the write's issue leaves is the sum of the slot, the record, the removal and the mark. -/
theorem demandWriteIsGranted : Obligations.DemandWriteIsGranted := by
  intro r store failed g s u hs hfree hx ht hf p n words
  have hraised : u.demandRaised = true := by simp [State.demandRaised, hx]
  have hgrant : u.grantDemand = State.issueDemand r (.write store failed) g u := by
    simp [State.grantDemand, hx, ht]
  have hexec : exec .arrayGrant s = .next (State.issueDemand r (.write store failed) g u) := by
    rw [exec_eq, ← hgrant, ← u.arrayGrant_demand hfree (u.choice_demand hraised hf) (by rw [hgrant]; rfl), ← hs]
    rfl
  have hme : (State.issueDemand r (.write store failed) g u).me =
      (State.markRedo p n (u.writeIssued r store failed g p n)).me := rfl
  have hother : (∀ i e, u.copying = some (i, e) → e.current ≠ p ∨ e.cursor ≠ n) →
      (State.issueDemand r (.write store failed) g u).me = u.me := fun h => by
    rw [hme, State.markRedo_other (by simpa using h)]
    rfl
  obtain ⟨haa, hlli, hru⟩ := State.issueDemand_write_fields r store failed g u
  obtain ⟨hqueue, hstep, hquiesced⟩ := State.markRedo_me p n (u.writeIssued r store failed g p n)
  refine ⟨_, u.dualTarget p n, hexec, State.eq_of_fields ?_, haa, hlli, by rw [hru], by rw [hru]; rfl, ?_, fun hc => ?_, fun i e hc h => ?_, hqueue, hstep, hquiesced,
    ?_, fun i e hc h => ?_, fun hcancel => ?_, fun hc => ?_⟩
  · simp
  · rintro i e hc hp hn
    rw [← hp]
    exact State.dualTarget_below hc hn
  · exact State.dualTarget_none (by simp [hc])
  · exact State.dualTarget_none fun i' e' hc' => by
      cases hc.symm.trans hc'
      exact h
  · rintro i e b redo hc hp hn
    rw [hme, ← hp, ← hn, State.markRedo_same (by simpa using hc)]
    refine ⟨fun hst => ?_, fun hst => ?_, fun hst => ?_⟩ <;> simp [hst, MigState.marked]
  · exact hother fun i' e' hc' => by
      cases hc.symm.trans hc'
      exact h
  · rw [hme, State.markRedo_cancelling (by simpa using hcancel)]
    rfl
  · exact hother (by simp [hc])

end

-- ==== Proofs: FillWrite ====
section
/-! SUPPORT. Completions delivered, the fill hold tested again, and a FILL write done. -/

namespace Sys2Proof.Machine

/-! ## The outstanding operation delivered (R67) -/

theorem State.delivered_of {s : State} {r : Requester} {op : PortOp} (hg : s.aa.grant = some op) (hr : op.requester = r)
    (hd : op.deliver = true) : s.delivered r = some op := (s.delivered_eq_some r op).mpr ⟨hg, hr, hd⟩

theorem State.storeLine_eq {s : State} {op : PortOp} {ws : List (Option StoredWord)} (h : op.write = some ws) :
    State.storeLine op s = { s with array := Memory.storeLine s.array op.segment op.line ws } := by
  simp [State.storeLine, h]

/-- The tables do not depend on the array. -/
@[simp] theorem State.tables_array (m : Memory) (s : State) (p : Nat) :
    State.seg { s with array := m } p = s.seg p ∧ State.health { s with array := m } p = s.health p ∧
    State.physOf { s with array := m } p = s.physOf p := ⟨rfl, rfl, rfl⟩

/-! ## The fill hold tested again (R61, R62) -/

/-- The translation depends on the settings and the geometry alone (R35). -/
theorem State.translate_congr {s t : State} (hset : t.settings = s.settings) (hgeo : t.rc.geometry = s.rc.geometry) :
    t.translate = s.translate := by
  funext c a
  have hL : t.numL = s.numL := by rw [State.numL, hgeo, State.numL]
  unfold State.translate State.boundLogical
  rw [hset, hL]

/-- A held or raised operation is tested against the segment now under fill, in a state that translates as before. -/
theorem State.retestHold_retests {u v t : State} {fill : Option Nat} (hlli : v.lli = u.lli) (htr : v.translate = u.translate)
    (hfill : v.underFill = fill) (ht : t.lli = v.retestHold.lli) : HoldRetested fill u t := by
  subst hfill
  have hx : v.executing = u.executing := by rw [State.executing, hlli, State.executing]
  have hput : ∀ r ph step, u.executing = some (r, ph, step) → step = .held ∨ step = .raised →
      t.lli.queue = u.lli.queue.map (Slot.executing r ph (v.holdTest r)).replaceExec := by
    intro r ph step he hstep
    rw [ht, State.retestHold_of_waiting v (hx.trans he) hstep]
    simp [hlli]
  refine ⟨?_, fun r ph step he hstep => ⟨fun hheld => ?_, fun hraised => ?_⟩, fun r ph g d he => ?_, fun he => ?_⟩
  · rw [ht, v.retestHold_link.1, ← hlli]
  · have htest : v.holdTest r = .held := (v.holdTest_held r).mpr (htr ▸ hheld)
    rw [hput r ph step he hstep, htest]
  · have htest : v.holdTest r = .raised :=
      (v.holdTest_cases r).resolve_left fun h => hraised (htr ▸ (v.holdTest_held r).mp h)
    rw [hput r ph step he hstep, htest]
  · rw [ht, State.retestHold_of_outstanding v (hx.trans he), hlli]
  · rw [ht, State.retestHold_of_none v (hx.trans he), hlli]

/-! ## A segment filled (R99) -/

theorem AlertUnit.set_commandDone (a : AlertUnit) : a.set .commandDone = { a with causes := a.causes ||| 0x800 } := by
  have hmask : Cause.commandDone.mask = 0x800 := by decide
  rw [AlertUnit.set, hmask]

theorem fillResults_eq (n : Nat) : fillResults n = BitVec.ofNat 16 n :: List.replicate 7 0xFFFF := rfl

/-- The segment under fill recorded as filled, its record fresh. -/
def State.fillDone (pos : SweepPos) (s : State) : State := State.freshen pos.physical (State.setFilled pos.physical true s)

/-- The FILL completed, before the hold is tested again. -/
def State.fillEnded (run : SweepRun) (pos : SweepPos) (s : State) : State :=
  State.completeLong .ok (State.leaveResults (fillResults (run.count + 1)) (State.endSweep (s.fillDone pos)))

/-- The next segment under fill, before the hold is tested again. -/
def State.fillNext (run : SweepRun) (pos : SweepPos) (s : State) : State :=
  { s.fillDone pos with
    se := { s.se with
      mode := .fill ⟨run.first, run.last, run.count + 1, some ⟨pos.logical + 1, s.physOf (pos.logical + 1), 0⟩, .raised⟩ } }

@[simp] theorem State.fillEnded_fields (run : SweepRun) (pos : SweepPos) (s : State) :
    (s.fillEnded run pos).pending = s.pending ∧ (s.fillEnded run pos).mode = s.mode ∧ (s.fillEnded run pos).aselPins = s.aselPins ∧
    (s.fillEnded run pos).aselLatch = s.aselLatch ∧ (s.fillEnded run pos).initElapsed = s.initElapsed ∧ (s.fillEnded run pos).settings = s.settings ∧
    (s.fillEnded run pos).lli = s.lli ∧ (s.fillEnded run pos).me = s.me ∧ (s.fillEnded run pos).ru = s.ru ∧ (s.fillEnded run pos).aa = s.aa ∧
    (s.fillEnded run pos).fcu = s.fcu ∧ (s.fillEnded run pos).array = s.array ∧
    (s.fillEnded run pos).rc = { s.rc with segs := s.rc.segs.set pos.physical ⟨(s.seg pos.physical).role, true⟩ } ∧
    (s.fillEnded run pos).hm = { s.hm with
      table := s.hm.table.set pos.physical ⟨.quiet, (s.health pos.physical).role, 0, 0, 0, 0, .none, 0⟩ } ∧
    (s.fillEnded run pos).se = { s.se with mode := .patrol } ∧
    (s.fillEnded run pos).mp = { s.mp with
      lastOutcome := .ok, longOutcome := .ok, busy := false
      results := BitVec.ofNat 16 (run.count + 1) :: List.replicate 7 0xFFFF } ∧
    (s.fillEnded run pos).alu = { s.alu with causes := s.alu.causes ||| 0x800 } ∧ (s.fillEnded run pos).underFill = none :=
  by simp [State.fillEnded, State.fillDone, HealthRecord.fresh, State.health, State.seg, State.underFill, fillResults_eq,
    AlertUnit.set_commandDone]

@[simp] theorem State.fillNext_fields (run : SweepRun) (pos : SweepPos) (s : State) :
    (s.fillNext run pos).pending = s.pending ∧ (s.fillNext run pos).mode = s.mode ∧ (s.fillNext run pos).aselPins = s.aselPins ∧
    (s.fillNext run pos).aselLatch = s.aselLatch ∧ (s.fillNext run pos).initElapsed = s.initElapsed ∧ (s.fillNext run pos).settings = s.settings ∧
    (s.fillNext run pos).lli = s.lli ∧ (s.fillNext run pos).me = s.me ∧ (s.fillNext run pos).ru = s.ru ∧ (s.fillNext run pos).aa = s.aa ∧
    (s.fillNext run pos).fcu = s.fcu ∧ (s.fillNext run pos).array = s.array ∧
    (s.fillNext run pos).rc = { s.rc with segs := s.rc.segs.set pos.physical ⟨(s.seg pos.physical).role, true⟩ } ∧
    (s.fillNext run pos).hm = { s.hm with
      table := s.hm.table.set pos.physical ⟨.quiet, (s.health pos.physical).role, 0, 0, 0, 0, .none, 0⟩ } ∧
    (s.fillNext run pos).se = { s.se with
      mode := .fill ⟨run.first, run.last, run.count + 1, some ⟨pos.logical + 1, s.physOf (pos.logical + 1), 0⟩, .raised⟩ } ∧
    (s.fillNext run pos).mp = s.mp ∧
    (s.fillNext run pos).alu = s.alu ∧ (s.fillNext run pos).underFill = some (pos.logical + 1) := by
  simp [State.fillNext, State.fillDone, HealthRecord.fresh, State.health, State.seg, State.underFill]

theorem State.completeFillSegment_last (run : SweepRun) (pos : SweepPos) (s : State) (h : pos.logical = run.last) :
    s.completeFillSegment run pos = (s.fillEnded run pos).retestHold := by
  simp only [State.completeFillSegment, if_pos h]
  rfl

theorem State.completeFillSegment_next (run : SweepRun) (pos : SweepPos) (s : State) (h : pos.logical ≠ run.last) :
    s.completeFillSegment run pos = (s.fillNext run pos).retestHold := by
  simp only [State.completeFillSegment, if_neg h]
  rfl

end Sys2Proof.Machine

open Sys2Proof Sys2Proof.Machine

/-- Settles O28: the line's write counts, and a segment's last one fills it; only then is the hold tested again. -/
theorem fillAdvancesAndCompletes : Obligations.FillAdvancesAndCompletes := by
  intro op ws run pos s u hs hg hreq hdel hw hmode hpos hstep array
  have hexec : exec .fillWriteComplete s =
      .next (State.freePort (State.advanceFill run pos { u with array := array })) := by
    rw [exec_eq, show effect .fillWriteComplete (found .fillWriteComplete s) = u.completeFill from by rw [← hs]; rfl]
    simp only [State.completeFill, State.delivered_of hg hreq hdel, hmode, hpos, hstep, State.storeLine_eq hw]
    rfl
  by_cases hline : pos.line + 1 < 4096
  · refine ⟨fun _ => ?_, fun h => absurd hline (by omega)⟩
    rw [hexec]
    simp [State.advanceFill, hline, State.freePort]
  · refine ⟨fun h => absurd hline (by omega), fun _ => ⟨_, hexec, ?_⟩⟩
    rw [State.advanceFill, if_neg hline]
    by_cases hlast : pos.logical = run.last
    · rw [State.completeFillSegment_last run pos _ hlast]
      refine ⟨State.eq_of_fields (by simp), by simp, by simp, fun _ => ⟨by simp, ?_, by simp, by simp⟩, fun h => absurd hlast h⟩
      have htr : (State.fillEnded run pos { u with array := array }).translate = u.translate :=
        State.translate_congr (by simp) (by simp)
      exact State.retestHold_retests (by simp) htr (by simp) (by simp)
    · rw [State.completeFillSegment_next run pos _ hlast]
      refine ⟨State.eq_of_fields (by simp), by simp, by simp, fun h => absurd h hlast, fun _ => ⟨by simp, by simp, ?_, by simp⟩⟩
      have htr : (State.fillNext run pos { u with array := array }).translate = u.translate :=
        State.translate_congr (by simp) (by simp)
      exact State.retestHold_retests (by simp) htr (by simp) (by simp)

end

-- ==== Proofs: MergeRead ====
section
/-! SUPPORT. A merge read: the words merged, handled and reported. -/

namespace Sys2Proof.Machine

/-! ## A partial word merged (R1, R56) -/

/-- A byte's eight bits in place `j` of a word. -/
theorem getLsbD_byteMask (j k : Nat) (hk : k < 64) : (0xFF#64 <<< (8 * j)).getLsbD k = decide (k / 8 = j) := by
  have hbyte : ∀ i, (0xFF#64).getLsbD i = decide (i < 8) := by
    intro i
    rw [BitVec.getLsbD_ofNat]
    have := Nat.testBit_two_pow_sub_one 8 i
    simp only [Nat.reducePow, Nat.reduceSub] at this
    rw [this]
    by_cases h : i < 8 <;> simp [h]
    omega
  rw [BitVec.getLsbD_shiftLeft, hbyte]
  by_cases h : k / 8 = j
  · simp [h, hk]
    omega
  · simp [h, hk]
    omega

/-- The mask has the bits of the enabled bytes. -/
theorem getLsbD_enableMask (en : Byte) (k : Nat) (hk : k < 64) : (enableMask en).getLsbD k = en.getLsbD (k / 8) := by
  have hfold : ∀ js : List Nat,
      (js.foldr (fun j m => if en.getLsbD j then m ||| (0xFF#64 <<< (8 * j)) else m) 0).getLsbD k =
        (decide (k / 8 ∈ js) && en.getLsbD (k / 8)) := by
    intro js
    induction js with
    | nil => simp
    | cons j rest ih =>
      rw [List.foldr_cons]
      by_cases hj : k / 8 = j
      · subst hj
        cases hen : en.getLsbD (k / 8)
        · simpa [hen] using ih
        · simp [getLsbD_byteMask _ k hk]
      · cases hen : en.getLsbD j
        · simpa [hj] using ih
        · simpa [hj, getLsbD_byteMask _ k hk] using ih
  rw [enableMask, hfold]
  have : k / 8 < 8 := by omega
  simp [this]

/-- Bit by bit, the enabled bytes are the new word's and the others the old one's. -/
theorem getLsbD_mergeBytes (old new : Word) (en : Byte) (k : Nat) (hk : k < 64) :
    (mergeBytes old new en).getLsbD k = if en.getLsbD (k / 8) then new.getLsbD k else old.getLsbD k := by
  rw [mergeBytes, BitVec.getLsbD_or, BitVec.getLsbD_and, BitVec.getLsbD_and, BitVec.getLsbD_not, getLsbD_enableMask en k hk]
  cases en.getLsbD (k / 8) <;> simp [hk]

/-- What the LINE_WRITE of a read-modify-write carries for word `w` (R56 to R58). -/
theorem mergedStore_getD (r : Request) (line : List StoredWord) (w : Nat) (hw : w < 8) :
    (r.mergedStore line).getD w none =
      if r.fullWord w then some (.data (r.wordAt w).data)
      else if r.partialWord w then some (mergeWord (r.wordAt w) (line.getD w StoredWord.zero))
      else none := by
  have hget : lineWords[w]? = some w := by simp [lineWords, hw]
  simp [Request.mergedStore, List.getD_eq_getElem?_getD, hget]

/-! ## The words a read hands to the Check Unit (R52, R57) -/

/-- Word `w` of a line read. -/
theorem Memory.line_getD (m : Memory) (p n w : Nat) (hw : w < 8) :
    (Memory.line m p n).getD w StoredWord.zero = m.read (p * 32768 + n * 8 + w) := by
  have hget : lineWords[w]? = some w := by simp [lineWords, hw]
  simp [Memory.line, List.getD_eq_getElem?_getD, hget, wordNumber]

/-- Selected words of a line, each with its number. -/
theorem selectWords_line (sel : Nat → Bool) (m : Memory) (p n : Nat) :
    selectWords sel (Memory.line m p n) =
      (lineWords.filter sel).map fun w => (w, m.read (p * 32768 + n * 8 + w)) := by
  refine List.map_congr_left fun w hw => ?_
  rw [Memory.line_getD m p n w (List.mem_range.mp (List.mem_filter.mp hw).1)]

/-- Selected words ascend. -/
theorem lineWords_filter_ascend (sel : Nat → Bool) : (lineWords.filter sel).Pairwise (· < ·) :=
  List.Pairwise.filter _ List.pairwise_lt_range

/-- The lowest word that cannot be delivered, with its class, among ascending words. -/
theorem firstBad_map_eq_some (f : Nat → StoredWord) (ws : List Nat) (hs : ws.Pairwise (· < ·)) (w : Nat) (c : BadClass) :
    ((firstBad (ws.map fun w => (w, f w))).map fun x => (x.1, x.2.2)) = some (w, c) ↔
      w ∈ ws ∧ badClass (f w) = some c ∧ ∀ v ∈ ws, v < w → badClass (f v) = none := by
  induction ws with
  | nil => simp [firstBad]
  | cons v rest ih =>
    obtain ⟨hv, hrest⟩ := List.pairwise_cons.mp hs
    simp only [List.map_cons, firstBad]
    cases hbad : badClass (f v) with
    | some d =>
      simp only [Option.map_some, Option.some.injEq, Prod.mk.injEq]
      constructor
      · rintro ⟨rfl, rfl⟩
        refine ⟨List.mem_cons_self, hbad, fun x hx hxv => ?_⟩
        rcases List.mem_cons.mp hx with rfl | hx
        · omega
        · have := hv x hx
          omega
      · rintro ⟨hw, hc, hlow⟩
        rcases List.mem_cons.mp hw with rfl | hw
        · exact ⟨rfl, by simpa using hbad.symm.trans hc⟩
        · have := hlow v List.mem_cons_self (hv w hw)
          rw [hbad] at this
          cases this
    | none =>
      rw [ih hrest]
      constructor
      · rintro ⟨hw, hc, hlow⟩
        refine ⟨List.mem_cons_of_mem _ hw, hc, fun x hx hxw => ?_⟩
        rcases List.mem_cons.mp hx with rfl | hx
        · exact hbad
        · exact hlow x hx hxw
      · rintro ⟨hw, hc, hlow⟩
        rcases List.mem_cons.mp hw with rfl | hw
        · rw [hbad] at hc
          cases hc
        · exact ⟨hw, hc, fun x hx => hlow x (List.mem_cons_of_mem _ hx)⟩

/-! ## What a read's words do, in the state the completion leaves -/

/-- A fault report raises a cause of its own and leaves COMMAND_DONE (R175). -/
theorem State.report_alu (r : FaultReport) (s : State) : s.KeepsCauses (State.report r s) ∧
    (State.report r s).alu.isSet .commandDone = s.alu.isSet .commandDone := by
  have hcause : ∀ c, s.fcu.cause r = some c → c ≠ .commandDone := by
    intro c hc
    unfold FaultCapture.cause at hc
    repeat' split at hc
    all_goals cases hc
    all_goals simp
  rw [State.report_eq]
  cases hc : s.fcu.cause r with
  | none => exact ⟨.of_alu rfl, rfl⟩
  | some c => exact ⟨.of_set (d := c) rfl, by simp [AlertUnit.isSet_set, hcause c hc]⟩

theorem State.reportWords_alu (mk : FaultKind → Nat → Byte → FaultReport) (ws : List (Nat × StoredWord)) (s : State) :
    s.KeepsCauses (State.reportWords mk ws s) ∧
    (State.reportWords mk ws s).alu.isSet .commandDone = s.alu.isSet .commandDone := by
  unfold State.reportWords
  repeat' split
  · exact State.report_alu _ s
  · exact State.report_alu _ s
  all_goals exact ⟨.of_alu rfl, rfl⟩

/-- The words of a read leave the fairness count (R71, R73). -/
theorem State.handleWords_fairness (offer : Bool) (p line : Nat) (ws : List (Nat × StoredWord)) (s : State) :
    (State.handleWords offer p line ws s).aa.fairness = s.aa.fairness := by
  have hword : ∀ w x (s : State), (State.handleWord offer p line w x s).aa.fairness = s.aa.fairness := by
    intro w x s
    unfold State.handleWord
    split
    · rfl
    · rfl
    · split <;> simp
    · simp only [State.uncorrectableReport_frame]
      unfold State.startHoldOff
      split <;> rfl
  induction ws generalizing s with
  | nil => rfl
  | cons x rest ih => rw [State.handleWords_cons, ih, hword]

/-- Everything a read's words do beside the fault report (R52, R57, R73, R109, R124 to R126, R142, R143). -/
def ReadEffects (p : Nat) (word : Nat → StoredWord) (ws : List Nat) (u t : State) : Prop :=
  CountsCorrected p word ws u t ∧ HandlesUncorrectable p word ws u t ∧ CountsCalibration p word ws u t ∧
    CompletesCalibrate p word ws u t ∧ RechecksPatrol p word ws u t ∧ OffersRetirement p word ws u t

theorem State.handleWords_effects (offer : Bool) (p line : Nat) (f : Nat → StoredWord) (ws : List Nat) (s : State) :
    ReadEffects p f ws s (State.handleWords offer p line (ws.map fun w => (w, f w)) s) := by
  obtain ⟨hcounts, hmet⟩ := State.handleWords_handles offer p line f ws s
  obtain ⟨hcal, hdone, hpatrol⟩ := State.handleWords_calibrates offer p line f ws s
  exact ⟨hcounts, hmet, hcal, hdone, hpatrol, State.handleWords_retires offer p line f ws s⟩

/-- The effects are those on the state with the line's changes not yet in the array, and stay as the report is made, the response formed and the port freed. -/
theorem ReadEffects.carried {p : Nat} {word : Nat → StoredWord} {ws : List Nat} {u h : State} {m : Memory}
    (heff : ReadEffects p word ws { u with array := m } h) {fcu : FaultCapture} {alu : AlertUnit} {lli : LineLink}
    {grant : Option PortOp} (hkeep : ∀ c, h.alu.isSet c = true → alu.isSet c = true)
    (hdone : alu.isSet .commandDone = h.alu.isSet .commandDone) :
    ReadEffects p word ws u { h with fcu := fcu, alu := alu, lli := lli, aa := { h.aa with grant := grant } } := by
  obtain ⟨hcounts, ⟨hold, hold', halarm, hrec, hothers⟩, hcal, ⟨hends, hstays⟩, hpatrol, hretire, hnone⟩ := heff
  refine ⟨hcounts, ⟨hold, hold', fun hm ho => ⟨hkeep _ (halarm hm ho).1, (halarm hm ho).2⟩, hrec, hothers⟩, hcal,
    ⟨fun he => ⟨hkeep _ (hends he).1, (hends he).2⟩, fun he => ⟨(hstays he).1, hdone.trans (hstays he).2⟩⟩, hpatrol, ?_, hnone⟩
  intro hm ho
  obtain ⟨hme, hrc, hspare⟩ := hretire hm ho
  have halike : State.StartsAlike { u with aa := { u.aa with holdOff := h.aa.holdOff } }
      { u with array := m, aa := { u.aa with holdOff := h.aa.holdOff } } := ⟨rfl, rfl, rfl, rfl, rfl, rfl, id⟩
  obtain ⟨-, -, hrc', hme', -, -, hspare'⟩ := halike.offer p
  exact ⟨hme.trans hme', hrc.trans hrc', fun hs => hkeep _ (hspare (hspare' hs))⟩

/-- The report is that of the state before, where the Fault Capture Unit and the settings are still as they were. -/
theorem ReportsLowest.carried {mk : FaultKind → Nat → FaultReport} {word : Nat → StoredWord} {ws : List Nat} {u h k t : State}
    (hr : ReportsLowest mk word ws h k) (hfcu : h.fcu = u.fcu) (hset : h.settings = u.settings) (hfcu' : t.fcu = k.fcu)
    (halu : t.alu = k.alu) : ReportsLowest mk word ws u t := by
  unfold ReportsLowest at hr ⊢
  rw [hfcu', halu, ← hfcu, ← hset]
  exact hr

/-- The words of a read leave the sweep's mode (R95). -/
theorem State.handleWords_sweepMode (offer : Bool) (p line : Nat) (f : Nat → StoredWord) (ws : List Nat) (s : State) :
    (State.handleWords offer p line (ws.map fun w => (w, f w)) s).se.mode = s.se.mode := by
  obtain ⟨-, -, hends, hstays⟩ := State.handleWords_calibrates offer p line f ws s
  by_cases he : EndsCalibration p f ws s
  · rw [(hends he).1]
  · rw [hstays he]

end Sys2Proof.Machine

namespace Sys2Proof.Machine

/-! ## DEMAND_MERGE_READ_COMPLETE (R56 to R58) -/

/-- A partial word over a word that can be delivered is merged, bit by bit (R56). -/
theorem mergeWord_delivered (x : WriteWord) (old : StoredWord) (h : badClass old = none) :
    ∃ m, mergeWord x old = .data m ∧ ∀ k < 64, m.getLsbD k =
      if x.enables.getLsbD (k / 8) then x.data.getLsbD k else (deliveredData old).getLsbD k :=
  ⟨_, by simp [mergeWord, h], fun k hk => getLsbD_mergeBytes _ _ _ k hk⟩

theorem mergeWord_bad (x : WriteWord) (old : StoredWord) (h : badClass old ≠ none) : mergeWord x old = .poison := by
  obtain ⟨c, hc⟩ := Option.ne_none_iff_exists'.mp h
  simp [mergeWord, hc]

/-- The words a read-modify-write stores: full words as given, partial ones merged or poison, the others left out (R56 to R58). -/
theorem mergedStore_word (r : Request) (m : Memory) (p n w : Nat) (hw : w < 8) :
    let word := m.read (p * 32768 + n * 8 + w)
    let stored := (r.mergedStore (Memory.line m p n)).getD w none
    ((r.wordAt w).enables = 0xFF → stored = some (.data (r.wordAt w).data)) ∧
    ((r.wordAt w).enables = 0 → stored = none) ∧
    ((r.wordAt w).enables ≠ 0xFF → (r.wordAt w).enables ≠ 0 → badClass word = none → ∃ x, stored = some (.data x) ∧
      ∀ k < 64, x.getLsbD k =
        if (r.wordAt w).enables.getLsbD (k / 8) then (r.wordAt w).data.getLsbD k else (deliveredData word).getLsbD k) ∧
    ((r.wordAt w).enables ≠ 0xFF → (r.wordAt w).enables ≠ 0 → badClass word ≠ none → stored = some .poison) := by
  intro word stored
  have hstored : stored = _ := mergedStore_getD r _ w hw
  rw [Memory.line_getD _ _ _ _ hw] at hstored
  have hpart : (r.wordAt w).enables ≠ 0xFF → (r.wordAt w).enables ≠ 0 → stored = some (mergeWord (r.wordAt w) word) := by
    intro hfull hnone
    have hf : r.fullWord w = false := by simpa [Request.fullWord] using hfull
    have hp : r.partialWord w = true := by simpa [Request.partialWord] using ⟨hnone, hfull⟩
    simpa [hf, hp] using hstored
  refine ⟨fun hfull => ?_, fun hnone => ?_, fun hfull hnone hok => ?_, fun hfull hnone hbad => ?_⟩
  · simp [hstored, Request.fullWord, hfull]
  · simp [hstored, Request.fullWord, Request.partialWord, hnone]
  · obtain ⟨x, hx, hbits⟩ := mergeWord_delivered (r.wordAt w) word hok
    exact ⟨x, (hpart hfull hnone).trans (congrArg some hx), hbits⟩
  · exact (hpart hfull hnone).trans (congrArg some (mergeWord_bad _ word hbad))

/-- The hold's test depends on the translation and the segment under fill alone (R61). -/
theorem State.holdTest_congr {s t : State} (htr : t.translate = s.translate) (hfill : t.underFill = s.underFill) (r : Request) :
    t.holdTest r = s.holdTest r := by
  rw [State.holdTest, htr, hfill, State.holdTest]

/-- The lowest failed merge among the words of a line read, with its class (R58). -/
def lowestFailed (r : Request) (m : Memory) (p n : Nat) : Option (Nat × BadClass) :=
  (firstBad ((lineWords.filter r.partialWord).map fun w => (w, m.read (p * 32768 + n * 8 + w)))).map fun x => (x.1, x.2.2)

theorem lowestFailed_eq_some (r : Request) (m : Memory) (p n w : Nat) (c : BadClass) :
    lowestFailed r m p n = some (w, c) ↔ w < 8 ∧ r.partialWord w = true ∧
      badClass (m.read (p * 32768 + n * 8 + w)) = some c ∧
      ∀ v < w, r.partialWord v = true → badClass (m.read (p * 32768 + n * 8 + v)) = none := by
  have hmem : ∀ v, v ∈ lineWords.filter r.partialWord ↔ v < 8 ∧ r.partialWord v = true := fun v => by
    simp [lineWords]
  rw [lowestFailed, firstBad_map_eq_some _ _ (lineWords_filter_ascend _), hmem]
  constructor
  · rintro ⟨⟨hw, hp⟩, hc, hlow⟩
    exact ⟨hw, hp, hc, fun v hv hpv => hlow v ((hmem v).mpr ⟨by omega, hpv⟩) hv⟩
  · rintro ⟨hw, hp, hc, hlow⟩
    exact ⟨⟨hw, hp⟩, hc, fun v hv hvw => hlow v hvw ((hmem v).mp hv).2⟩

/-- A merge read's steps, on the words `L` that it selects. -/
theorem State.finishMergeRead_of_words (r : Request) (g : Nat) (op : PortOp) (v : State) {L : List (Nat × StoredWord)}
    (h : selectWords r.partialWord (State.readLine op v) = L) :
    let reported := State.reportWords (demandReport r .demandMerge op g) L (State.handleWords false op.segment op.line L v)
    State.finishMergeRead r g op v = State.freePort (State.putExec (.executing r
      (.write (r.mergedStore (State.readLine op v)) ((firstBad L).map fun x => (x.1, x.2.2))) (reported.holdTest r)) reported) := by
  subst h
  rfl

/-- A merge read finished, on the array `m` with the line's changes in it (R56 to R58). -/
theorem State.finishMergeRead_spec (r : Request) (g : Nat) (op : PortOp) (u : State) (m : Memory) :
    let word := fun w => m.read (op.segment * 32768 + op.line * 8 + w)
    let ws := lineWords.filter r.partialWord
    let t := State.finishMergeRead r g op { u with array := m }
    t = { u with
      array := m
      lli := { u.lli with queue := u.lli.queue.map (Slot.executing r
        (.write (r.mergedStore (Memory.line m op.segment op.line)) (lowestFailed r m op.segment op.line))
        (u.holdTest r)).replaceExec }
      aa := { u.aa with grant := none, holdOff := t.aa.holdOff }
      rc := t.rc, me := t.me, se := t.se, hm := t.hm, fcu := t.fcu, alu := t.alu, mp := t.mp } ∧
    ReadEffects op.segment word ws u t ∧
    ReportsLowest (fun k w => ⟨k, .demandMerge, some (⟨op.segment, op.line, w⟩, syndromeByte (word w)), some g,
      some (r.address, r.cls)⟩) word ws u t := by
  intro word ws t
  let v : State := { u with array := m }
  let handled := State.handleWords false op.segment op.line (ws.map fun w => (w, word w)) v
  let reported := State.reportWords (demandReport r .demandMerge op g) (ws.map fun w => (w, word w)) handled
  have hsel : selectWords r.partialWord (State.readLine op v) = ws.map fun w => (w, word w) := selectWords_line _ _ _ _
  have hmode : reported.se.mode = u.se.mode := by
    simp only [reported, State.reportWords_frame]
    exact State.handleWords_sweepMode _ _ _ _ _ _
  have hhold : reported.holdTest r = u.holdTest r := by
    refine State.holdTest_congr (State.translate_congr ?_ ?_) ?_ r
    · simp [reported, handled, v]
    · simp [reported, handled, v]
    · rw [State.underFill, hmode, State.underFill]
  have ht : t = State.freePort (State.putExec (.executing r
      (.write (r.mergedStore (Memory.line m op.segment op.line)) (lowestFailed r m op.segment op.line)) (u.holdTest r)) reported) := by
    rw [← hhold]
    exact State.finishMergeRead_of_words r g op v hsel
  obtain ⟨hkeep, hdone⟩ := State.reportWords_alu (demandReport r .demandMerge op g) (ws.map fun w => (w, word w)) handled
  rw [ht]
  refine ⟨State.eq_of_fields ?_, ?_, ?_⟩
  · have hru : handled.ru = u.ru := State.handleWords_noOffers _ _ _ _
    have hfair : handled.aa.fairness = u.aa.fairness := State.handleWords_fairness _ _ _ _ _
    simp [reported, hru, hfair]
    simp [handled, v]
  · have hleft : State.freePort (State.putExec (.executing r
        (.write (r.mergedStore (Memory.line m op.segment op.line)) (lowestFailed r m op.segment op.line)) (u.holdTest r)) reported) =
        { handled with
          fcu := reported.fcu, alu := reported.alu, aa := { handled.aa with grant := none }
          lli := { handled.lli with queue := handled.lli.queue.map (Slot.executing r
            (.write (r.mergedStore (Memory.line m op.segment op.line)) (lowestFailed r m op.segment op.line))
            (u.holdTest r)).replaceExec } } := State.eq_of_fields (by simp [reported])
    rw [hleft]
    exact (State.handleWords_effects false op.segment op.line word ws v).carried hkeep hdone
  · exact (State.reportWords_reports (demandReport r .demandMerge op g) (fun _ _ _ => rfl) word ws (lineWords_filter_ascend _)
      handled).carried (by simp [handled, v]) (by simp [handled, v]) (by simp [reported]) (by simp [reported])

end Sys2Proof.Machine

open Sys2Proof Sys2Proof.Machine

/-- Settles O24: the words read are handled and reported, and the words to store are those of the request merged into them. -/
theorem mergeReadFormsTheWrite : Obligations.MergeReadFormsTheWrite := by
  intro r g d op flips s u hs hg hreq hdel hx array word ws
  have hexec : exec (.demandMergeReadComplete flips) s = .next (State.finishMergeRead r g op { u with array := array }) := by
    rw [exec_eq, show effect (.demandMergeReadComplete flips) (found (.demandMergeReadComplete flips) s) = u.completeMergeRead flips
      from by rw [← hs]; rfl]
    simp only [State.completeMergeRead, State.delivered_of hg hreq hdel, hx]
    rfl
  obtain ⟨hframe, ⟨hcounts, hmet, hcal, hdone, hpatrol, hretire⟩, hreport⟩ := State.finishMergeRead_spec r g op u array
  refine ⟨_, r.mergedStore (Memory.line array op.segment op.line), lowestFailed r array op.segment op.line, u.holdTest r, hexec,
    hframe, u.holdTest_held r, u.holdTest_cases r, mergedStore_word r array op.segment op.line, lowestFailed_eq_some r array op.segment op.line, hcounts, hmet, hcal,
    hdone, hpatrol, hretire, hreport⟩

end

-- ==== Proofs: Commit ====
section
/-! SUPPORT. A verified last line: the commit. -/

namespace Sys2Proof.Machine

/-! ## Records of the two tables after a change (R5, R107) -/

theorem State.seg_setRole (p q : Nat) (r : SegRole) (s : State) : (State.setRole p r s).seg q =
    if q = p ∧ p < s.rc.segs.length then { s.seg p with role := r } else s.seg q := by
  unfold State.seg
  simp only [State.setRole_fields, List.getD_eq_getElem?_getD, List.getElem?_set]
  split_ifs <;> simp_all [State.seg]

theorem State.seg_setFilled (p q : Nat) (b : Bool) (s : State) : (State.setFilled p b s).seg q =
    if q = p ∧ p < s.rc.segs.length then { s.seg p with filled := b } else s.seg q := by
  unfold State.seg
  simp only [State.setFilled_fields, List.getD_eq_getElem?_getD, List.getElem?_set]
  split_ifs <;> simp_all [State.seg]

/-- The Segment Status Table alone gives the records. -/
theorem State.seg_congr {s t : State} (h : t.rc.segs = s.rc.segs) (p : Nat) : t.seg p = s.seg p := by
  rw [State.seg, h, State.seg]

/-- The two tables are all that changes where the geometry stays. -/
theorem RemapCtl.eq_of_geometry {x y : RemapCtl} (h : x.geometry = y.geometry) :
    x = { y with segs := x.segs, remap := x.remap } := by
  cases x
  simpa using h

/-! ## The patrol looked at twice (R91) -/

/-- A RAISED patrol read stays raised: the patrol is active and the cursor's segment eligible. -/
def State.PatrolStays (t : State) : Prop :=
  t.mode = .online ∧ t.se.mode = .patrol ∧ t.me.quiesced = false ∧
    (if t.hm.cal.active = true then t.settings.calInterval else t.settings.patrolInterval) ≠ 0 ∧
    (t.seg t.se.cursorSegment).role = .inUse ∧ (t.seg t.se.cursorSegment).filled = true

theorem patrolRechecked_iff (u t : State) : PatrolRechecked u t ↔
    t.se = { u.se with patrolTimer := t.se.patrolTimer, patrolPending := t.se.patrolPending } ∧
    (u.se.patrolPending = .raised → ¬t.PatrolStays → t.se.patrolPending = .none) ∧
    (u.se.patrolPending ≠ .raised ∨ t.PatrolStays → t.se.patrolPending = u.se.patrolPending) := Iff.rfl

/-- What decides whether a read stays. -/
theorem State.PatrolStays.congr {s t : State} (hmode : t.mode = s.mode) (hsweep : t.se.mode = s.se.mode)
    (hcursor : t.se.cursorSegment = s.se.cursorSegment) (hq : t.me.quiesced = s.me.quiesced) (hcal : t.hm.cal = s.hm.cal)
    (hset : t.settings = s.settings) (hsegs : t.rc.segs = s.rc.segs) : t.PatrolStays ↔ s.PatrolStays := by
  unfold State.PatrolStays
  rw [hmode, hsweep, hcursor, hq, hcal, hset, State.seg_congr hsegs]

/-- A second look finds what the first left. -/
theorem PatrolRechecked.trans {u v w t : State} (h : PatrolRechecked u v) (h' : PatrolRechecked w t) (hw : w.se = v.se)
    (hmode : t.mode = v.mode) (hq : t.me.quiesced = v.me.quiesced) (hcal : t.hm.cal = v.hm.cal) (hset : t.settings = v.settings)
    (hsegs : t.rc.segs = v.rc.segs) : PatrolRechecked u t := by
  rw [patrolRechecked_iff] at h h' ⊢
  rw [hw] at h'
  obtain ⟨hse, hnone, hsame⟩ := h
  obtain ⟨hse', hnone', hsame'⟩ := h'
  have hstays : t.PatrolStays ↔ v.PatrolStays :=
    State.PatrolStays.congr hmode (by rw [hse']) (by rw [hse']) hq hcal hset hsegs
  refine ⟨by rw [hse', hse], fun hr hs => ?_, fun hr => ?_⟩
  · have hv := hnone hr (fun hv => hs (hstays.mpr hv))
    rw [hsame' (.inl (by simp [hv])), hv]
  · have hv := hsame (hr.imp_right hstays.mp)
    rw [hsame' (hr.imp_left fun h => by rwa [hv]), hv]

/-! ## The record of a segment that a commit retires (R127, R142, R143) -/

/-- A record not in BASELINE is made UNTRACKED and nothing else changes. -/
theorem State.retireHealth_tracked (p : Nat) (s : State) (h : ¬∃ left, (s.health p).state = .baseline left) :
    State.retireHealth p s = State.untrack p s := by
  unfold State.retireHealth
  cases hs : (s.health p).state with
  | baseline left => exact absurd ⟨left, hs⟩ h
  | _ => rfl

/-- A record in BASELINE that leaves the calibration, before its end is judged. -/
def State.leaveBaseline (p : Nat) (s : State) : State :=
  { State.untrack p s with hm := { (State.untrack p s).hm with
    cal := { s.hm.cal with retired := s.hm.cal.retired + 1, baselineCount := s.hm.cal.baselineCount - 1 } } }

theorem State.retireHealth_baseline (p : Nat) (s : State) (h : ∃ left, (s.health p).state = .baseline left) :
    State.retireHealth p s = (s.leaveBaseline p).completeCalibrate := by
  obtain ⟨left, hs⟩ := h
  simp only [State.retireHealth, hs]
  rfl

theorem State.retireHealth_table (p : Nat) (s : State) :
    (State.retireHealth p s).hm.table = s.hm.table.set p (.untracked (s.health p).role) := by
  by_cases h : ∃ left, (s.health p).state = .baseline left
  · rw [State.retireHealth_baseline p s h, State.completeCalibrate_table]
    rfl
  · rw [State.retireHealth_tracked p s h]
    rfl

/-- What the record's leaving does to the calibration, the command block and the patrol. -/
theorem State.retireHealth_spec (p : Nat) (s : State) :
    let leaves := ∃ left, (s.health p).state = .baseline left
    let last := s.hm.cal.active = true ∧ s.hm.cal.baselineCount - 1 = 0
    let r := State.retireHealth p s
    r.hm.epochTimer = s.hm.epochTimer ∧
    (¬leaves → r.hm.cal = s.hm.cal) ∧
    (leaves → r.hm.cal = { s.hm.cal with
      retired := s.hm.cal.retired + 1
      baselineCount := s.hm.cal.baselineCount - 1
      active := if last then false else s.hm.cal.active }) ∧
    (leaves → last → r.alu = s.alu.set .commandDone ∧ r.se.patrolTimer = loadTimer s.settings.patrolInterval ∧
      PatrolRechecked s r ∧
      r.mp = { s.mp with
        lastOutcome := .ok, longOutcome := .ok, busy := false
        results := { s.hm.cal with retired := s.hm.cal.retired + 1 }.results }) ∧
    (¬(leaves ∧ last) → r.alu = s.alu ∧ r.mp = s.mp ∧ r.se = s.se) := by
  intro leaves last r
  by_cases hl : leaves
  · have hr : r = (s.leaveBaseline p).completeCalibrate := State.retireHealth_baseline p s hl
    by_cases hlast : last
    · obtain ⟨hhm, hmp, htimer, halu, hpatrol⟩ := (s.leaveBaseline p).completeCalibrate_ends hlast.1 hlast.2
      rw [hr, hhm, hmp, htimer, halu]
      refine ⟨rfl, fun h => absurd hl h, fun _ => ?_, fun _ _ => ⟨rfl, rfl, ?_, rfl⟩, fun h => absurd ⟨hl, hlast⟩ h⟩
      · simp [hlast, State.leaveBaseline]
      · exact hpatrol.congr rfl rfl rfl rfl rfl rfl rfl
    · rw [hr, (s.leaveBaseline p).completeCalibrate_waits hlast]
      refine ⟨rfl, fun h => absurd hl h, fun _ => ?_, fun _ h => absurd h hlast, fun _ => ⟨rfl, rfl, rfl⟩⟩
      simp [hlast, State.leaveBaseline]
  · have hr : r = State.untrack p s := State.retireHealth_tracked p s hl
    rw [hr]
    exact ⟨rfl, fun _ => rfl, fun h => absurd h hl, fun h => absurd h hl, fun _ => ⟨rfl, rfl, rfl⟩⟩

/-! ## A target line judged (R156) -/

/-- The class a target word passes with. -/
def passClass (b : List StoreWord) (w : Nat) : WordClass := if b[w]? = some .poison then .poison else .clean

theorem wordPasses_iff (b : List StoreWord) (hb : b.length = 8) (w : Nat) (hw : w < 8) (x : StoredWord) :
    wordPasses (b.getD w .poison) x = true ↔ classify x = passClass b w := by
  have hget : b[w]? = some b[w] := List.getElem?_eq_getElem (by omega)
  rw [List.getD_eq_getElem?_getD, passClass, hget]
  cases b[w] <;> simp [wordPasses]

/-- The failing words of a line, by the class each reads with. -/
theorem failingWords_line (b : List StoreWord) (hb : b.length = 8) (m : Memory) (p n : Nat) :
    failingWords b (Memory.line m p n) =
      (lineWords.filter fun w => decide (classify (m.read (p * 32768 + n * 8 + w)) ≠ passClass b w)).map
        fun w => (w, b.getD w .poison, m.read (p * 32768 + n * 8 + w)) := by
  have hline : (lineWords.map fun w => (w, b.getD w .poison, (Memory.line m p n).getD w StoredWord.zero)) =
      lineWords.map fun w => (w, b.getD w .poison, m.read (p * 32768 + n * 8 + w)) :=
    List.map_congr_left fun w hw => by rw [Memory.line_getD m p n w (List.mem_range.mp hw)]
  rw [failingWords, hline, List.filter_map]
  congr 1
  refine List.filter_congr fun w hw => ?_
  have hpass := wordPasses_iff b hb w (List.mem_range.mp hw) (m.read (p * 32768 + n * 8 + w))
  cases h : wordPasses (b.getD w .poison) (m.read (p * 32768 + n * 8 + w)) <;> simp_all

theorem failingWords_nil (b : List StoreWord) (hb : b.length = 8) (m : Memory) (p n : Nat)
    (h : ∀ w < 8, classify (m.read (p * 32768 + n * 8 + w)) = passClass b w) : failingWords b (Memory.line m p n) = [] := by
  rw [failingWords_line b hb, List.map_eq_nil_iff, List.filter_eq_nil_iff]
  intro w hw
  simpa using h w (List.mem_range.mp hw)

/-! ## VERIFY_READ_COMPLETE (R156) -/

theorem exec_verifyRead {op : PortOp} {flips : LineFlips} {i : Nat} {e : CopyingEntry} {b : List StoreWord} {redo : Bool}
    {s u : State} (hs : s.settle = u) (hg : u.aa.grant = some op) (hreq : op.requester = .migration) (hdel : op.deliver = true)
    (hc : u.copying = some (i, e)) (hst : u.me.state = .verifyRead b redo) :
    exec (.verifyReadComplete flips) s = .next (State.finishVerifyRead i e b redo op
      { u with array := Memory.flipLine u.array op.segment op.line flips }) := by
  rw [exec_eq, show effect (.verifyReadComplete flips) (found (.verifyReadComplete flips) s) = u.completeVerifyRead flips
    from by rw [← hs]; rfl]
  simp only [State.completeVerifyRead, State.delivered_of hg hreq hdel, hc, hst]
  rfl

theorem State.finishVerifyRead_passed {i : Nat} {e : CopyingEntry} {b : List StoreWord} {redo : Bool} {op : PortOp} {v : State}
    (h : failingWords b (State.readLine op v) = []) :
    State.finishVerifyRead i e b redo op v = State.freePort (State.endLine i e b redo v) := by
  simp only [State.finishVerifyRead, h]
  rfl

theorem State.endLine_last {i : Nat} {e : CopyingEntry} {b : List StoreWord} {s : State} (h : 4095 ≤ e.cursor) :
    State.endLine i e b false s = State.commit i e (e.poisoned + linePoison b) s := by
  have hcur : ¬e.cursor + 1 < 4096 := by omega
  simp [State.endLine, hcur]

/-! ## The commit (R23, R162) -/

/-- The commit up to the records of the Health Table. -/
def State.moveSegment (i : Nat) (e : CopyingEntry) (poisoned : Nat) (s : State) : State :=
  State.setFilled e.target true (State.setRole e.target .inUse (State.setRole e.current .retired
    (State.setEntry i (.active ⟨e.logical, e.target, e.origin, poisoned, e.restarts⟩) s)))

@[simp] theorem State.moveSegment_fields (i : Nat) (e : CopyingEntry) (poisoned : Nat) (s : State) :
    (s.moveSegment i e poisoned).pending = s.pending ∧ (s.moveSegment i e poisoned).mode = s.mode ∧
    (s.moveSegment i e poisoned).aselPins = s.aselPins ∧ (s.moveSegment i e poisoned).aselLatch = s.aselLatch ∧
    (s.moveSegment i e poisoned).initElapsed = s.initElapsed ∧ (s.moveSegment i e poisoned).settings = s.settings ∧
    (s.moveSegment i e poisoned).mp = s.mp ∧ (s.moveSegment i e poisoned).lli = s.lli ∧
    (s.moveSegment i e poisoned).me = s.me ∧ (s.moveSegment i e poisoned).se = s.se ∧
    (s.moveSegment i e poisoned).ru = s.ru ∧ (s.moveSegment i e poisoned).aa = s.aa ∧
    (s.moveSegment i e poisoned).hm = s.hm ∧ (s.moveSegment i e poisoned).fcu = s.fcu ∧
    (s.moveSegment i e poisoned).alu = s.alu ∧ (s.moveSegment i e poisoned).array = s.array ∧
    (s.moveSegment i e poisoned).rc.geometry = s.rc.geometry ∧ (s.moveSegment i e poisoned).rc.segs.length = s.rc.segs.length ∧
    (s.moveSegment i e poisoned).rc.remap = s.rc.remap.set i (.active ⟨e.logical, e.target, e.origin, poisoned, e.restarts⟩) := by
  simp [State.moveSegment]

/-- The roles after a commit (R23). -/
theorem State.moveSegment_seg (i : Nat) (e : CopyingEntry) (poisoned : Nat) (s : State) (hne : e.current ≠ e.target)
    (hc : e.current < s.rc.segs.length) (ht : e.target < s.rc.segs.length) (q : Nat) :
    (s.moveSegment i e poisoned).seg q =
      if q = e.target then ⟨.inUse, true⟩ else if q = e.current then ⟨.retired, (s.seg e.current).filled⟩ else s.seg q := by
  have hentry : ∀ x q, (State.setEntry i x s).seg q = s.seg q := fun _ _ => rfl
  simp only [State.moveSegment, State.seg_setFilled, State.seg_setRole, hentry, State.setRole_fields, State.setEntry_fields,
    List.length_set, hc, ht, and_true]
  by_cases hqt : q = e.target
  · simp [hqt]
  · by_cases hqc : q = e.current
    · simp [hqc, hne]
    · simp [hqt, hqc]

/-- A look at the patrol leaves its timer. -/
theorem State.recheckPatrol_timer (s : State) : s.recheckPatrol.se.patrolTimer = s.se.patrolTimer := by
  unfold State.recheckPatrol
  split <;> rfl

theorem State.commit_eq (i : Nat) (e : CopyingEntry) (poisoned : Nat) (s : State) :
    State.commit i e poisoned s = State.recheckPatrol (State.setCause .migrationDone (State.setMe .idle .none
      (State.removeSegment e.current (State.freshen e.target (State.retireHealth e.current (s.moveSegment i e poisoned)))))) := rfl

/-- What a commit leaves, in terms of the record that it retires. -/
theorem State.commit_fields (i : Nat) (e : CopyingEntry) (poisoned : Nat) (s : State) :
    let r := State.retireHealth e.current (s.moveSegment i e poisoned)
    let t := State.commit i e poisoned s
    t.rc = (s.moveSegment i e poisoned).rc ∧
    t.hm = { r.hm with table := r.hm.table.set e.target (.fresh (r.health e.target).role) } ∧
    t.mp = r.mp ∧ t.alu = r.alu.set .migrationDone ∧ t.me = { s.me with state := .idle, step := .none } ∧
    t.ru = ⟨s.ru.queue.filter fun x => x.addr.segment != e.current, s.ru.record⟩ ∧
    t.se.patrolTimer = r.se.patrolTimer := by
  simp [State.commit_eq, State.recheckPatrol_timer]

/-- The patrol is looked at once more after a commit, whatever the end of a calibration has withdrawn (R91). -/
theorem State.commit_rechecks (i : Nat) (e : CopyingEntry) (poisoned : Nat) (s : State) :
    PatrolRechecked s (State.commit i e poisoned s) := by
  have hlook := State.recheckPatrol_rechecks (State.setCause .migrationDone (State.setMe .idle .none
    (State.removeSegment e.current (State.freshen e.target (State.retireHealth e.current (s.moveSegment i e poisoned))))))
  obtain ⟨-, -, -, hends, hstays⟩ := State.retireHealth_spec e.current (s.moveSegment i e poisoned)
  rw [State.commit_eq]
  by_cases h : (∃ left, ((s.moveSegment i e poisoned).health e.current).state = .baseline left) ∧
      (s.moveSegment i e poisoned).hm.cal.active = true ∧ (s.moveSegment i e poisoned).hm.cal.baselineCount - 1 = 0
  · obtain ⟨-, -, hfirst, -⟩ := hends h.1 h.2
    exact PatrolRechecked.trans (hfirst.congr rfl rfl rfl rfl rfl rfl rfl) hlook (by simp) (by simp) (by simp) (by simp)
      (by simp) (by simp)
  · obtain ⟨-, -, hse⟩ := hstays h
    exact hlook.congr (by simp [hse]) rfl rfl rfl rfl rfl rfl

/-- The records of the Health Table after a commit (R23, R127). -/
theorem State.commit_health (i : Nat) (e : CopyingEntry) (poisoned : Nat) (s : State) (hne : e.current ≠ e.target)
    (hc : e.current < s.hm.table.length) (ht : e.target < s.hm.table.length) (q : Nat) :
    (State.commit i e poisoned s).health q =
      if q = e.target then .fresh (s.health e.target).role
      else if q = e.current then .untracked (s.health e.current).role else s.health q := by
  obtain ⟨-, hhm, -⟩ := State.commit_fields i e poisoned s
  have hr : ∀ q, (State.retireHealth e.current (s.moveSegment i e poisoned)).health q =
      if q = e.current then .untracked (s.health e.current).role else s.health q := by
    intro q
    rw [State.health_congr (t := State.retireHealth e.current (s.moveSegment i e poisoned))
      (s := State.putHealth e.current (.untracked (s.health e.current).role) s)
      (State.retireHealth_table _ _), State.health_putHealth]
    simp [hc]
  rw [State.health_congr (s := State.putHealth e.target (.fresh ((State.retireHealth e.current (s.moveSegment i e poisoned)).health
    e.target).role) (State.retireHealth e.current (s.moveSegment i e poisoned))) (by rw [hhm]; rfl), State.health_putHealth, hr, hr]
  simp [ht, Ne.symm hne]

/-- What a commit leaves of the state, whatever the record that it retires. -/
theorem State.commit_blocks (i : Nat) (e : CopyingEntry) (poisoned : Nat) (s : State) :
    let t := State.commit i e poisoned s
    t.rc.remap = s.rc.remap.set i (.active ⟨e.logical, e.target, e.origin, poisoned, e.restarts⟩) ∧
    t.hm.table.length = s.hm.table.length ∧ t.hm.epochTimer = s.hm.epochTimer ∧
    t.me = { s.me with state := .idle, step := .none } ∧
    t.ru = ⟨s.ru.queue.filter fun x => x.addr.segment != e.current, s.ru.record⟩ := by
  obtain ⟨hrc, hhm, -, -, hme, hru, -⟩ := State.commit_fields i e poisoned s
  obtain ⟨hepoch, -⟩ := State.retireHealth_spec e.current (s.moveSegment i e poisoned)
  refine ⟨?_, ?_, ?_, hme, hru⟩
  · rw [hrc]
    simp
  · rw [hhm]
    simp [State.retireHealth_table]
  · rw [hhm, hepoch]
    simp

/-- The old current's part in a calibration, and the end that a commit brings to one (R142, R143). -/
theorem State.commit_calibration (i : Nat) (e : CopyingEntry) (poisoned : Nat) (s : State) :
    let t := State.commit i e poisoned s
    let leaves := ∃ left, (s.health e.current).state = .baseline left
    let last := s.hm.cal.active = true ∧ s.hm.cal.baselineCount - 1 = 0
    (¬leaves → t.hm.cal = s.hm.cal) ∧
    (leaves → t.hm.cal = { s.hm.cal with
      retired := s.hm.cal.retired + 1
      baselineCount := s.hm.cal.baselineCount - 1
      active := if last then false else s.hm.cal.active }) ∧
    (leaves → last → t.alu = (s.alu.set .commandDone).set .migrationDone ∧
      t.se.patrolTimer = loadTimer s.settings.patrolInterval ∧
      t.mp = { s.mp with
        lastOutcome := .ok, longOutcome := .ok, busy := false
        results := { s.hm.cal with retired := s.hm.cal.retired + 1 }.results }) ∧
    (¬(leaves ∧ last) → t.alu = s.alu.set .migrationDone ∧ t.mp = s.mp ∧ t.se.patrolTimer = s.se.patrolTimer) := by
  obtain ⟨-, hhm, hmp, halu, -, -, htimer⟩ := State.commit_fields i e poisoned s
  obtain ⟨-, hcal, hcal', hends, hstays⟩ := State.retireHealth_spec e.current (s.moveSegment i e poisoned)
  have hhealth : (s.moveSegment i e poisoned).health e.current = s.health e.current :=
    State.health_congr (by simp) _
  simp only [hhealth, State.moveSegment_fields] at hcal hcal' hends hstays
  intro t leaves last
  refine ⟨fun h => ?_, fun h => ?_, fun h h' => ?_, fun h => ?_⟩
  · simp only [t, hhm, hcal h]
  · simp only [t, hhm, hcal' h]
    rfl
  · obtain ⟨hset, htime, -, hmp'⟩ := hends h h'
    exact ⟨by rw [halu, hset], by rw [htimer, htime], by rw [hmp, hmp']⟩
  · obtain ⟨hset, hmp', hse⟩ := hstays h
    exact ⟨by rw [halu, hset], by rw [hmp, hmp'], by rw [htimer, hse]⟩

/-- The roles after a commit (R23). -/
theorem State.commit_seg (i : Nat) (e : CopyingEntry) (poisoned : Nat) (s : State) (hne : e.current ≠ e.target)
    (hc : e.current < s.rc.segs.length) (ht : e.target < s.rc.segs.length) (q : Nat) :
    (State.commit i e poisoned s).seg q =
      if q = e.target then ⟨.inUse, true⟩ else if q = e.current then ⟨.retired, (s.seg e.current).filled⟩ else s.seg q := by
  obtain ⟨hrc, -⟩ := State.commit_fields i e poisoned s
  rw [State.seg_congr (s := s.moveSegment i e poisoned) (by rw [hrc]), State.moveSegment_seg i e poisoned s hne hc ht]

end Sys2Proof.Machine

open Sys2Proof Sys2Proof.Machine

/-- Settles O32: the line passes, so the entry ends, and the commit is read off block by block. -/
theorem commitMovesTheSegment : Obligations.CommitMovesTheSegment := by
  intro op flips i e b s u hs hg hreq hdel hc hst hb hcur hne hcs hts hth hch array hpass leaves last
  have hnil : failingWords b (State.readLine op { u with array := array }) = [] :=
    failingWords_nil b hb array op.segment op.line hpass
  have hexec : exec (.verifyReadComplete flips) s =
      .next (State.freePort (State.commit i e (e.poisoned + linePoison b) { u with array := array })) := by
    rw [exec_verifyRead hs hg hreq hdel hc hst, State.finishVerifyRead_passed hnil, State.endLine_last hcur]
  obtain ⟨hremap, htable, hepoch, hme, hru⟩ := State.commit_blocks i e (e.poisoned + linePoison b) { u with array := array }
  obtain ⟨hcal, hcal', hends, hstays⟩ := State.commit_calibration i e (e.poisoned + linePoison b) { u with array := array }
  have hpatrol := State.commit_rechecks i e (e.poisoned + linePoison b) { u with array := array }
  have hhealth := State.commit_health i e (e.poisoned + linePoison b) { u with array := array } hne hch hth
  have hseg := State.commit_seg i e (e.poisoned + linePoison b) { u with array := array } hne hcs hts
  have hframe := State.commit_frame i e (e.poisoned + linePoison b) { u with array := array }
  generalize State.commit i e (e.poisoned + linePoison b) { u with array := array } = t at *
  have hother : ∀ c : Cause, c ≠ .migrationDone → c ≠ .commandDone → t.alu.isSet c = u.alu.isSet c := fun c hm hd => by
    by_cases h : leaves ∧ last
    · obtain ⟨halu, -⟩ := hends h.1 h.2
      rw [halu, AlertUnit.isSet_set, AlertUnit.isSet_set, beq_eq_false_iff_ne.mpr hm.symm, beq_eq_false_iff_ne.mpr hd.symm]
      simp
    · obtain ⟨halu, -⟩ := hstays h
      rw [halu, AlertUnit.isSet_set, beq_eq_false_iff_ne.mpr hm.symm]
      simp
  have hdone : t.alu.isSet .migrationDone = true := by
    by_cases h : leaves ∧ last
    · obtain ⟨halu, -⟩ := hends h.1 h.2
      simp [halu, AlertUnit.isSet_set]
    · obtain ⟨halu, -⟩ := hstays h
      simp [halu, AlertUnit.isSet_set]
  obtain ⟨hp, hmode, hpins, hlatch, hinit, hset, hlli, hgeo, hlen, -, haa, hfcu, harray⟩ := hframe
  have hrc : t.rc = { u.rc with segs := t.rc.segs, remap := t.rc.remap } := RemapCtl.eq_of_geometry hgeo
  refine ⟨t.freePort, hexec, State.eq_of_fields ?_, hremap, ?_, ?_, fun p hpc hpt => ⟨?_, ?_⟩, ?_, ?_, ?_, ?_, hme, hdone,
    hother, hlen, htable, hepoch, hpatrol.congr rfl rfl rfl rfl rfl rfl rfl, hcal, hcal', fun h h' => ?_, fun h => ?_⟩
  · simp [hp, hmode, hpins, hlatch, hinit, hset, hlli, ← hrc, haa, hfcu, harray]
  · exact (hseg _).trans (by simp [hne])
  · exact (hseg _).trans (by simp)
  · exact (hseg p).trans (by simp [hpc, hpt])
  · exact (hhealth p).trans (by simp [hpc, hpt])
  · exact (hhealth _).trans ((if_neg hne).trans (if_pos rfl))
  · exact (hhealth _).trans (if_pos rfl)
  · exact (congrArg RepairUnit.queue hru :)
  · exact (congrArg RepairUnit.record hru :)
  · obtain ⟨halu, htimer, hmp⟩ := hends h h'
    refine ⟨?_, htimer, hmp⟩
    show t.alu.isSet .commandDone = true
    simp [halu, AlertUnit.isSet_set]
  · obtain ⟨halu, hmp, htimer⟩ := hstays h
    refine ⟨?_, hmp, htimer⟩
    show t.alu.isSet .commandDone = u.alu.isSet .commandDone
    simp [halu, AlertUnit.isSet_set]

end

-- ==== Proofs: FailedTarget ====
section
/-! SUPPORT. A failed target abandoned. -/

namespace Sys2Proof.Machine

/-! ## The report of a failed target (R160) -/

/-- The lowest index of an ascending list that answers gives the first answer. -/
theorem findSome_lowest {α : Type} {f : Nat → Option α} {ws : List Nat} (hs : ws.Pairwise (· < ·)) {w : Nat} {x : α}
    (hw : w ∈ ws) (hx : f w = some x) (hlow : ∀ v < w, v ∈ ws → f v = none) : ws.findSome? f = some x := by
  obtain ⟨pre, post, rfl⟩ := List.append_of_mem hw
  have hpre : pre.findSome? f = none := List.findSome?_eq_none_iff.mpr fun v hv =>
    hlow v ((List.pairwise_append.mp hs).2.2 v hv w List.mem_cons_self) (List.mem_append_left _ hv)
  simp [List.findSome?_append, hpre, hx]

theorem firstFailure_eq (fs : List (Nat × StoreWord × StoredWord)) :
    firstFailure fs = fs.findSome? fun x => (failureKind x.2.1 x.2.2).map fun y => (x.1, y) := by
  induction fs with
  | nil => rfl
  | cons x rest ih =>
    obtain ⟨w, b, x⟩ := x
    cases h : failureKind b x <;> simp [firstFailure, h, ih]

/-- The kind and syndrome that a failing word is reported with whatever "capture corrected" is. -/
def FailureNamed (x : StoredWord) (k : FaultKind) (syn : Byte) : Prop :=
  classify x = .uncorrectable ∧ k = .uncorrectable ∧ syn = syndromeByte x ∨
    classify x = .poison ∧ k = .poison ∧ syn = syndromeByte x ∨
    classify x = .clean ∧ k = .uncorrectable ∧ syn = 0

/-- A failing word that reads CLEAN stands for a poison word of the buffer. -/
theorem failureKind_iff {b : List StoreWord} (hb : b.length = 8) {w : Nat} (hw : w < 8) {x : StoredWord}
    (hfail : classify x ≠ passClass b w) (k : FaultKind) (syn : Byte) :
    failureKind (b.getD w .poison) x = some (k, syn) ↔ FailureNamed x k syn := by
  have hget : b[w]? = some b[w] := List.getElem?_eq_getElem (by omega)
  rw [passClass, hget] at hfail
  rw [List.getD_eq_getElem?_getD, hget]
  cases hx : classify x with
  | clean =>
    have hpoison : b[w] = .poison := by
      by_contra hne
      simp [hx, hne] at hfail
    simp [failureKind, FailureNamed, hx, hpoison, eq_comm (a := k), eq_comm (a := syn)]
  | corrected => simp [failureKind, FailureNamed, hx]
  | uncorrectable => simp [failureKind, FailureNamed, hx, eq_comm (a := k), eq_comm (a := syn)]
  | poison => simp [failureKind, FailureNamed, hx, eq_comm (a := k), eq_comm (a := syn)]

/-- A word of the line of which the write has failed. -/
def WordFails (b : List StoreWord) (m : Memory) (op : PortOp) (w : Nat) : Prop :=
  classify (m.read (op.segment * 32768 + op.line * 8 + w)) ≠ passClass b w

theorem mem_failing {b : List StoreWord} {m : Memory} {op : PortOp} {w : Nat} :
    (w ∈ lineWords.filter fun w => decide (classify (m.read (op.segment * 32768 + op.line * 8 + w)) ≠ passClass b w)) ↔
      w < 8 ∧ WordFails b m op w := by
  simp [lineWords, WordFails]

theorem failingWords_mem {b : List StoreWord} (hb : b.length = 8) {m : Memory} {op : PortOp} {w : Nat} (hw : w < 8)
    (hfail : WordFails b m op w) : (failingWords b (Memory.line m op.segment op.line)).isEmpty = false := by
  rw [failingWords_line b hb, List.isEmpty_map, List.isEmpty_eq_false_iff, ← List.length_pos_iff, List.length_pos_iff_exists_mem]
  exact ⟨w, mem_failing.mpr ⟨hw, hfail⟩⟩

theorem firstFailure_named {b : List StoreWord} (hb : b.length = 8) {m : Memory} {op : PortOp} {w : Nat} (hw : w < 8)
    {k : FaultKind} {syn : Byte} (hfail : WordFails b m op w)
    (hnamed : FailureNamed (m.read (op.segment * 32768 + op.line * 8 + w)) k syn)
    (hlow : ∀ v < w, ∀ k' syn', WordFails b m op v → ¬FailureNamed (m.read (op.segment * 32768 + op.line * 8 + v)) k' syn') :
    firstFailure (failingWords b (Memory.line m op.segment op.line)) = some (w, k, syn) := by
  rw [firstFailure_eq, failingWords_line b hb, List.findSome?_map]
  refine findSome_lowest (lineWords_filter_ascend _) (w := w) ?_ ?_ fun v hv hmem => ?_
  · exact mem_failing.mpr ⟨hw, hfail⟩
  · exact congrArg (Option.map _) ((failureKind_iff hb hw hfail k syn).mpr hnamed)
  · obtain ⟨-, hvfail⟩ := mem_failing.mp hmem
    cases hkind : failureKind (b.getD v .poison) (m.read (op.segment * 32768 + op.line * 8 + v)) with
    | none => exact congrArg (Option.map _) hkind
    | some y => exact absurd ((failureKind_iff hb (by omega) hvfail y.1 y.2).mp hkind) (hlow v hv _ _ hvfail)

theorem firstFailure_none {b : List StoreWord} (hb : b.length = 8) {m : Memory} {op : PortOp}
    (hnone : ∀ w < 8, ∀ k syn, WordFails b m op w → ¬FailureNamed (m.read (op.segment * 32768 + op.line * 8 + w)) k syn) :
    firstFailure (failingWords b (Memory.line m op.segment op.line)) = none := by
  rw [firstFailure_eq, failingWords_line b hb, List.findSome?_map, List.findSome?_eq_none_iff]
  intro w hmem
  obtain ⟨hw, hfail⟩ := mem_failing.mp hmem
  cases hkind : failureKind (b.getD w .poison) (m.read (op.segment * 32768 + op.line * 8 + w)) with
  | none => exact congrArg (Option.map _) hkind
  | some y => exact absurd ((failureKind_iff hb hw hfail y.1 y.2).mp hkind) (hnone w hw _ _ hfail)

theorem failingWords_head {b : List StoreWord} (hb : b.length = 8) {m : Memory} {op : PortOp} {w : Nat} (hw : w < 8)
    (hfail : WordFails b m op w) (hlow : ∀ v < w, ¬WordFails b m op v) :
    (failingWords b (Memory.line m op.segment op.line)).head? =
      some (w, b.getD w .poison, m.read (op.segment * 32768 + op.line * 8 + w)) := by
  have hfirst : lineWords.find? (fun v => decide (classify (m.read (op.segment * 32768 + op.line * 8 + v)) ≠ passClass b v)) = some w := by
    refine List.find?_range_eq_some.mpr ⟨decide_eq_true hfail, List.mem_range.mpr hw, fun v hv => ?_⟩
    simpa [WordFails] using hlow v hv
  rw [failingWords_line b hb, List.head?_map, List.head?_filter, hfirst]
  rfl

theorem State.reportFailure_named {op : PortOp} {fs : List (Nat × StoreWord × StoredWord)} {w : Nat} {k : FaultKind} {syn : Byte}
    (h : firstFailure fs = some (w, k, syn)) (s : State) :
    State.reportFailure op fs s = State.report (verifyReport op w k syn) s := by
  simp only [State.reportFailure, h]

theorem State.reportFailure_corrected {op : PortOp} {fs : List (Nat × StoreWord × StoredWord)} {w : Nat} {b : StoreWord}
    {x : StoredWord} (h : firstFailure fs = none) (hhead : fs.head? = some (w, b, x)) (s : State) :
    State.reportFailure op fs s =
      if s.settings.captureCorrected then State.report (verifyReport op w .corrected (syndromeByte x)) s else s := by
  cases fs with
  | nil => cases hhead
  | cons y rest =>
    cases hhead
    simp only [State.reportFailure, h]

theorem State.report_fcu (r : FaultReport) (s : State) : (State.report r s).fcu = s.fcu.report r := by
  rw [State.report_eq]

/-- The cause of a report is set (R175). -/
theorem State.report_sets {r : FaultReport} {c : Cause} {s : State} (h : s.fcu.cause r = some c) :
    (State.report r s).alu.isSet c = true := by
  rw [State.report_eq, h]
  simp [AlertUnit.isSet_set]

theorem FailureNamed.cause {x : StoredWord} {k : FaultKind} {syn : Byte} (h : FailureNamed x k syn) (u : FaultCapture) (op : PortOp)
    (w : Nat) : u.cause (verifyReport op w k syn) = some .uncorrectableSeen := by
  rcases h with ⟨-, rfl, -⟩ | ⟨-, rfl, -⟩ | ⟨-, rfl, -⟩ <;> rfl

/-- A CORRECTED report is captured where the record is empty (R174). -/
theorem FaultCapture.cause_corrected {u : FaultCapture} (h : u.record = none) (op : PortOp) (w : Nat) (syn : Byte) :
    u.cause (verifyReport op w .corrected syn) = some .correctedCaptured := by
  simp [FaultCapture.cause, verifyReport, FaultCapture.takes, h]

/-! ## The failed target abandoned (R22, R160, R161) -/

/-- A role that is neither from nor to SPARE_FREE leaves the lowest spare. -/
theorem State.lowestSpare_setRole {p : Nat} {r : SegRole} {s : State} (hold : (s.seg p).role ≠ .spareFree) (hnew : r ≠ .spareFree) :
    (State.setRole p r s).lowestSpare = s.lowestSpare := by
  by_cases hp : p < s.rc.segs.length
  · have hroles : ∀ segs : List SegRecord, segs.findIdx? (fun x => x.role == .spareFree) =
        (segs.map fun x => x.role == .spareFree).findIdx? id := fun segs => by
      rw [List.findIdx?_map]
      rfl
    simp only [State.lowestSpare, State.setRole_fields, hroles, List.map_set]
    congr 1
    refine List.ext_getElem (by simp) fun n _ hn => ?_
    rw [List.getElem_set]
    split
    next heq =>
      subst heq
      simpa [State.seg, List.getD_eq_getElem?_getD, hp, hnew] using hold
    next => rfl
  · simp [State.lowestSpare, List.set_eq_of_length_le (Nat.le_of_not_lt hp)]

theorem State.failTarget_spare {i : Nat} {e : CopyingEntry} {n : Nat} {s : State} (hrole : (s.seg e.target).role = .spareBound)
    (h : s.lowestSpare = some n) :
    State.failTarget i e s = State.setMe (.copyRead false) .raised
      (State.bindTarget i { e with restarts := e.restarts + 1 } n (State.setRole e.target .spareBad s)) := by
  have hlow : (State.setRole e.target .spareBad s).lowestSpare = some n := by
    rw [State.lowestSpare_setRole (by simp [hrole]) (by simp), h]
  simp only [State.failTarget, hlow]

theorem State.failTarget_exhausted {i : Nat} {e : CopyingEntry} {s : State} (hrole : (s.seg e.target).role = .spareBound)
    (h : s.lowestSpare = none) :
    State.failTarget i e s = State.setMe .idle .none (State.setCause .sparesExhausted (State.setCause .migrationFailed
      (State.setEntry i (CopyingEntry.reverted { e with restarts := e.restarts + 1 }) (State.setRole e.target .spareBad s)))) := by
  have hlow : (State.setRole e.target .spareBad s).lowestSpare = none := by
    rw [State.lowestSpare_setRole (by simp [hrole]) (by simp), h]
  simp only [State.failTarget, hlow]

/-- A segment whose record is not the default one of a segment out of range is in range. -/
theorem State.lt_of_role {p : Nat} {s : State} (h : (s.seg p).role ≠ .retired) : p < s.rc.segs.length := by
  by_contra hp
  simp [State.seg, List.getD_eq_getElem?_getD, List.getElem?_eq_none (Nat.le_of_not_lt hp)] at h

/-- The tables and the ME's state after a failed target (R22, R160, R161). -/
theorem State.failTarget_spec (i : Nat) (e : CopyingEntry) (s : State) (hrole : (s.seg e.target).role = .spareBound) :
    let t := State.failTarget i e s
    t.seg e.target = ⟨.spareBad, (s.seg e.target).filled⟩ ∧
    (∀ p, p ≠ e.target → s.lowestSpare ≠ some p → t.seg p = s.seg p) ∧
    (∀ n, s.lowestSpare = some n →
      t.seg n = ⟨.spareBound, (s.seg n).filled⟩ ∧
      t.rc.remap = s.rc.remap.set i (.copying { e with target := n, cursor := 0, poisoned := 0, restarts := e.restarts + 1 }) ∧
      t.me = { s.me with state := .copyRead false, step := .raised } ∧ t.alu = s.alu) ∧
    (s.lowestSpare = none →
      t.rc.remap = s.rc.remap.set i (if e.previous = .free then .free
        else .active ⟨e.logical, e.current, e.origin, e.poisoned, e.restarts + 1⟩) ∧
      t.me = { s.me with state := .idle, step := .none } ∧
      t.alu = (s.alu.set .migrationFailed).set .sparesExhausted) := by
  have htarget : e.target < s.rc.segs.length := State.lt_of_role (by simp [hrole])
  have hbad : ∀ p, (State.setRole e.target .spareBad s).seg p =
      if p = e.target then ⟨.spareBad, (s.seg e.target).filled⟩ else s.seg p := fun p => by
    simp [State.seg_setRole, htarget]
  cases hspare : s.lowestSpare with
  | none =>
    rw [State.failTarget_exhausted hrole hspare]
    have hseg := fun p => (State.seg_congr (s := State.setRole e.target .spareBad s)
      (t := State.setMe .idle .none (State.setCause .sparesExhausted (State.setCause .migrationFailed
        (State.setEntry i (CopyingEntry.reverted { e with restarts := e.restarts + 1 }) (State.setRole e.target .spareBad s)))))
      rfl p).trans (hbad p)
    refine ⟨(hseg _).trans (if_pos rfl), fun p hp _ => (hseg p).trans (if_neg hp), fun n hn => (by cases hn), fun _ => ?_⟩
    simp [CopyingEntry.reverted_eq]
  | some n =>
    have hfree : (s.seg n).role = .spareFree := State.lowestSpare_role hspare
    have hne : n ≠ e.target := by
      rintro rfl
      rw [hrole] at hfree
      cases hfree
    rw [State.failTarget_spare hrole hspare]
    have hseg := fun p => (State.seg_congr (s := State.setRole n .spareBound (State.setRole e.target .spareBad s))
      (t := State.setMe (.copyRead false) .raised (State.bindTarget i { e with restarts := e.restarts + 1 } n
        (State.setRole e.target .spareBad s))) rfl p).trans (State.seg_setRole n p .spareBound _)
    have hn : n < (State.setRole e.target .spareBad s).rc.segs.length := by
      simpa using State.lt_of_role (p := n) (s := s) (by simp [hfree])
    refine ⟨?_, fun p hp hpn => ?_, fun m hm => ?_, fun h => (by cases h)⟩
    · rw [hseg, if_neg (by simp [Ne.symm hne]), hbad, if_pos rfl]
    · have hpn : p ≠ n := fun h => hpn (by rw [h])
      rw [hseg, if_neg (by simp [hpn]), hbad, if_neg hp]
    · cases hm
      rw [hseg, if_pos ⟨rfl, hn⟩, hbad, if_neg hne]
      simp

/-- A failed target leaves the causes that are set. -/
theorem State.keeps_failTarget (i : Nat) (e : CopyingEntry) (s : State) (hrole : (s.seg e.target).role = .spareBound) :
    s.KeepsCauses (State.failTarget i e s) := by
  obtain ⟨-, -, hsome, hnone⟩ := State.failTarget_spec i e s hrole
  cases hspare : s.lowestSpare with
  | some n =>
    obtain ⟨-, -, -, halu⟩ := hsome n hspare
    exact .of_alu halu
  | none =>
    obtain ⟨-, -, halu⟩ := hnone hspare
    intro c hc
    simp [halu, AlertUnit.isSet_set, hc]

theorem State.finishVerifyRead_failed {i : Nat} {e : CopyingEntry} {b : List StoreWord} {redo : Bool} {op : PortOp} {v : State}
    (h : (failingWords b (State.readLine op v)).isEmpty = false) :
    State.finishVerifyRead i e b redo op v =
      State.freePort (State.failTarget i e (State.reportFailure op (failingWords b (State.readLine op v)) v)) := by
  simp only [State.finishVerifyRead, h]
  rfl

end Sys2Proof.Machine

open Sys2Proof Sys2Proof.Machine

/-- Settles O33: the one report of R160, then the target abandoned, whose tables the report has not touched. -/
theorem failedTargetIsAbandoned : Obligations.FailedTargetIsAbandoned := by
  intro op flips i e b redo s u hs hg hreq hdel hc hst hb hrole array word fails named report ⟨w₀, hw₀, hfail₀⟩
  have hexec : exec (.verifyReadComplete flips) s = .next (State.freePort (State.failTarget i e
      (State.reportFailure op (failingWords b (Memory.line array op.segment op.line)) { u with array := array }))) := by
    have hsome : (failingWords b (State.readLine op { u with array := array })).isEmpty = false :=
      failingWords_mem (m := array) (op := op) hb hw₀ hfail₀
    rw [exec_verifyRead hs hg hreq hdel hc hst, State.finishVerifyRead_failed hsome]
    rfl
  have hnamed : ∀ w < 8, ∀ k syn, named w k syn → (∀ v < w, ∀ k' syn', ¬named v k' syn') →
      (State.reportFailure op (failingWords b (Memory.line array op.segment op.line)) { u with array := array }).fcu = report w k syn ∧
      (State.reportFailure op (failingWords b (Memory.line array op.segment op.line)) { u with array := array }).alu.isSet
        .uncorrectableSeen = true := by
    intro w hw k syn ⟨hfail, hname⟩ hlow
    rw [State.reportFailure_named (firstFailure_named hb hw hfail hname fun v hv k' syn' hf hn => hlow v hv k' syn' ⟨hf, hn⟩)]
    exact ⟨State.report_fcu _ _, State.report_sets (FailureNamed.cause hname _ _ _)⟩
  have hcorrected : (∀ w < 8, ∀ k syn, ¬named w k syn) → ∀ w < 8, fails w → (∀ v < w, ¬fails v) →
      State.reportFailure op (failingWords b (Memory.line array op.segment op.line)) { u with array := array } =
        if u.settings.captureCorrected then
          State.report (verifyReport op w .corrected (syndromeByte (word w))) { u with array := array }
        else { u with array := array } := fun hnone w hw hfail hlow =>
    State.reportFailure_corrected (firstFailure_none hb fun v hv k syn hf hn => hnone v hv k syn ⟨hf, hn⟩)
      (failingWords_head hb hw hfail hlow) _
  have hreport := State.reportFailure_frame op (failingWords b (Memory.line array op.segment op.line)) { u with array := array }
  generalize State.reportFailure op (failingWords b (Memory.line array op.segment op.line)) { u with array := array } = r at *
  obtain ⟨hp, hmode, hpins, hlatch, hinit, hset, hmp, hlli, hrc, hme, hse, hru, haa, hhm, harray⟩ := hreport
  have hseg : ∀ p, r.seg p = u.seg p := State.seg_congr (by rw [hrc])
  have hlow : r.lowestSpare = u.lowestSpare := by rw [State.lowestSpare, hrc, State.lowestSpare]
  have hrole' : (r.seg e.target).role = .spareBound := by rw [hseg, hrole]
  have hframe := State.failTarget_frame i e r
  have hkeep := State.keeps_failTarget i e r hrole'
  obtain ⟨hbad, hother, hspare, hnone⟩ := State.failTarget_spec i e r hrole'
  generalize State.failTarget i e r = t at *
  obtain ⟨hp', hmode', hpins', hlatch', hinit', hset', hmp', hlli', -, -, -, hse', hru', haa', hhm', hfcu', harray'⟩ := hframe
  refine ⟨t.freePort, hexec, State.eq_of_fields ?_, ?_, fun p hpt hps => ?_, fun n hn => ?_, fun hn => ?_,
    fun w hw k syn hn hlow => ?_, fun hn w hw hf hl => ⟨fun hcap => ?_, fun hcap => ?_⟩⟩
  · simp [hp, hmode, hpins, hlatch, hinit, hset, hmp, hlli, hse, hru, haa, hhm, harray, hp', hmode', hpins', hlatch', hinit', hset',
      hmp', hlli', hse', hru', haa', hhm', harray']
  · exact hbad.trans (by rw [hseg])
  · exact (hother p hpt (by rwa [hlow])).trans (hseg p)
  · obtain ⟨hs, hr, hm, -⟩ := hspare n (by rwa [hlow])
    exact ⟨hs.trans (by rw [hseg]), hr.trans (by rw [hrc]), hm.trans (by rw [hme])⟩
  · obtain ⟨hr, hm, halu⟩ := hnone (by rwa [hlow])
    refine ⟨hr.trans (by rw [hrc]), hm.trans (by rw [hme]), ?_⟩
    show t.alu.isSet .migrationFailed = true ∧ t.alu.isSet .sparesExhausted = true
    simp [halu, AlertUnit.isSet_set]
  · obtain ⟨hcap, hseen⟩ := hnamed w hw k syn hn hlow
    exact ⟨hfcu'.trans hcap, hkeep _ hseen⟩
  · have hr := hcorrected hn w hw hf hl
    rw [if_pos hcap] at hr
    refine ⟨hfcu'.trans (by rw [hr, State.report_fcu]; rfl), fun hrec => hkeep _ ?_⟩
    rw [hr]
    exact State.report_sets (FaultCapture.cause_corrected hrec op w _)
  · have hr := hcorrected hn w hw hf hl
    rw [if_neg (by simp [hcap])] at hr
    exact hfcu'.trans (by rw [hr])

end

-- ==== Proofs: WriteTransfers ====
section
/-! SUPPORT. Write transfers: the bytes held, the settings taken, the timers restarted. -/

namespace Sys2Proof.Machine

/-! ## The bytes that a write transfer holds (R183, R185) -/

/-- The place of the byte after one at `i`, counted on from the next. -/
theorem place_succ (i j : Nat) : ((i + 1) % 256 + j) % 256 = (i + (j + 1)) % 256 := by omega

/-- A transfer that does not reach index `k` leaves what was held for it. -/
theorem lastWritten_of_missed {k : Nat} {bs : List Byte} {i : Nat} (hi : i < 256) (acc : Option Byte)
    (h : ∀ j < bs.length, (i + j) % 256 ≠ k) : lastWritten k bs i acc = acc := by
  induction bs generalizing i acc with
  | nil => rfl
  | cons b rest ih =>
    have hne : i ≠ k := by
      have := h 0 (by simp)
      omega
    rw [lastWritten, if_neg hne]
    refine ih (Nat.mod_lt _ (by decide)) acc fun j hj => ?_
    rw [place_succ]
    exact h (j + 1) (by simpa using hj)

/-- The last byte written to index `k` is the one held for it. -/
theorem lastWritten_of_last {k : Nat} {bs : List Byte} {i : Nat} (hi : i < 256) (acc : Option Byte) {j : Nat} {b : Byte}
    (hb : bs[j]? = some b) (hj : (i + j) % 256 = k) (hlast : ∀ j' < bs.length, j < j' → (i + j') % 256 ≠ k) :
    lastWritten k bs i acc = some b := by
  induction bs generalizing i acc j with
  | nil => cases hb
  | cons c rest ih =>
    have hi' : (i + 1) % 256 < 256 := Nat.mod_lt _ (by decide)
    rw [lastWritten]
    cases j with
    | zero =>
      obtain rfl : c = b := by simpa using hb
      rw [if_pos (by omega)]
      refine lastWritten_of_missed hi' _ fun j' hj' => ?_
      rw [place_succ]
      exact hlast (j' + 1) (by simpa using hj') (by omega)
    | succ j =>
      refine ih hi' _ (by simpa using hb) (by rw [place_succ, hj]) fun j' hj' hlt => ?_
      rw [place_succ]
      exact hlast (j' + 1) (by simpa using hj') (by omega)

/-- A transfer that writes no two bytes from index `k` on leaves what was held for the field there. -/
theorem lastPair_of_missed {k : Nat} {bs : List Byte} {i : Nat} (hi : i < 256) (acc : Option (BitVec 16))
    (h : ∀ j, j + 1 < bs.length → (i + j) % 256 ≠ k) : lastPair k bs i acc = acc := by
  induction bs generalizing i acc with
  | nil => rfl
  | cons lo rest ih =>
    cases rest with
    | nil => rfl
    | cons hi' rest =>
      have hne : i ≠ k := by
        have := h 0 (by simp)
        omega
      rw [lastPair, if_neg hne]
      refine ih (Nat.mod_lt _ (by decide)) acc fun j hj => ?_
      rw [place_succ]
      exact h (j + 1) (by simpa using hj)

/-- The last two bytes written one after the other from index `k` on are the field's value, the low byte first. -/
theorem lastPair_of_last {k : Nat} {bs : List Byte} {i : Nat} (hi : i < 256) (acc : Option (BitVec 16)) {j : Nat} {lo hi' : Byte}
    (hlo : bs[j]? = some lo) (hhi : bs[j + 1]? = some hi') (hj : (i + j) % 256 = k)
    (hlast : ∀ j', j' + 1 < bs.length → j < j' → (i + j') % 256 ≠ k) : lastPair k bs i acc = some (hi' ++ lo) := by
  induction bs generalizing i acc j with
  | nil => cases hlo
  | cons c rest ih =>
    have hnext : (i + 1) % 256 < 256 := Nat.mod_lt _ (by decide)
    cases rest with
    | nil => simp at hhi
    | cons d rest =>
      rw [lastPair]
      cases j with
      | zero =>
        obtain rfl : c = lo := by simpa using hlo
        obtain rfl : d = hi' := by simpa using hhi
        rw [if_pos (by omega)]
        refine lastPair_of_missed hnext _ fun j' hj' => ?_
        rw [place_succ]
        exact hlast (j' + 1) (by simpa using hj') (by omega)
      | succ j =>
        refine ih hnext _ (by simpa using hlo) (by simpa using hhi) (by rw [place_succ, hj]) fun j' hj' hlt => ?_
        rw [place_succ]
        exact hlast (j' + 1) (by simpa using hj') (by omega)

/-! ## A setting stored (R195) -/

/-- A stored setting is the one that a store changes. -/
theorem Settings.get_put (st : Settings) (x y : Setting) (v : Nat) :
    (st.put x v).get y = if y = x then (st.put x v).get x else st.get y := by
  cases x <;> cases y <;> rfl

theorem toNat_bne_zero {n : Nat} (h : n ≤ 1) : (n != 0).toNat = n := by
  interval_cases n <;> rfl

/-- A clamped value reads back as it was stored; a flag's is 0 or 1. -/
theorem Settings.get_put_clamp (st : Settings) (x : Setting) (v : Nat) : (st.put x (x.clamp v)).get x = x.clamp v := by
  cases x with
  | autoRetire | captureCorrected | split => exact toNat_bne_zero (by simp [Setting.clamp, Setting.range])
  | _ => rfl

/-- What a write transfer makes of one setting. -/
def writtenValue (online : Bool) (t : Transfer) (x : Setting) (old : Nat) : Nat :=
  if online && x.isGeometry then old
  else match heldSetting t x with
    | some v => x.clamp v
    | none => old

theorem writtenValue_idem (online : Bool) (t : Transfer) (x : Setting) (old : Nat) :
    writtenValue online t x (writtenValue online t x old) = writtenValue online t x old := by
  unfold writtenValue
  split
  · rfl
  · cases heldSetting t x <;> rfl

/-- One setting of a write transfer taken. -/
def applySetting (online : Bool) (t : Transfer) (acc : Settings) (x : Setting) : Settings :=
  if online && x.isGeometry then acc
  else match heldSetting t x with
    | some v => acc.put x (x.clamp v)
    | none => acc

theorem applySettings_eq (online : Bool) (t : Transfer) (st : Settings) :
    applySettings online t st = Setting.all.foldl (applySetting online t) st := rfl

theorem applySetting_get (online : Bool) (t : Transfer) (st : Settings) (x y : Setting) :
    (applySetting online t st x).get y = if y = x then writtenValue online t x (st.get x) else st.get y := by
  unfold applySetting writtenValue
  by_cases hgeo : (online && x.isGeometry) = true
  · rw [if_pos hgeo, if_pos hgeo]
    split_ifs with h <;> simp [h]
  · rw [if_neg hgeo, if_neg hgeo]
    cases heldSetting t x with
    | some v =>
      show (st.put x (x.clamp v)).get y = _
      rw [Settings.get_put, Settings.get_put_clamp]
    | none =>
      show st.get y = _
      split_ifs with h <;> simp [h]

theorem foldl_applySetting_get (online : Bool) (t : Transfer) (xs : List Setting) (st : Settings) (y : Setting) :
    (xs.foldl (applySetting online t) st).get y = if y ∈ xs then writtenValue online t y (st.get y) else st.get y := by
  induction xs generalizing st with
  | nil => simp
  | cons x rest ih =>
    rw [List.foldl_cons, ih, applySetting_get]
    by_cases hx : y = x
    · subst hx
      simp [writtenValue_idem]
    · simp [hx]

theorem Setting.mem_all (x : Setting) : x ∈ Setting.all := by
  cases x <;> decide

/-- Every setting takes the value that the transfer holds for it. -/
theorem applySettings_get (online : Bool) (t : Transfer) (st : Settings) (x : Setting) :
    (applySettings online t st).get x = writtenValue online t x (st.get x) := by
  rw [applySettings_eq, foldl_applySetting_get, if_pos x.mem_all]

theorem Setting.isGeometry_iff (x : Setting) : x.isGeometry = true ↔ x = .geomP ∨ x = .geomS := by
  cases x <;> decide

/-! ## The end of a write transfer (R185) -/

theorem State.acknowledges_iff {s : State} (h : s.mode ≠ .init) (a : BitVec 7) :
    s.acknowledges a = true ↔ a = 0x5C + s.aselLatch.setWidth 7 := by
  simp [State.acknowledges, State.mpAnswers, State.targetAddress, h]

theorem State.writeSettings_ignored {s : State} {t : Transfer} (h : s.acknowledges t.address = false) : State.writeSettings t s = s := by
  simp [State.writeSettings, h]

/-- The settings and parameters taken, before the timers are looked at. -/
def State.takeSettings (t : Transfer) (s : State) : State :=
  { s with settings := applySettings (s.mode == .online) t s.settings, mp := s.mp.afterWrite t }

theorem State.writeSettings_taken {s : State} {t : Transfer} (h : s.acknowledges t.address = true) :
    State.writeSettings t s = State.restartPatrolIfWritten t (State.restartEpochIfWritten t (s.takeSettings t)) := by
  simp only [State.writeSettings, h]
  rfl

theorem State.writeSettings_hm {s : State} {t : Transfer} (h : s.acknowledges t.address = true) :
    (State.writeSettings t s).hm = { s.hm with
      epochTimer := if s.mode = .online ∧ (heldSetting t .epochExp).isSome = true then
        some (1000 * 2 ^ (applySettings (s.mode == .online) t s.settings).epochExp) else s.hm.epochTimer } := by
  simp only [State.writeSettings_taken h, State.restartPatrolIfWritten_frame]
  unfold State.restartEpochIfWritten State.takeSettings
  split_ifs <;> rfl

theorem State.writeSettings_settings {s : State} {t : Transfer} (h : s.acknowledges t.address = true) :
    (State.writeSettings t s).settings = applySettings (s.mode == .online) t s.settings ∧
    (State.writeSettings t s).mp = s.mp.afterWrite t := by
  simp [State.writeSettings_taken h, State.takeSettings]

/-- A write of the current pace in ONLINE restarts the patrol timer, and any other leaves the SE (R89). -/
theorem State.writeSettings_se {s : State} {t : Transfer} (h : s.acknowledges t.address = true) :
    (s.mode = .online → (heldSetting t s.paceSetting).isSome = true →
      (State.writeSettings t s).se.patrolTimer = loadTimer (State.writeSettings t s).pace) ∧
    (s.mode ≠ .online ∨ heldSetting t s.paceSetting = none → (State.writeSettings t s).se = s.se) := by
  rw [State.writeSettings_taken h]
  have hmode : (State.restartEpochIfWritten t (s.takeSettings t)).mode = s.mode := by simp [State.takeSettings]
  have hse : (State.restartEpochIfWritten t (s.takeSettings t)).se = s.se := by simp [State.takeSettings]
  have hcal : (State.restartEpochIfWritten t (s.takeSettings t)).hm.cal = s.hm.cal := by
    unfold State.restartEpochIfWritten
    split <;> rfl
  have hpace : (State.restartEpochIfWritten t (s.takeSettings t)).paceSetting = s.paceSetting := by
    rw [State.paceSetting, hcal, State.paceSetting]
  generalize State.restartEpochIfWritten t (s.takeSettings t) = v at *
  unfold State.restartPatrolIfWritten
  rw [hmode, hpace]
  by_cases hw : s.mode = .online ∧ (heldSetting t s.paceSetting).isSome = true
  · rw [if_pos hw]
    refine ⟨fun _ _ => ?_, fun hn => ?_⟩
    · rw [State.recheckPatrol_timer]
      simp [State.restartPatrolTimer, State.pace]
    · rcases hn with hn | hn
      · exact absurd hw.1 hn
      · simp [hn] at hw
  · rw [if_neg hw]
    exact ⟨fun hm hs => absurd ⟨hm, hs⟩ hw, fun _ => hse⟩

theorem indexAfter_of_bytes {t : Transfer} {i : Byte} {data : List Byte} (h : t.bytes = i :: data) (before : Byte) :
    indexAfter t before = i + BitVec.ofNat 8 data.length := by
  rw [indexAfter, h]

/-- A complete value taken reads back clamped, where the setting may be written (R3, R195). -/
theorem writtenValue_some {s : State} {t : Transfer} {x : Setting} {v : Nat} (h : heldSetting t x = some v)
    (hgeo : ¬(s.mode = .online ∧ (x = .geomP ∨ x = .geomS))) (old : Nat) :
    writtenValue (s.mode == .online) t x old = x.clamp v := by
  have hmay : ((s.mode == .online) && x.isGeometry) = false := by
    simpa [← Setting.isGeometry_iff] using hgeo
  simp [writtenValue, hmay, h]

theorem writtenValue_none {s : State} {t : Transfer} {x : Setting}
    (h : heldSetting t x = none ∨ s.mode = .online ∧ (x = .geomP ∨ x = .geomS)) (old : Nat) :
    writtenValue (s.mode == .online) t x old = old := by
  rcases h with h | ⟨hmode, hgeo⟩
  · simp [writtenValue, h]
  · simp [writtenValue, hmode, (Setting.isGeometry_iff x).mpr hgeo]

/-- The transfer of an EPOCH_EXPONENT_WRITE (R110). -/
theorem settingTransfer_epochExp (a : BitVec 7) (k : Byte) : settingTransfer a .epochExp (k.setWidth 16) = ⟨a, [0x43, k]⟩ := by
  simp [settingTransfer, Setting.wide, Setting.index]

theorem exec_settingsWrite (t : Transfer) (s : State) : exec (.settingsWrite t) s = .next (State.writeSettings t s.settle) := rfl

theorem exec_epochExponentWrite (k : Byte) (s : State) :
    exec (.epochExponentWrite k) s = .next (State.writeSettings ⟨s.settle.targetAddress, [0x43, k]⟩ s.settle) := by
  rw [← settingTransfer_epochExp]
  rfl

theorem exec_patrolIntervalWrite (which : PaceInterval) (v : BitVec 16) (s : State) :
    exec (.patrolIntervalWrite which v) s =
      .next (State.writeSettings (settingTransfer s.settle.targetAddress (intervalSetting which) v) s.settle) := rfl

end Sys2Proof.Machine

open Sys2Proof Sys2Proof.Machine

/-- Settles O38: the effect of a transfer that the port acknowledges, block by block, then the bytes that it holds. -/
theorem settingsTakeCompleteClampedValues : Obligations.SettingsTakeCompleteClampedValues := by
  constructor
  · intro s u hs hmode own written effect
    have heffect : ∀ t, t.address = own → effect t (State.writeSettings t u) := by
      intro t ht
      have hack : u.acknowledges t.address = true := (State.acknowledges_iff hmode _).mpr ht
      obtain ⟨hset, hmp⟩ := State.writeSettings_settings hack
      obtain ⟨hrestart, hse⟩ := State.writeSettings_se hack
      have hhm := State.writeSettings_hm hack
      have hframe := State.writeSettings_frame t u
      generalize State.writeSettings t u = v at *
      have hpace : u.paceSetting = if u.hm.cal.active = true then .calInterval else .patrolInterval := rfl
      rw [hpace] at hrestart hse
      refine ⟨State.eq_of_fields (by simp [hframe]), fun x val hx hgeo => ?_, fun x hx => ?_, ?_, fun i data hb => ?_, ?_, hrestart, hse⟩
      · rw [hset, applySettings_get]
        exact writtenValue_some hx hgeo _
      · rw [hset, applySettings_get]
        exact writtenValue_none hx _
      · rw [hmp]
        rfl
      · rw [hmp]
        exact indexAfter_of_bytes hb _
      · exact hhm.trans (by rw [hset]; rfl)
    subst hs
    refine ⟨fun t ht => ⟨_, exec_settingsWrite t s, heffect t ht⟩, fun t ht => ?_,
      fun k => ⟨_, exec_epochExponentWrite k s, heffect _ rfl⟩,
      fun val => ⟨_, exec_patrolIntervalWrite .patrol val s, heffect _ rfl⟩,
      fun val => ⟨_, exec_patrolIntervalWrite .calibration val s, heffect _ rfl⟩⟩
    have hnot : s.settle.acknowledges t.address = false := by
      rw [← Bool.not_eq_true, State.acknowledges_iff hmode]
      exact ht
    rw [exec_settingsWrite, State.writeSettings_ignored hnot]
  · intro t i data k hbytes place
    have hbyte : heldByte t k = lastWritten k data i.toNat none := by rw [heldByte, hbytes]
    have hword : heldWord t k = lastPair k data i.toNat none := by rw [heldWord, hbytes]
    rw [hbyte, hword]
    exact ⟨fun j b hb hj hlast => lastWritten_of_last i.isLt none hb hj hlast, fun hmiss => lastWritten_of_missed i.isLt none hmiss,
      fun j lo hi hlo hhi hj hlast => lastPair_of_last i.isLt none hlo hhi hj hlast,
      fun hmiss => lastPair_of_missed i.isLt none hmiss⟩

end

-- ==== Proofs: Restore ====
section
/-! SUPPORT. RESTORE: its conditions in order, and the move. -/

namespace Sys2Proof.Machine

/-! ## RESTORE (R28, R29) -/

/-- An untracked record keeps its role; one beyond the table reads as untracked already. -/
theorem State.health_untrack (p q : Nat) (s : State) :
    (State.untrack p s).health q = if q = p then .untracked (s.health p).role else s.health q := by
  rw [State.untrack, State.health_putHealth]
  by_cases hq : q = p
  · subst hq
    by_cases hlt : q < s.hm.table.length
    · simp [hlt]
    · rw [if_neg (fun h => hlt h.2), if_pos rfl, State.health_of_le q s (Nat.le_of_not_lt hlt)]
      rfl
  · simp [hq]

/-- The pending patrol read after a look at the patrol (R91). -/
theorem State.recheckPatrol_se (s : State) : s.recheckPatrol.se = { s.se with patrolPending :=
    if s.se.patrolPending = .raised ∧ (s.seg s.se.cursorSegment).role = .inUse ∧
        (s.seg s.se.cursorSegment).filled = true ∧ s.patrolActive = true
      then .raised else if s.se.patrolPending = .raised then .none else s.se.patrolPending } := by
  have hstays : (s.patrolActive && s.eligible s.se.cursorSegment) = true ↔ (s.seg s.se.cursorSegment).role = .inUse ∧
      (s.seg s.se.cursorSegment).filled = true ∧ s.patrolActive = true := by
    rw [Bool.and_eq_true, State.eligible_iff]
    tauto
  unfold State.recheckPatrol
  by_cases hr : s.se.patrolPending = .raised
  · by_cases hs : (s.patrolActive && s.eligible s.se.cursorSegment) = true
    · rw [if_neg (by simp [hs]), if_pos ⟨hr, hstays.mp hs⟩, ← hr]
    · rw [if_pos (by simp [hr, Bool.eq_false_iff.mpr hs]), if_neg (fun h => hs (hstays.mpr h.2)), if_pos hr]
  · simp [hr]

/-- The Remap Table's record of a RESTORE (R29). -/
def State.recordRestore (g t : Nat) (s : State) : State :=
  match s.restoreIndex g with
  | some i => State.setEntry i (.active ⟨g, t, .restored, 0, 0⟩) s
  | none => s

/-- The tables after a RESTORE, before the patrol is looked at. -/
def State.moveTo (g t : Nat) (s : State) : State :=
  State.removeSegment (s.physOf g) (State.untrack t (State.untrack (s.physOf g)
    (State.setRole t .inUse (State.setRole (s.physOf g) .retired (s.recordRestore g t)))))

theorem State.doRestore_eq (g t : Nat) (s : State) : State.doRestore g t s = (s.moveTo g t).recheckPatrol := rfl

@[simp] theorem State.recordRestore_frame (g t : Nat) (s : State) :
    (s.recordRestore g t).pending = s.pending ∧ (s.recordRestore g t).mode = s.mode ∧ (s.recordRestore g t).aselPins = s.aselPins ∧
    (s.recordRestore g t).aselLatch = s.aselLatch ∧ (s.recordRestore g t).initElapsed = s.initElapsed ∧
    (s.recordRestore g t).settings = s.settings ∧ (s.recordRestore g t).mp = s.mp ∧ (s.recordRestore g t).lli = s.lli ∧
    (s.recordRestore g t).me = s.me ∧ (s.recordRestore g t).se = s.se ∧ (s.recordRestore g t).ru = s.ru ∧
    (s.recordRestore g t).aa = s.aa ∧ (s.recordRestore g t).hm = s.hm ∧ (s.recordRestore g t).fcu = s.fcu ∧
    (s.recordRestore g t).alu = s.alu ∧ (s.recordRestore g t).array = s.array ∧ (s.recordRestore g t).rc.geometry = s.rc.geometry ∧
    (s.recordRestore g t).rc.segs = s.rc.segs := by
  unfold State.recordRestore
  split <;> simp

/-- What a RESTORE leaves besides the records of the two segments and of the entry. -/
@[simp] theorem State.moveTo_frame (g t : Nat) (s : State) :
    (s.moveTo g t).pending = s.pending ∧ (s.moveTo g t).mode = s.mode ∧ (s.moveTo g t).aselPins = s.aselPins ∧
    (s.moveTo g t).aselLatch = s.aselLatch ∧ (s.moveTo g t).initElapsed = s.initElapsed ∧ (s.moveTo g t).settings = s.settings ∧
    (s.moveTo g t).mp = s.mp ∧ (s.moveTo g t).lli = s.lli ∧ (s.moveTo g t).me = s.me ∧ (s.moveTo g t).se = s.se ∧
    (s.moveTo g t).aa = s.aa ∧ (s.moveTo g t).fcu = s.fcu ∧ (s.moveTo g t).alu = s.alu ∧ (s.moveTo g t).array = s.array ∧
    (s.moveTo g t).ru = ⟨s.ru.queue.filter fun x => x.addr.segment != s.physOf g, s.ru.record⟩ ∧
    (s.moveTo g t).hm.epochTimer = s.hm.epochTimer ∧ (s.moveTo g t).hm.cal = s.hm.cal ∧ (s.moveTo g t).rc.geometry = s.rc.geometry ∧
    (s.moveTo g t).rc.segs.length = s.rc.segs.length ∧ (s.moveTo g t).rc.remap = (s.recordRestore g t).rc.remap ∧
    (s.moveTo g t).hm.table.length = s.hm.table.length := by
  simp [State.moveTo]

theorem State.moveTo_seg {g t : Nat} {s : State} (hne : s.physOf g ≠ t) (hr : s.physOf g < s.rc.segs.length)
    (ht : t < s.rc.segs.length) (q : Nat) : (s.moveTo g t).seg q =
      if q = t then ⟨.inUse, (s.seg t).filled⟩ else if q = s.physOf g then ⟨.retired, (s.seg q).filled⟩ else s.seg q := by
  have hrecord : ∀ q, (s.recordRestore g t).seg q = s.seg q := State.seg_congr (by simp)
  have hseg : (s.moveTo g t).seg q =
      (State.setRole t .inUse (State.setRole (s.physOf g) .retired (s.recordRestore g t))).seg q := rfl
  rw [hseg, State.seg_setRole, State.seg_setRole, State.seg_setRole, hrecord, hrecord, hrecord]
  by_cases hqt : q = t
  · simp [hqt, ht, Ne.symm hne]
  · by_cases hqr : q = s.physOf g
    · simp [hqr, hne, hr]
    · simp [hqt, hqr]

theorem State.moveTo_health {g t : Nat} {s : State} (q : Nat) : (s.moveTo g t).health q =
    if q = t ∨ q = s.physOf g then .untracked (s.health q).role else s.health q := by
  have hrecord : ∀ q, (State.setRole t .inUse (State.setRole (s.physOf g) .retired (s.recordRestore g t))).health q = s.health q :=
    State.health_congr (by simp)
  have hhealth : (s.moveTo g t).health q = (State.untrack t (State.untrack (s.physOf g)
    (State.setRole t .inUse (State.setRole (s.physOf g) .retired (s.recordRestore g t))))).health q := rfl
  rw [hhealth, State.health_untrack, State.health_untrack, State.health_untrack, hrecord, hrecord, hrecord]
  by_cases hqt : q = t
  · subst hqt
    by_cases hqr : q = s.physOf g <;> simp [hqr, HealthRecord.untracked]
  · by_cases hqr : q = s.physOf g
    · simp [← hqr, hqt]
    · simp [hqt, hqr]

theorem State.recordRestore_remap {g t i : Nat} {s : State} (h : s.restoreIndex g = some i) :
    (s.recordRestore g t).rc.remap = s.rc.remap.set i (.active ⟨g, t, .restored, 0, 0⟩) := by
  rw [State.recordRestore, h]
  rfl

/-- The logical segment's entry is COPYING. -/
theorem State.isCopying_iff (s : State) (g : Nat) : s.isCopying g = true ↔
    ∃ i e, s.entryIndex g = some i ∧ s.rc.remap[i]? = some (.copying e) := by
  unfold State.isCopying State.entryOf State.entryAt
  cases hi : s.entryIndex g with
  | none => simp [RemapEntry.copying?]
  | some i =>
    cases hx : s.rc.remap[i]? with
    | none => simp [hx, RemapEntry.copying?, List.getD_eq_getElem?_getD]
    | some x => cases x <;> simp [hx, RemapEntry.copying?, List.getD_eq_getElem?_getD]

theorem State.queuedForRetire_iff (s : State) (g : Nat) : s.queuedForRetire g = true ↔ ∃ x ∈ s.me.queue, x.logical = g := by
  simp [State.queuedForRetire]

/-- The state that a taken RESTORE leaves with outcome `o` short of OK. -/
theorem State.takeRestore_refused {s : State} {o : CmdOutcome} (h : s.checkRestore s.mp.param0.toNat s.mp.param1.toNat = o)
    (ho : o ≠ .ok) : s.takeRestore = State.completeImmediate 0x30 o s := by
  simp [State.takeRestore, h, ho]

theorem State.takeRestore_ok {s : State} (h : s.checkRestore s.mp.param0.toNat s.mp.param1.toNat = .ok) :
    s.takeRestore = State.completeImmediate 0x30 .ok (State.doRestore s.mp.param0.toNat s.mp.param1.toNat s) := by
  simp [State.takeRestore, h]

/-- A state of the Health Monitor in which only the table differs. -/
theorem HealthMonitor.eq_of_table {x y : HealthMonitor} (he : x.epochTimer = y.epochTimer) (hc : x.cal = y.cal) :
    x = { y with table := x.table } := by
  cases x
  simp_all

end Sys2Proof.Machine

open Sys2Proof Sys2Proof.Machine

/-- Settles O47: the conditions of R28 in their order, and the move as R29 makes it. -/
theorem restoreReplaysAMove : Obligations.RestoreReplaysAMove := by
  intro s u hs hbusy hmode g p taken inRange free claimed
  have htaken : exec .restore s = .next u.clearRefusal.takeRestore := exec_taken rfl hs hmode hbusy
  have hrange : ¬(u.numL ≤ g ∨ p < u.numL ∨ u.numP ≤ p) ↔ inRange := by
    simp only [inRange]
    omega
  have hclaimed : (u.isCopying g || u.queuedForRetire g) = true ↔ claimed := by
    rw [Bool.or_eq_true, State.isCopying_iff, State.queuedForRetire_iff]
  have hcheck : u.clearRefusal.checkRestore u.clearRefusal.mp.param0.toNat u.clearRefusal.mp.param1.toNat = u.checkRestore g p := rfl
  have hrefused : ∀ o : CmdOutcome, o ≠ .ok → u.checkRestore g p = o → exec .restore s = .next { u with mp := taken o } := by
    intro o ho h
    rw [htaken, State.takeRestore_refused (hcheck.trans h) ho]
    rfl
  refine ⟨fun hon => ?_, fun hon hr => ?_, fun hon hr hf => ?_, fun hon hr hf hc => ?_, fun hon hr hf hc hne hlt => ?_⟩
  · exact hrefused _ (by simp) (by simp [State.checkRestore, hon])
  · rw [← hrange, not_not] at hr
    exact hrefused _ (by simp) (by simp [State.checkRestore, hon, hr])
  · rw [← hrange] at hr
    have hf : (u.seg p).role ≠ .spareFree := hf
    exact hrefused _ (by simp) (by simp [State.checkRestore, hon, hr, hf])
  · rw [← hrange] at hr
    have hf : (u.seg p).role = .spareFree := hf
    rw [← hclaimed] at hc
    exact hrefused _ (by simp) (by simp only [State.checkRestore, hon, hr, hf, hc]; rfl)
  · rw [← hrange] at hr
    have hf : (u.seg p).role = .spareFree := hf
    rw [← hclaimed] at hc
    have hok : u.checkRestore g p = .ok := by simp only [State.checkRestore, hon, hr, hf, hc]; rfl
    have hp : p < u.rc.segs.length := State.lt_of_role (by simp [hf])
    have hframe := State.moveTo_frame g p u.clearRefusal
    have hseg := State.moveTo_seg (g := g) (t := p) (s := u.clearRefusal) hne hlt hp
    have hhealth := State.moveTo_health (g := g) (t := p) (s := u.clearRefusal)
    have hexec : exec .restore s =
        .next (State.completeImmediate 0x30 .ok (u.clearRefusal.moveTo g p).recheckPatrol) := by
      rw [htaken, State.takeRestore_ok (hcheck.trans hok), State.doRestore_eq]
      rfl
    have hremap : ∀ i, u.restoreIndex g = some i →
        (u.clearRefusal.recordRestore g p).rc.remap = u.rc.remap.set i (.active ⟨g, p, .restored, 0, 0⟩) := fun i hi =>
      State.recordRestore_remap (s := u.clearRefusal) hi
    generalize u.clearRefusal.moveTo g p = m at *
    obtain ⟨hpend, hmd, hpins, hlatch, hinit, hset, hmp, hlli, hme, hse, haa, hfcu, halu, harray, hru, hepoch, hcal, hgeo,
      hsegs, hrc, htable⟩ := hframe
    have hpatrol : m.patrolActive = u.patrolActive := by
      simp [State.patrolActive, State.inPatrol, State.pace, hmd, hse, hme, hcal, hset, State.clearRefusal]
    have hleft := State.completeImmediate_fields 0x30 .ok m.recheckPatrol
    simp only [State.recheckPatrol_frame, State.recheckPatrol_se] at hleft
    generalize State.completeImmediate 0x30 .ok m.recheckPatrol = t at *
    obtain ⟨hpend', hmd', hpins', hlatch', hinit', hset', hmp', hlli', hrc', hme', hse', hru', haa', hhm', hfcu', halu',
      harray'⟩ := hleft
    have hseg' : ∀ q, t.seg q = m.seg q := State.seg_congr (by rw [hrc'])
    have hhealth' : ∀ q, t.health q = m.health q := State.health_congr (by rw [hhm'])
    simp only [hse, hpatrol, ← hseg'] at hse'
    refine ⟨t, hexec, State.eq_of_fields ⟨hpend'.trans hpend, hmd'.trans hmd, hpins'.trans hpins, hlatch'.trans hlatch,
      hinit'.trans hinit, hset'.trans hset, hmp'.trans (by rw [hmp]; rfl), hlli'.trans hlli, RemapCtl.eq_of_geometry ?_,
      hme'.trans hme, hse', hru'.trans hru, haa'.trans haa, HealthMonitor.eq_of_table ?_ ?_, hfcu'.trans hfcu, halu'.trans halu,
      harray'.trans harray⟩, fun i hi => ?_, fun i hi hfree => ?_, ?_, ?_, ?_, ?_, fun q hqr hqp => ⟨?_, ?_⟩, ?_, ?_, fun q hq => ?_⟩
    · rw [hrc', hgeo]
      rfl
    · rw [hhm', hepoch]
      rfl
    · rw [hhm', hcal]
      rfl
    · rw [hrc', hrc, hremap i (by rw [State.restoreIndex, hi])]
    · rw [hrc', hrc, hremap i (by rw [State.restoreIndex, hi, ← hfree])]
    · rw [hrc', hsegs]
      rfl
    · rw [hhm', htable]
      rfl
    · exact (hseg' _).trans ((hseg _).trans ((if_neg hne).trans (if_pos rfl)))
    · exact (hseg' _).trans ((hseg _).trans (if_pos rfl))
    · exact (hseg' _).trans ((hseg q).trans ((if_neg hqp).trans (if_neg hqr)))
    · exact (hhealth' q).trans ((hhealth q).trans (if_neg (not_or.mpr ⟨hqp, hqr⟩)))
    · exact congrArg HealthRecord.state ((hhealth' _).trans ((hhealth _).trans (if_pos (.inr rfl))))
    · exact congrArg HealthRecord.state ((hhealth' _).trans ((hhealth _).trans (if_pos (.inl rfl))))
    · exact (hhealth' q).trans ((hhealth q).trans (if_pos hq.symm))

end

-- ==== Proofs: CheckCode ====
section
/-! SUPPORT. The check code: linear syndromes, positions, and the classes. -/

namespace Sys2Proof.Machine

/-! ## Exclusive-ors of bits -/

/-- The exclusive-or of chosen bits is linear. -/
theorem xorBits_xor (ks : List Nat) {n : Nat} (a b : BitVec n) : xorBits ks (a ^^^ b) = (xorBits ks a ^^ xorBits ks b) := by
  induction ks with
  | nil => rfl
  | cons k rest ih =>
    have hcons : ∀ d : BitVec n, xorBits (k :: rest) d = (d.getLsbD k ^^ xorBits rest d) := fun _ => rfl
    rw [hcons, hcons, hcons, ih, BitVec.getLsbD_xor]
    simp only [Bool.xor_assoc, Bool.xor_left_comm]

theorem checkBit_xor (i : Nat) (a b : Word) : checkBit i (a ^^^ b) = (checkBit i a ^^ checkBit i b) := xorBits_xor _ a b

theorem parity_xor {n : Nat} (a b : BitVec n) : parity (a ^^^ b) = (parity a ^^ parity b) := xorBits_xor _ a b

theorem testBit_bitsToNat (bs : List Bool) (i : Nat) : (bitsToNat bs).testBit i = bs.getD i false := by
  induction bs generalizing i with
  | nil => simp [bitsToNat]
  | cons b rest ih =>
    rw [bitsToNat, show b.toNat + 2 * bitsToNat rest = Nat.bit b (bitsToNat rest) by cases b <;> simp [Nat.bit]; omega]
    cases i with
    | zero => simp
    | succ i => simp [Nat.testBit_bit_succ, ih]

/-! ## The syndrome and the parity of a stored word (R12) -/

theorem testBit_syndrome (w : StoredWord) (i : Nat) :
    (syndrome w).testBit i = (decide (i < 7) && (w.check.getLsbD i ^^ checkBit i w.data)) := by
  rw [syndrome, testBit_bitsToNat]
  by_cases hi : i < 7
  · simp [List.getD_eq_getElem?_getD, hi]
  · simp [List.getD_eq_getElem?_getD, hi]

/-- Changed bits change the syndrome by their own. -/
theorem syndrome_flip (w x : StoredWord) : syndrome (w.flip x) = syndrome w ^^^ syndrome x := by
  refine Nat.eq_of_testBit_eq fun i => ?_
  rw [Nat.testBit_xor, testBit_syndrome, testBit_syndrome, testBit_syndrome, StoredWord.flip, checkBit_xor, BitVec.getLsbD_xor,
    ← Bool.and_xor_distrib_left]
  simp only [Bool.xor_assoc, Bool.xor_left_comm]

theorem wordParity_flip (w x : StoredWord) : wordParity (w.flip x) = (wordParity w ^^ wordParity x) := by
  rw [wordParity, wordParity, wordParity, StoredWord.flip, parity_xor, parity_xor]
  simp only [Bool.xor_assoc, Bool.xor_left_comm]

/-! ## An encoded word (R10) -/

/-- The bits of the check byte: c0 to c6 and c7. -/
theorem getLsbD_checkByte (d : Word) {i : Nat} (hi : i < 8) :
    (checkByte d).getLsbD i = if i < 7 then checkBit i d else checkBit7 d := by
  rw [checkByte, BitVec.getLsbD_ofNat, testBit_bitsToNat]
  by_cases h : i < 7
  · simp [hi, h, lowCheckBits, List.getD_eq_getElem?_getD]
  · obtain rfl : i = 7 := by omega
    simp [lowCheckBits, List.getD_eq_getElem?_getD]

theorem syndrome_encodeWord (d : Word) : syndrome (encodeWord d) = 0 := by
  refine Nat.eq_of_testBit_eq fun i => ?_
  rw [testBit_syndrome, Nat.zero_testBit]
  by_cases hi : i < 7
  · simp [encodeWord, getLsbD_checkByte d (show i < 8 by omega), hi]
  · simp [hi]

/-- c7 makes the number of ones even. -/
theorem wordParity_encodeWord (d : Word) : wordParity (encodeWord d) = false := by
  have h7 : checkBit7 d = (checkBit 0 d ^^ (checkBit 1 d ^^ (checkBit 2 d ^^ (checkBit 3 d ^^ (checkBit 4 d ^^ (checkBit 5 d ^^
    (checkBit 6 d ^^ parity d))))))) := rfl
  have hcheck : parity (checkByte d) = (checkBit 0 d ^^ (checkBit 1 d ^^ (checkBit 2 d ^^ (checkBit 3 d ^^ (checkBit 4 d ^^
      (checkBit 5 d ^^ (checkBit 6 d ^^ (checkBit7 d ^^ false)))))))) := by
    have hbits : parity (checkByte d) = ((checkByte d).getLsbD 0 ^^ ((checkByte d).getLsbD 1 ^^ ((checkByte d).getLsbD 2 ^^
      ((checkByte d).getLsbD 3 ^^ ((checkByte d).getLsbD 4 ^^ ((checkByte d).getLsbD 5 ^^ ((checkByte d).getLsbD 6 ^^
        ((checkByte d).getLsbD 7 ^^ false)))))))) := rfl
    rw [hbits]
    simp only [getLsbD_checkByte, Nat.reduceLT, reduceIte]
  have heven : ∀ c0 c1 c2 c3 c4 c5 c6 p : Bool,
      (p ^^ (c0 ^^ (c1 ^^ (c2 ^^ (c3 ^^ (c4 ^^ (c5 ^^ (c6 ^^ ((c0 ^^ (c1 ^^ (c2 ^^ (c3 ^^ (c4 ^^ (c5 ^^ (c6 ^^ p))))))) ^^ false))))))))) =
        false := by decide
  rw [wordParity, encodeWord, hcheck, h7]
  exact heven _ _ _ _ _ _ _ _

/-! ## The 72 bits and their code positions (R10) -/

/-- Bit `k` of the 72 alone: the 64 data bits, then c0 to c7. -/
def codeBit (k : Nat) : StoredWord := if k < 64 then ⟨1#64 <<< k, 0⟩ else ⟨0, 1#8 <<< (k - 64)⟩

/-- The code position of bit `k` of the 72; c7 stands at none. -/
def codePosition (k : Nat) : Nat := if k < 64 then dataPosition k else if k < 71 then 2 ^ (k - 64) else 0

theorem syndrome_codeBit : ∀ k < 72, syndrome (codeBit k) = codePosition k := by decide +kernel

theorem wordParity_codeBit : ∀ k < 72, wordParity (codeBit k) = true := by decide +kernel

theorem codePosition_le : ∀ k < 72, codePosition k ≤ 71 := by decide +kernel

/-- No two bits share a position. -/
theorem codePosition_inj : ∀ j < 72, ∀ k < 72, codePosition j = codePosition k → j = k := by decide +kernel

/-- The data bit that a position names is the one that stands there. -/
theorem bitAtPosition_codePosition : ∀ k < 72, bitAtPosition (codePosition k) = if k < 64 then some k else none := by
  decide +kernel

/-! ## The classes (R12, R14) -/

theorem syndrome_poisonPattern : syndrome poisonPattern = 3 := by decide +kernel

theorem wordParity_poisonPattern : wordParity poisonPattern = false := by decide +kernel

theorem classify_of_odd {w : StoredWord} (hp : wordParity w = true) (hs : syndrome w ≤ 71) : classify w = .corrected := by
  have hne : w ≠ poisonPattern := by
    rintro rfl
    rw [wordParity_poisonPattern] at hp
    cases hp
  simp [classify, hne, hp, hs]

theorem classify_encodeWord (d : Word) : classify (encodeWord d) = .clean := by
  have hne : encodeWord d ≠ poisonPattern := fun h => by
    have hs := syndrome_encodeWord d
    rw [h, syndrome_poisonPattern] at hs
    cases hs
  simp [classify, hne, wordParity_encodeWord, syndrome_encodeWord]

/-- One changed bit: an odd number of ones, and the syndrome is the bit's position. -/
theorem flip_one (d : Word) {k : Nat} (hk : k < 72) :
    wordParity ((encodeWord d).flip (codeBit k)) = true ∧ syndrome ((encodeWord d).flip (codeBit k)) = codePosition k := by
  rw [wordParity_flip, syndrome_flip, wordParity_encodeWord, syndrome_encodeWord, wordParity_codeBit k hk, syndrome_codeBit k hk]
  simp

/-- Two changed bits: an even number of ones, and a syndrome that is not 0. -/
theorem flip_two (d : Word) {j k : Nat} (hj : j < 72) (hk : k < 72) (hne : j ≠ k) :
    wordParity (((encodeWord d).flip (codeBit j)).flip (codeBit k)) = false ∧
    syndrome (((encodeWord d).flip (codeBit j)).flip (codeBit k)) ≠ 0 := by
  obtain ⟨hparity, hsyn⟩ := flip_one d hj
  rw [wordParity_flip, syndrome_flip, hparity, hsyn, wordParity_codeBit k hk, syndrome_codeBit k hk]
  refine ⟨rfl, fun h => hne (codePosition_inj j hj k hk (Nat.xor_eq_zero_iff.mp h))⟩

theorem deliveredData_of_even {w : StoredWord} (h : wordParity w = false) : deliveredData w = w.data := by
  simp [deliveredData, h]

/-- The changed bit is put right where it is a data bit. -/
theorem deliveredData_flip_one (d : Word) {k : Nat} (hk : k < 72) : deliveredData ((encodeWord d).flip (codeBit k)) = d := by
  obtain ⟨hparity, hsyn⟩ := flip_one d hk
  rw [deliveredData, if_pos hparity, hsyn, bitAtPosition_codePosition k hk]
  by_cases h : k < 64
  · simp [h, StoredWord.flip, codeBit, encodeWord]
  · simp [h, StoredWord.flip, codeBit, encodeWord]

theorem classify_flip_two (d : Word) {j k : Nat} (hj : j < 72) (hk : k < 72) (hne : j ≠ k) :
    classify (((encodeWord d).flip (codeBit j)).flip (codeBit k)) = .uncorrectable ∨
      ((encodeWord d).flip (codeBit j)).flip (codeBit k) = poisonPattern := by
  obtain ⟨hparity, hsyn⟩ := flip_two d hj hk hne
  by_cases hp : ((encodeWord d).flip (codeBit j)).flip (codeBit k) = poisonPattern
  · exact .inr hp
  · exact .inl (by simp [classify, hp, hparity, hsyn])

end Sys2Proof.Machine

open Sys2Proof Sys2Proof.Machine

/-- Settles O51: the syndrome is linear, so it shows the positions of the changed bits alone. -/
theorem checkCodeCorrectsOneAndDetectsTwo : Obligations.CheckCodeCorrectsOneAndDetectsTwo := by
  refine ⟨fun d => ⟨classify_encodeWord d, deliveredData_of_even (wordParity_encodeWord d)⟩, fun d k hk => ?_,
    fun d j hj k hk hne => classify_flip_two d hj hk hne, by decide +kernel, by decide +kernel, by decide +kernel,
    by decide +kernel, by decide +kernel⟩
  obtain ⟨hparity, hsyn⟩ := flip_one d hk
  exact ⟨classify_of_odd hparity (hsyn ▸ codePosition_le k hk), deliveredData_flip_one d hk⟩

end

-- ==== Proofs: MigrationRules ====
section
/-! SUPPORT. The few changes that Remap Table, roles, Retire and Repair Queue go through (R16 to R29, R146 to R165), and that every effect is made of them: what these
changes keep, every step keeps. -/

namespace Sys2Proof.Machine

/-! ## States with the same moves under way -/

/-- `t` has entries and roles of `s`, and its queues name nothing that those of `s` do not name. -/
structure State.SameMoves (s t : State) : Prop where
  online : t.mode = .online ↔ s.mode = .online
  geometry : t.rc.geometry = s.rc.geometry
  remap : t.rc.remap = s.rc.remap
  segs : t.rc.segs.length = s.rc.segs.length
  role : ∀ p, (t.seg p).role = (s.seg p).role
  idle : t.me.state = .idle ↔ s.me.state = .idle
  retire : t.me.queue.Sublist s.me.queue
  repair : ∀ x ∈ t.ru.queue, ∃ y ∈ s.ru.queue, x.addr = y.addr

/-- The four fields that hold entries, roles and queues. -/
theorem State.SameMoves.of_eq {s t : State} (hmode : t.mode = s.mode) (hrc : t.rc = s.rc) (hme : t.me = s.me) (hru : t.ru = s.ru) :
    s.SameMoves t where
  online := by rw [hmode]
  geometry := by rw [hrc]
  remap := by rw [hrc]
  segs := by rw [hrc]
  role p := congrArg SegRecord.role (State.seg_congr (by rw [hrc]) p)
  idle := by rw [hme]
  retire := by rw [hme]
  repair x hx := ⟨x, hru ▸ hx, rfl⟩

/-- The same but for the Repair Queue, from which entries may have left. -/
theorem State.SameMoves.of_repair {s t : State} (hmode : t.mode = s.mode) (hrc : t.rc = s.rc) (hme : t.me = s.me)
    (hru : ∀ x ∈ t.ru.queue, x ∈ s.ru.queue) : s.SameMoves t :=
  { State.SameMoves.of_eq (t := { t with ru := s.ru }) hmode hrc hme rfl with repair := fun x hx => ⟨x, hru x hx, rfl⟩ }

/-- The same but for the ME's state, IDLE as before or in a migration as before. -/
theorem State.SameMoves.of_engine {s t : State} (hmode : t.mode = s.mode) (hrc : t.rc = s.rc)
    (hidle : t.me.state = .idle ↔ s.me.state = .idle) (hq : t.me.queue = s.me.queue) (hru : ∀ x ∈ t.ru.queue, x ∈ s.ru.queue) :
    s.SameMoves t :=
  { State.SameMoves.of_repair (t := { t with me := s.me }) hmode hrc rfl hru with
    idle := hidle
    retire := by rw [hq] }

theorem State.SameMoves.trans {s t u : State} (h : s.SameMoves t) (h' : t.SameMoves u) : s.SameMoves u where
  online := h'.online.trans h.online
  geometry := h'.geometry.trans h.geometry
  remap := h'.remap.trans h.remap
  segs := h'.segs.trans h.segs
  role p := (h'.role p).trans (h.role p)
  idle := h'.idle.trans h.idle
  retire := h'.retire.trans h.retire
  repair x hx := by
    obtain ⟨y, hy, hxy⟩ := h'.repair x hx
    obtain ⟨z, hz, hyz⟩ := h.repair y hy
    exact ⟨z, hz, hxy.trans hyz⟩

/-! ## The changes -/

/-- Logical segment `g` may be appended to the Retire Queue: RETIRE has checked it or it is served by an IN_USE segment, and it is neither queued nor moving
(R125, R148). -/
def State.MayRetire (s : State) (g : Nat) : Prop :=
  (s.mode = .online ∧ g < s.numL ∨ ∃ p, s.logicalOf p = some g) ∧ s.queuedForRetire g = false ∧ s.isCopying g = false

/-- `P` is kept by what a read's words and an epoch's pass can do: offers to the Repair and the Retire Queue, and a migration's start (R80, R125, R151). -/
structure OfferRules (P : State → Prop) : Prop where
  same : ∀ {s t}, s.SameMoves t → P s → P t
  append : ∀ {s g} o, s.MayRetire g → P s → P (State.appendRetire g o s)
  offer : ∀ {s} (x : RepairEntry), (s.seg x.addr.segment).role = .inUse → P s →
    P { s with ru := { s.ru with queue := s.ru.queue ++ [x] } }
  start : ∀ {s h rest t i e}, s.mode = .online → s.me.state = .idle → s.me.queue = h :: rest → s.lowestSpare = some t →
    s.startEntry h.logical h.origin.remap = some (i, e) → P s →
    P (State.bindTarget i e t { s with me := { s.me with queue := rest, state := .copyRead false, step := .raised } })

/-- `P` is kept by every change of entries, roles and queues. -/
structure MigrationRules (P : State → Prop) : Prop extends OfferRules P where
  migrationOk : ∀ {s}, P s → s.MigrationOk
  reset : P State.reset
  goOnline : ∀ {s p n}, s.mode ≠ .online → validGeometry p n = true → P s → P (State.startOnline p n s)
  engineReset : ∀ {s}, P s → P s.resetBlocks
  advance : ∀ {s i e} n, s.copying = some (i, e) → e.cursor + 1 < 4096 → P s →
    P (State.setEntry i (.copying { e with cursor := e.cursor + 1, poisoned := n }) s)
  fail : ∀ {s i e}, s.copying = some (i, e) → P s → P (State.failTarget i e s)
  cancel : ∀ {s i e}, s.copying = some (i, e) → P s → P (State.cancelRevert i e s)
  commit : ∀ {s i e} n, s.copying = some (i, e) → P s → P (State.commit i e n s)
  restore : ∀ {s g t}, s.checkRestore g t = .ok → P s → P (State.doRestore g t s)

namespace OfferRules

variable {P : State → Prop} {s t : State}

theorem of_eq (h : OfferRules P) (hs : P s) (hmode : t.mode = s.mode) (hrc : t.rc = s.rc) (hme : t.me = s.me) (hru : t.ru = s.ru) :
    P t :=
  h.same (.of_eq hmode hrc hme hru) hs

/-! ## A migration's start and the retire offers (R125, R151) -/

theorem startFrom (h : OfferRules P) (q : List RetireEntry) (hm : s.mayStart = true)
    (hs : P { s with me := { s.me with queue := q } }) : P (State.startFrom q s) := by
  induction q generalizing s with
  | nil => exact hs
  | cons x rest ih =>
    unfold State.startFrom
    split_ifs
    · exact hs
    · split
      next t hspare =>
        unfold State.beginMigration
        split
        next i e he =>
          simp only [State.mayStart, Bool.and_eq_true, beq_iff_eq] at hm
          obtain ⟨⟨⟨hmode, hidle⟩, -⟩, -⟩ := hm
          exact h.start hmode hidle rfl hspare he hs
        next => exact hs
      next =>
        refine ih hm (h.same (s := { s with me := { s.me with queue := x :: rest } })
          ⟨.rfl, rfl, rfl, rfl, fun _ => rfl, .rfl, ?_, fun y hy => ⟨y, hy, rfl⟩⟩ hs)
        exact List.sublist_cons_self x rest

theorem migrationStart (h : OfferRules P) (hs : P s) : P s.migrationStart := by
  unfold State.migrationStart
  split_ifs with hm
  · exact h.startFrom _ hm hs
  · exact hs

theorem retireOffer (h : OfferRules P) (p : Nat) (hs : P s) : P (State.retireOffer p s) := by
  unfold State.retireOffer
  split
  next => exact hs
  next g hg =>
    split_ifs with hauto hclaim hspare hfull
    · exact hs
    · exact hs
    · exact h.of_eq hs rfl rfl rfl rfl
    · exact hs
    · simp only [Bool.or_eq_true, not_or, Bool.not_eq_true] at hclaim
      exact h.migrationStart (h.append .auto ⟨.inr ⟨p, hg⟩, hclaim⟩ hs)

theorem enterAlarm (h : OfferRules P) (p : Nat) (reason : AlarmReason) (hs : P s) : P (State.enterAlarm p reason s) :=
  h.retireOffer p (h.of_eq hs rfl rfl rfl rfl)

theorem completeCalibrate (h : OfferRules P) (hs : P s) : P s.completeCalibrate :=
  h.of_eq hs (by simp) (by simp) (by simp) (by simp)

theorem uncorrectableReport (h : OfferRules P) (p : Nat) (hs : P s) : P (State.uncorrectableReport p s) := by
  unfold State.uncorrectableReport
  split
  case h_5 => exact h.completeCalibrate (h.of_eq (h.enterAlarm p .uncorrectable hs) rfl rfl rfl rfl)
  case h_1 => exact hs
  case h_2 => exact hs
  all_goals exact h.enterAlarm p .uncorrectable hs

/-! ## The words of a read (R52, R93, R153) -/

theorem countCorrected (h : OfferRules P) (p : Nat) (hs : P s) : P (State.countCorrected p s) :=
  h.of_eq hs (by simp) (by simp) (by simp) (by simp)

theorem offerRepair (h : OfferRules P) (a : WordAddr) (d : Word) (hs : P s) : P (State.offerRepair a d s) := by
  unfold State.offerRepair
  split_ifs with hrole hqueued hfull
  · exact hs
  · refine h.same { State.SameMoves.of_eq (t := s) rfl rfl rfl rfl with repair := fun x hx => ?_ } hs
    obtain ⟨y, hy, rfl⟩ := List.mem_map.mp hx
    refine ⟨y, hy, ?_⟩
    split_ifs with hya
    · exact hya.symm
    · rfl
  · exact h.of_eq hs rfl rfl rfl rfl
  · exact h.offer ⟨a, d⟩ (by simpa using hrole) hs

theorem handleWords (h : OfferRules P) (offer : Bool) (p line : Nat) (ws : List (Nat × StoredWord)) (hs : P s) :
    P (State.handleWords offer p line ws s) := by
  induction ws generalizing s with
  | nil => exact hs
  | cons x rest ih =>
    obtain ⟨w, x⟩ := x
    unfold State.handleWords
    refine ih ?_
    split
    · exact hs
    · exact hs
    · split_ifs
      · exact h.offerRepair _ _ (h.countCorrected p hs)
      · exact h.countCorrected p hs
    · exact h.uncorrectableReport p (h.of_eq hs (by simp) (by simp) (by simp) (by simp))

theorem handleSweepLine (h : OfferRules P) (o : FaultOrigin) (op : PortOp) (hs : P s) : P (State.handleSweepLine o op s) :=
  h.of_eq (h.handleWords true op.segment op.line (selectWords (fun _ => true) (State.readLine op s)) hs)
    (by simp [State.handleSweepLine]) (by simp [State.handleSweepLine]) (by simp [State.handleSweepLine]) (by simp [State.handleSweepLine])

/-! ## The epoch's pass (R111) -/

theorem passOne (h : OfferRules P) (p raw : Nat) (ds : Deltas) (hs : P s) : P (State.passOne p raw ds s) := by
  have hput : ∀ r, P (State.putHealth p r s) := fun r => h.of_eq hs rfl rfl rfl rfl
  unfold State.passOne
  dsimp only
  split
  next => exact hs
  next left _ =>
    unfold State.passBaseline
    dsimp only
    split_ifs
    · exact h.of_eq (h.enterAlarm p .calibration (hput _)) rfl rfl rfl rfl
    · exact h.of_eq hs (by simp) (by simp) (by simp) (by simp)
    · exact hput _
  next => exact h.of_eq hs (by simp) (by simp) (by simp) (by simp)
  next a snap _ =>
    unfold State.passWatch
    dsimp only
    split
    · exact hput _
    · exact h.enterAlarm p .threshold (hput _)
    · exact hput _
    · exact hput _
  next => exact h.retireOffer p (hput _)

theorem passOver (h : OfferRules P) (raws ps : List Nat) (ds : Deltas) (hs : P s) : P (State.passOver raws ps ds s) := by
  induction ps generalizing ds s with
  | nil => exact hs
  | cons p rest ih => exact ih _ (h.passOne p _ ds hs)

theorem endEpochTimer (h : OfferRules P) (hs : P s) : P s.endEpochTimer := by
  unfold State.endEpochTimer
  split
  · exact h.of_eq (h.completeCalibrate (h.passOver _ _ _ (h.of_eq (t := s.takeRaws) hs rfl rfl rfl rfl))) rfl rfl rfl rfl
  · exact hs

end OfferRules

/-- While a migration runs, offers leave it running: none starts (R150). -/
theorem offerRules_busy : OfferRules fun s => s.me.state ≠ .idle where
  same hst hs := by rwa [ne_eq, hst.idle]
  append _ _ hs := hs
  offer _ _ hs := hs
  start _ hidle _ _ _ hs := absurd hidle hs

/-! ## Grants (R71, R83, R152) -/

theorem markRedo_sameMoves (p n : Nat) (s : State) : s.SameMoves (State.markRedo p n s) := by
  refine .of_engine (by simp) (by simp) ?_ ?_ (by simp)
  all_goals
    unfold State.markRedo
    split
    · split_ifs
      · split <;> simp_all
      · rfl
    · rfl

theorem issueDemand_sameMoves (r : Request) (ph : DemandPhase) (g : Nat) (s : State) : s.SameMoves (State.issueDemand r ph g s) := by
  unfold State.issueDemand
  cases ph with
  | read => exact .of_eq rfl rfl rfl rfl
  | mergeRead => exact .of_eq rfl rfl rfl rfl
  | write st failed =>
    refine State.SameMoves.trans ?_ (.trans (markRedo_sameMoves _ _ _) (.of_eq rfl rfl rfl rfl))
    exact .of_repair rfl rfl rfl fun x hx => List.mem_of_mem_filter hx
  | dual failed => exact .of_eq rfl rfl rfl rfl

theorem grantDemand_sameMoves (s : State) : s.SameMoves s.grantDemand := by
  unfold State.grantDemand
  split
  · split
    · exact issueDemand_sameMoves _ _ _ _
    · exact .of_eq (by simp) (by simp) (by simp) (by simp)
  all_goals exact .of_eq rfl rfl rfl rfl

theorem grantRepair_sameMoves (s : State) : s.SameMoves s.grantRepair := by
  unfold State.grantRepair
  split
  · exact .of_repair rfl rfl rfl fun x hx => hx
  · exact .of_eq rfl rfl rfl rfl

theorem grantMigration_sameMoves (s : State) : s.SameMoves s.grantMigration := by
  unfold State.grantMigration
  split
  · split
    next h => exact .of_engine rfl rfl (by simp [h]) rfl fun x hx => hx
    next h => exact .of_engine rfl rfl (by simp) rfl fun x hx => List.mem_of_mem_filter hx
    next h => exact .of_engine rfl rfl (by simp) rfl fun x hx => hx
    all_goals exact .of_eq rfl rfl rfl rfl
  · exact .of_eq rfl rfl rfl rfl

theorem grantSweep_sameMoves (s : State) : s.SameMoves s.grantSweep := by
  unfold State.grantSweep
  split_ifs
  · exact .of_eq rfl rfl rfl rfl
  · split
    · exact .of_eq rfl rfl rfl rfl
    · split
      · exact .of_repair rfl rfl rfl fun x hx => List.mem_of_mem_filter hx
      · exact .of_eq rfl rfl rfl rfl
    · split
      · exact .of_eq rfl rfl rfl rfl
      · exact .of_eq rfl rfl rfl rfl

theorem chooseFrom_sameMoves (n : Nat) (s : State) : s.SameMoves (State.chooseFrom n s) := by
  induction n generalizing s with
  | zero =>
    unfold State.chooseFrom State.grantBackground
    split
    · exact grantRepair_sameMoves s
    · exact grantMigration_sameMoves s
    · exact grantSweep_sameMoves s
    all_goals exact .of_eq rfl rfl rfl rfl
  | succ n ih =>
    unfold State.chooseFrom
    split
    · split
      · exact grantDemand_sameMoves s
      · exact (grantDemand_sameMoves s).trans (.trans (.of_eq (by simp) (by simp) (by simp) (by simp)) (ih _))
    · exact grantRepair_sameMoves s
    · exact grantMigration_sameMoves s
    · exact grantSweep_sameMoves s
    · exact .of_eq rfl rfl rfl rfl

theorem arrayGrant_sameMoves (s : State) : s.SameMoves s.arrayGrant := by
  unfold State.arrayGrant
  split
  · exact .of_eq rfl rfl rfl rfl
  · exact chooseFrom_sameMoves _ _

/-! ## Completions that only empty queues or fill segments (R55, R82, R99) -/

theorem completeWrite_sameMoves (s : State) : s.SameMoves s.completeWrite := by
  refine .of_repair (by simp) (by simp) (by simp) ?_
  unfold State.completeWrite State.finishWrite
  split
  · split
    · intro x hx
      simpa using List.mem_of_mem_filter hx
    · simp
  · exact fun x hx => hx

theorem completeRepair_sameMoves (s : State) : s.SameMoves s.completeRepair := by
  refine .of_repair (by simp) (by simp) (by simp) ?_
  unfold State.completeRepair
  split
  · intro x hx
    simpa using List.mem_of_mem_filter hx
  · exact fun x hx => hx

/-- A filled flag changes no role. -/
theorem setFilled_sameMoves (p : Nat) (b : Bool) (s : State) : s.SameMoves (State.setFilled p b s) where
  online := .rfl
  geometry := rfl
  remap := rfl
  segs := List.length_set
  role q := by
    rw [State.seg_setFilled]
    split_ifs with h
    · rw [h.1]
    · rfl
  idle := .rfl
  retire := .refl _
  repair x hx := ⟨x, hx, rfl⟩

theorem completeFillSegment_sameMoves (run : SweepRun) (pos : SweepPos) (s : State) :
    s.SameMoves (State.completeFillSegment run pos s) := by
  refine (setFilled_sameMoves pos.physical true s).trans ?_
  unfold State.completeFillSegment
  dsimp only
  split_ifs
  · exact .of_eq (by simp) (by simp) (by simp) (by simp)
  · exact .of_eq (by simp) (by simp) (by simp) (by simp)

theorem advanceFill_sameMoves (run : SweepRun) (pos : SweepPos) (s : State) : s.SameMoves (State.advanceFill run pos s) := by
  unfold State.advanceFill
  split_ifs
  · exact .of_eq rfl rfl rfl rfl
  · exact completeFillSegment_sameMoves run pos s

theorem storeLine_sameMoves (op : PortOp) (s : State) : s.SameMoves (State.storeLine op s) :=
  .of_eq (by simp) (by simp) (by simp) (by simp)

theorem completeFill_sameMoves (s : State) : s.SameMoves s.completeFill := by
  unfold State.completeFill
  split
  next op run _ _ =>
    split
    next pos _ _ =>
      exact ((storeLine_sameMoves op s).trans (advanceFill_sameMoves run pos _)).trans (.of_eq rfl rfl rfl rfl)
    next => exact .of_eq rfl rfl rfl rfl
  next => exact .of_eq rfl rfl rfl rfl

/-! ## A code taken that touches none of the four fields -/

section
variable {code : Byte} {body : State → State} {s : State}

@[simp] theorem State.takeCommand_rc (h : ∀ t, (body t).rc = t.rc) : (State.takeCommand code body s).rc = s.rc :=
  State.takeCommand_keeps State.rc code body s rfl rfl h

@[simp] theorem State.takeCommand_me (h : ∀ t, (body t).me = t.me) : (State.takeCommand code body s).me = s.me :=
  State.takeCommand_keeps State.me code body s rfl rfl h

@[simp] theorem State.takeCommand_ru (h : ∀ t, (body t).ru = t.ru) : (State.takeCommand code body s).ru = s.ru :=
  State.takeCommand_keeps State.ru code body s rfl rfl h

end

/-- The commands that can change mode, entries, roles or the queues that name segments. -/
def changesMoves : Instr → Bool
  | .powerOnReset _ _ | .initComplete | .arrayGrant | .demandReadComplete _ | .demandMergeReadComplete _ | .demandWriteComplete
  | .repairWriteComplete | .patrolReadComplete _ | .fillWriteComplete | .verifySweepReadComplete _ | .copyReadComplete _
  | .copyWriteComplete | .verifyReadComplete _ | .epochEnd | .migrationStart | .goOnline | .engineReset | .retire
  | .cancelMigration | .quiesce | .resume | .restore => true
  | _ => false

theorem effect_sameMoves (c : Instr) (s : State) (h : changesMoves c = false) : s.SameMoves (effect c s) := by
  have hkeep : (effect c s).mode = s.mode ∧ (effect c s).rc = s.rc ∧ (effect c s).me = s.me ∧ (effect c s).ru = s.ru := by
    cases c <;> simp [changesMoves, effect] at h ⊢
  obtain ⟨hmode, hrc, hme, hru⟩ := hkeep
  exact .of_eq hmode hrc hme hru

/-- The ME's flag set or cleared (R166, R167). -/
theorem setQuiesced_sameMoves (b : Bool) (s : State) : s.SameMoves (State.setQuiesced b s) :=
  .of_engine (by simp) (by simp) (by simp [State.setQuiesced]) (by simp [State.setQuiesced]) (by simp)

/-! ## The COPYING entry (R17, R149) -/

theorem State.copying_getElem {s : State} {i : Nat} {e : CopyingEntry} (h : s.copying = some (i, e)) :
    s.rc.remap[i]? = some (.copying e) := by
  unfold State.copying at h
  split at h
  next j hj =>
    obtain ⟨x, hx, hxe⟩ := Option.map_eq_some_iff.mp h
    cases hxe
    have hlt : i < s.rc.remap.length := (List.findIdx?_eq_some_iff_getElem.mp hj).1
    rw [State.entryAt, List.getD_eq_getElem _ _ hlt] at hx
    rw [List.getElem?_eq_getElem hlt]
    cases he : s.rc.remap[i] with
    | copying y =>
      rw [he] at hx
      exact congrArg (fun z => some (RemapEntry.copying z)) (Option.some.inj hx)
    | free => rw [he] at hx; cases hx
    | active y => rw [he] at hx; cases hx
  next => cases h

/-- A migration runs while an entry is COPYING. -/
theorem State.MigrationOk.busy {s : State} (h : s.MigrationOk) {i : Nat} {e : CopyingEntry} (hc : s.copying = some (i, e)) :
    s.me.state ≠ .idle := by
  intro hidle
  have hcount : s.copyingCount = 0 := by rw [h.1, if_pos hidle]
  have hmem : RemapEntry.copying e ∈ s.rc.remap.filter fun x => x.copying?.isSome :=
    List.mem_filter.mpr ⟨List.mem_of_getElem? (State.copying_getElem hc), rfl⟩
  exact absurd (List.length_pos_of_mem hmem) (by rw [State.copyingCount] at hcount; omega)

namespace MigrationRules

variable {P : State → Prop} {s : State}

/-! ## The ME's completions (R153, R155, R156, R165) -/

/-- The ME goes on in a migration. -/
theorem setMe (h : MigrationRules P) (m : MigState) (st : OpStep) (hm : m ≠ .idle) (hb : s.me.state ≠ .idle) (hs : P s) :
    P (State.setMe m st s) :=
  h.same (.of_engine (s := s) rfl rfl (iff_of_false hm hb) rfl fun _ hx => hx) hs

theorem finishCancel (h : MigrationRules P) (hs : P s) : P s.finishCancel := by
  unfold State.finishCancel
  split
  next i e hc => exact h.of_eq (h.cancel hc hs) rfl rfl rfl rfl
  next => exact hs

theorem finishCopyRead (h : MigrationRules P) (redo : Bool) (e : CopyingEntry) (op : PortOp) (hb : s.me.state ≠ .idle) (hs : P s) :
    P (State.finishCopyRead redo e op s) := by
  unfold State.finishCopyRead
  dsimp only
  have hwords := h.handleWords false op.segment op.line (selectWords (fun _ => true) (State.readLine op s)) hs
  have hbusy := offerRules_busy.handleWords false op.segment op.line (selectWords (fun _ => true) (State.readLine op s)) hb
  generalize State.handleWords false op.segment op.line _ s = t at hwords hbusy
  have hreport : P (State.reportCopy e op (selectWords (fun _ => true) (State.readLine op s)) t) :=
    h.of_eq hwords (by simp) (by simp) (by simp) (by simp)
  exact h.of_eq (h.setMe _ .raised (by simp) (by simpa using hbusy) hreport) rfl rfl rfl rfl

theorem completeCopyRead (h : MigrationRules P) (flips : LineFlips) (hs : P s) : P (s.completeCopyRead flips) := by
  have hflip : ∀ op, P (State.flipLine op flips s) := fun op => h.of_eq hs rfl rfl rfl rfl
  unfold State.completeCopyRead
  split
  next op i e _ _ =>
    split
    next redo hst => exact h.finishCopyRead redo e op (by simp [hst]) (hflip op)
    next =>
      split_ifs
      · exact h.of_eq (h.finishCancel (hflip op)) rfl rfl rfl rfl
      · exact hs
    all_goals exact hs
  next => exact hs

theorem completeCopyWrite (h : MigrationRules P) (hs : P s) : P s.completeCopyWrite := by
  have hstore : ∀ op, P (State.storeLine op s) := fun op => h.of_eq hs (by simp) (by simp) (by simp) (by simp)
  unfold State.completeCopyWrite
  split
  next op _ =>
    split
    next b redo hst => exact h.of_eq (h.setMe (.verifyRead b redo) .raised (by simp) (by simp [hst]) (hstore op)) rfl rfl rfl rfl
    next =>
      split_ifs
      · exact h.of_eq (h.finishCancel (hstore op)) rfl rfl rfl rfl
      · exact hs
    all_goals exact hs
  next => exact hs

theorem endLine (h : MigrationRules P) {i : Nat} {e : CopyingEntry} (buffer : List StoreWord) (redo : Bool)
    (hc : s.copying = some (i, e)) (hs : P s) : P (State.endLine i e buffer redo s) := by
  have hb : s.me.state ≠ .idle := (h.migrationOk hs).busy hc
  unfold State.endLine
  split_ifs with hredo hcur
  · exact h.setMe _ _ (by simp) hb hs
  · exact h.setMe _ _ (by simp) hb (h.advance _ hc hcur hs)
  · exact h.commit _ hc hs

theorem completeVerifyRead (h : MigrationRules P) (flips : LineFlips) (hs : P s) : P (s.completeVerifyRead flips) := by
  have hflip : ∀ op, P (State.flipLine op flips s) := fun op => h.of_eq hs rfl rfl rfl rfl
  unfold State.completeVerifyRead
  split
  next op i e _ hc =>
    split
    next b redo hst =>
      unfold State.finishVerifyRead
      dsimp only
      refine h.of_eq (s := ite _ _ _) ?_ rfl rfl rfl rfl
      split_ifs
      · exact h.endLine b redo hc (hflip op)
      · refine h.fail ?_ (h.of_eq (hflip op) (by simp) (by simp) (by simp) (by simp))
        simpa [State.copying, State.copyingIndex, State.entryAt] using hc
    next =>
      split_ifs
      · exact h.of_eq (h.finishCancel (hflip op)) rfl rfl rfl rfl
      · exact hs
    all_goals exact hs
  next => exact hs

/-! ## Commands (R28, R148, R164, R189, R194) -/

/-- A code taken keeps what its body keeps. -/
theorem takeCommand (h : MigrationRules P) (code : Byte) {body : State → State} (hbody : ∀ t, P t → P (body t)) (hs : P s) :
    P (State.takeCommand code body s) :=
  s.takeCommand_holds code body hs (h.of_eq hs rfl rfl rfl rfl) (hbody _ (h.of_eq hs rfl rfl rfl rfl))

theorem takeRetire (h : MigrationRules P) (hs : P s) : P s.takeRetire := by
  unfold State.takeRetire
  dsimp only
  refine h.of_eq (s := ite _ _ _) ?_ rfl rfl rfl rfl
  split_ifs with hok
  · refine h.append .manual ?_ hs
    unfold State.checkRetire at hok
    split_ifs at hok with hmode hrange hclaim hfull hspare
    simp only [Bool.or_eq_true, not_or, Bool.not_eq_true] at hclaim
    exact ⟨.inl ⟨by simpa using hmode, by omega⟩, hclaim⟩
  · exact hs

theorem takeCancel (h : MigrationRules P) (hs : P s) : P s.takeCancel := by
  unfold State.takeCancel
  split
  next => exact h.of_eq hs rfl rfl rfl rfl
  next =>
    split
    next => exact h.of_eq hs rfl rfl rfl rfl
    next x hc =>
      have hb : (State.startLong 0x21 s).me.state ≠ .idle := (h.migrationOk hs).busy (i := x.1) (e := x.2) hc
      have hset : ∀ st, P (State.setMe .cancelling st (State.startLong 0x21 s)) := fun st =>
        h.setMe .cancelling st (by simp) hb (h.of_eq hs rfl rfl rfl rfl)
      split_ifs
      · exact hset _
      · exact h.finishCancel (hset _)

theorem takeQuiesce (h : MigrationRules P) (hs : P s) : P s.takeQuiesce := by
  have hset : P (State.setQuiesced true s) := h.same (setQuiesced_sameMoves true s) hs
  unfold State.takeQuiesce
  dsimp only
  split_ifs
  · exact h.of_eq hs rfl rfl rfl rfl
  · exact h.of_eq hset rfl rfl rfl rfl
  · exact h.of_eq hset rfl rfl rfl rfl

theorem takeResume (h : MigrationRules P) (hs : P s) : P s.takeResume := by
  unfold State.takeResume
  split_ifs
  · exact h.of_eq hs rfl rfl rfl rfl
  · exact h.of_eq (h.same (setQuiesced_sameMoves false s) hs) rfl rfl rfl rfl

theorem takeRestore (h : MigrationRules P) (hs : P s) : P s.takeRestore := by
  unfold State.takeRestore
  dsimp only
  refine h.of_eq (s := ite _ _ _) ?_ rfl rfl rfl rfl
  split_ifs with hok
  · exact h.restore hok hs
  · exact hs

theorem takeGoOnline (h : MigrationRules P) (hs : P s) : P s.takeGoOnline := by
  unfold State.takeGoOnline
  split_ifs with hmode hv
  · exact h.of_eq hs rfl rfl rfl rfl
  · exact h.of_eq (h.goOnline hmode hv hs) rfl rfl rfl rfl
  · exact h.of_eq hs rfl rfl rfl rfl

theorem takeEngineReset (h : MigrationRules P) (hs : P s) : P s.engineReset := by
  unfold State.engineReset
  split_ifs
  · exact hs
  · have habort : P s.abortLong := h.of_eq hs (by simp) (by simp) (by simp) (by simp)
    exact h.of_eq (h.engineReset habort) (by simp) (by simp) (by simp) (by simp)

theorem leaveInit (h : MigrationRules P) (hs : P s) : P s.leaveInit := by
  unfold State.leaveInit
  split_ifs with hm
  · exact h.same { State.SameMoves.of_eq (t := s) rfl rfl rfl rfl with online := by simp [hm] } hs
  · exact hs

/-! ## Reads that hand words on (R51, R56, R92, R102) -/

theorem completeRead (h : MigrationRules P) (flips : LineFlips) (hs : P s) : P (s.completeRead flips) := by
  unfold State.completeRead
  split
  next op r g _ _ _ =>
    have hflip : P (State.flipLine op flips s) := h.of_eq hs rfl rfl rfl rfl
    exact h.of_eq (h.handleWords true op.segment op.line (selectWords r.names (State.readLine op (State.flipLine op flips s))) hflip)
      (by simp [State.finishRead]) (by simp [State.finishRead]) (by simp [State.finishRead]) (by simp [State.finishRead])
  next => exact hs

theorem completeMergeRead (h : MigrationRules P) (flips : LineFlips) (hs : P s) : P (s.completeMergeRead flips) := by
  unfold State.completeMergeRead
  split
  next op r g _ _ _ =>
    have hflip : P (State.flipLine op flips s) := h.of_eq hs rfl rfl rfl rfl
    exact h.of_eq (h.handleWords false op.segment op.line (selectWords r.partialWord (State.readLine op (State.flipLine op flips s))) hflip)
      (by simp [State.finishMergeRead]) (by simp [State.finishMergeRead]) (by simp [State.finishMergeRead])
      (by simp [State.finishMergeRead])
  next => exact hs

theorem patrolLine (h : MigrationRules P) (op : PortOp) (hs : P s) : P (State.patrolLine op s) := by
  unfold State.patrolLine
  split_ifs
  · exact h.of_eq (h.handleSweepLine .patrol op hs) (by simp) (by simp) (by simp) (by simp)
  · exact h.of_eq hs (by simp) (by simp) (by simp) (by simp)

theorem completePatrol (h : MigrationRules P) (flips : LineFlips) (hs : P s) : P (s.completePatrol flips) := by
  unfold State.completePatrol
  split
  next op _ _ =>
    have hflip : P { State.flipLine op flips s with se := { (State.flipLine op flips s).se with patrolPending := .none } } :=
      h.of_eq hs rfl rfl rfl rfl
    exact h.of_eq (h.patrolLine op hflip) (by simp) (by simp) (by simp) (by simp)
  all_goals exact hs

theorem verifyLine (h : MigrationRules P) (run : SweepRun) (pos : SweepPos) (op : PortOp) (hs : P s) :
    P (State.verifyLine run pos op s) := by
  have hline := h.handleSweepLine .verify op hs
  unfold State.verifyLine
  generalize State.handleSweepLine .verify op s = t at hline ⊢
  dsimp only
  split
  · exact h.of_eq hline rfl rfl rfl rfl
  · split
    · exact h.of_eq hline rfl rfl rfl rfl
    · exact h.of_eq hline rfl rfl rfl rfl

theorem completeVerify (h : MigrationRules P) (flips : LineFlips) (hs : P s) : P (s.completeVerify flips) := by
  unfold State.completeVerify
  split
  next op run _ _ =>
    split
    next pos _ _ =>
      have hflip : P (State.flipLine op flips s) := h.of_eq hs rfl rfl rfl rfl
      exact h.of_eq (h.verifyLine run pos op hflip) (by simp) (by simp) (by simp) (by simp)
    next => exact hs
  next => exact hs

/-! ## Every step -/

theorem effect_keeps (h : MigrationRules P) (c : Instr) (hs : P s) : P (effect c s) := by
  cases hc : changesMoves c with
  | false => exact h.same (effect_sameMoves c s hc) hs
  | true =>
    cases c with
    | powerOnReset asel kept => exact h.of_eq h.reset rfl rfl rfl rfl
    | initComplete => exact h.leaveInit hs
    | arrayGrant => exact h.same (arrayGrant_sameMoves s) hs
    | demandReadComplete flips => exact h.completeRead flips hs
    | demandMergeReadComplete flips => exact h.completeMergeRead flips hs
    | demandWriteComplete => exact h.same (completeWrite_sameMoves s) hs
    | repairWriteComplete => exact h.same (completeRepair_sameMoves s) hs
    | patrolReadComplete flips => exact h.completePatrol flips hs
    | fillWriteComplete => exact h.same (completeFill_sameMoves s) hs
    | verifySweepReadComplete flips => exact h.completeVerify flips hs
    | copyReadComplete flips => exact h.completeCopyRead flips hs
    | copyWriteComplete => exact h.completeCopyWrite hs
    | verifyReadComplete flips => exact h.completeVerifyRead flips hs
    | epochEnd => exact h.endEpochTimer hs
    | migrationStart => exact h.migrationStart hs
    | goOnline => exact h.takeCommand 0x01 (fun _ => h.takeGoOnline) hs
    | engineReset => exact h.takeEngineReset hs
    | retire => exact h.takeCommand 0x20 (fun _ => h.takeRetire) hs
    | cancelMigration => exact h.takeCommand 0x21 (fun _ => h.takeCancel) hs
    | quiesce => exact h.takeCommand 0x22 (fun _ => h.takeQuiesce) hs
    | resume => exact h.takeCommand 0x23 (fun _ => h.takeResume) hs
    | restore => exact h.takeCommand 0x30 (fun _ => h.takeRestore) hs
    | _ => cases hc

theorem found_keeps (h : MigrationRules P) (c : Instr) (hs : P s) : P (found c s) := by
  have hstart : P s.beginRequests.migrationStart :=
    h.migrationStart (h.of_eq hs (by simp) (by simp) (by simp) (by simp))
  have hsettle : P s.settle :=
    h.of_eq (h.same (arrayGrant_sameMoves _) hstart) (by simp [State.settle]) (by simp [State.settle]) (by simp [State.settle])
      (by simp [State.settle])
  cases c with
  | requestExecute => exact hs
  | arrayGrant => exact hstart
  | migrationStart => exact hs
  | quiesceComplete => exact hs
  | _ => exact hsettle

/-- What the changes keep, every step keeps. -/
theorem step (h : MigrationRules P) {s t : State} (hs : P s) (hstep : Machine.step s = .next t) : P t := by
  refine step_keeps (P := P) (fun s t hst hs => ?_) (fun c s hs => h.found_keeps c hs) (fun c s hs => h.effect_keeps c hs) s t hs hstep
  rw [hst]
  exact h.of_eq hs rfl rfl rfl rfl

end MigrationRules

end Sys2Proof.Machine

end

-- ==== Proofs: OneMigration ====
section
/-! SUPPORT. How many entries are COPYING as one entry of the Remap Table is replaced, and that the changes keep at most one of them (R17, R149). -/

namespace Sys2Proof.Machine

/-! ## One entry replaced -/

/-- A list is one of its elements and the others. -/
theorem perm_cons_eraseIdx {α : Type} {l : List α} {i : Nat} {x : α} (h : l[i]? = some x) : l.Perm (x :: l.eraseIdx i) := by
  obtain ⟨hi, rfl⟩ := List.getElem?_eq_some_iff.mp h
  exact (List.getElem_cons_eraseIdx_perm hi).symm

/-- With that element replaced, the list is the new one and the others. -/
theorem set_perm_cons {α : Type} {l : List α} {i : Nat} {x : α} (h : l[i]? = some x) (y : α) :
    (l.set i y).Perm (y :: l.eraseIdx i) :=
  List.set_perm_cons_eraseIdx (List.getElem?_eq_some_iff.mp h).1 y

/-- How many of the entries are COPYING. -/
def copyingIn (l : List RemapEntry) : Nat := (l.filter fun e => e.copying?.isSome).length

theorem copyingIn_perm {l l' : List RemapEntry} (h : l.Perm l') : copyingIn l = copyingIn l' := (h.filter _).length_eq

theorem copyingIn_cons (x : RemapEntry) (l : List RemapEntry) :
    copyingIn (x :: l) = (if x.copying? = none then 0 else 1) + copyingIn l := by
  unfold copyingIn
  cases hx : x.copying? <;> simp [hx]
  omega

theorem copyingIn_eq_zero (l : List RemapEntry) : copyingIn l = 0 ↔ ∀ x ∈ l, x.copying? = none := by
  simp [copyingIn]

/-- No entry is COPYING while the ME is IDLE. -/
theorem State.MigrationOk.none_copying {s : State} (h : s.MigrationOk) (hidle : s.me.state = .idle) :
    ∀ x ∈ s.rc.remap, x.copying? = none :=
  (copyingIn_eq_zero _).mp (h.1.trans (if_pos hidle))

/-- Beside the COPYING entry there is no other. -/
theorem State.MigrationOk.others {s : State} (h : s.MigrationOk) {i : Nat} {e : CopyingEntry} (hc : s.copying = some (i, e)) :
    ∀ x ∈ s.rc.remap.eraseIdx i, x.copying? = none := by
  have hcount : copyingIn s.rc.remap = 1 := h.1.trans (if_neg (h.busy hc))
  rw [copyingIn_perm (perm_cons_eraseIdx (State.copying_getElem hc)), copyingIn_cons, if_neg (by simp [RemapEntry.copying?])] at hcount
  exact (copyingIn_eq_zero _).mp (by omega)

/-- A migration runs in ONLINE alone. -/
theorem State.MigrationOk.online {s : State} (h : s.MigrationOk) {i : Nat} {e : CopyingEntry} (hc : s.copying = some (i, e)) :
    s.mode = .online := by
  by_contra hmode
  exact h.busy hc (h.2 hmode)

/-- The number of COPYING entries after an entry is replaced. -/
theorem State.copyingCount_replace {s t : State} {i : Nat} {x y : RemapEntry} (h : s.rc.remap[i]? = some x)
    (ht : t.rc.remap = s.rc.remap.set i y) :
    t.copyingCount + (if x.copying? = none then 0 else 1) = s.copyingCount + if y.copying? = none then 0 else 1 := by
  show copyingIn t.rc.remap + _ = copyingIn s.rc.remap + _
  rw [ht, copyingIn_perm (set_perm_cons h y), copyingIn_perm (perm_cons_eraseIdx h), copyingIn_cons, copyingIn_cons]
  omega

section
variable {s t : State} {i : Nat} {e e' : CopyingEntry} {x y : RemapEntry}

/-- The migration goes on: its entry stays COPYING. -/
theorem State.MigrationOk.goes_on (h : s.MigrationOk) (hc : s.copying = some (i, e)) (ht : t.rc.remap = s.rc.remap.set i (.copying e'))
    (hmode : t.mode = s.mode) (hbusy : t.me.state ≠ .idle) : t.MigrationOk := by
  refine ⟨?_, fun hoff => absurd (hmode.trans (h.online hc)) hoff⟩
  have hcount := State.copyingCount_replace (State.copying_getElem hc) ht
  have hone : s.copyingCount = 1 := h.1.trans (if_neg (h.busy hc))
  rw [if_neg hbusy]
  simpa [RemapEntry.copying?, hone] using hcount

/-- The migration ends: its entry is COPYING no more and the ME is IDLE. -/
theorem State.MigrationOk.ends (h : s.MigrationOk) (hc : s.copying = some (i, e)) (ht : t.rc.remap = s.rc.remap.set i y)
    (hy : y.copying? = none) (hidle : t.me.state = .idle) : t.MigrationOk := by
  refine ⟨?_, fun _ => hidle⟩
  have hcount := State.copyingCount_replace (State.copying_getElem hc) ht
  have hone : s.copyingCount = 1 := h.1.trans (if_neg (h.busy hc))
  rw [if_pos hidle]
  rw [hone, hy, if_pos rfl, if_neg (by simp [RemapEntry.copying?])] at hcount
  omega

/-- A migration starts: an entry that was not COPYING becomes so. -/
theorem State.MigrationOk.starts (h : s.MigrationOk) (hidle : s.me.state = .idle) (hx : s.rc.remap[i]? = some x)
    (ht : t.rc.remap = s.rc.remap.set i (.copying e)) (hmode : t.mode = .online) (hbusy : t.me.state ≠ .idle) : t.MigrationOk := by
  refine ⟨?_, fun hoff => absurd hmode hoff⟩
  have hcount := State.copyingCount_replace hx ht
  have hzero : s.copyingCount = 0 := h.1.trans (if_pos hidle)
  rw [if_neg hbusy]
  rw [hzero, h.none_copying hidle x (List.mem_of_getElem? hx), if_pos rfl, if_neg (by simp [RemapEntry.copying?])] at hcount
  omega

/-- An entry that is no migration's is replaced by another such. -/
theorem State.MigrationOk.records (h : s.MigrationOk) (hx : s.rc.remap[i]? = some x) (hxc : x.copying? = none)
    (ht : t.rc.remap = s.rc.remap.set i y) (hyc : y.copying? = none) (hmode : t.mode = s.mode) (hme : t.me = s.me) :
    t.MigrationOk := by
  have hcount := State.copyingCount_replace hx ht
  simp only [hxc, hyc, if_true, Nat.add_zero] at hcount
  exact ⟨by rw [hcount, hme, h.1], by rw [hmode, hme]; exact h.2⟩

end

/-! ## The entries that a start and a RESTORE record (R22, R29) -/

theorem State.entryIndex_some {s : State} {g i : Nat} (h : s.entryIndex g = some i) :
    ∃ x, s.rc.remap[i]? = some x ∧ x.logical? = some g := by
  obtain ⟨hi, hx, -⟩ := List.findIdx?_eq_some_iff_getElem.mp h
  exact ⟨_, List.getElem?_eq_getElem hi, beq_iff_eq.mp hx⟩

theorem State.entryIndex_none {s : State} {g : Nat} : s.entryIndex g = none ↔ ∀ x ∈ s.rc.remap, x.logical? ≠ some g := by
  simp [State.entryIndex, List.findIdx?_eq_none_iff]

theorem firstFree_some {l : List RemapEntry} {i : Nat} (h : l.findIdx? (fun e => e == .free) = some i) : l[i]? = some .free := by
  obtain ⟨hi, hx, -⟩ := List.findIdx?_eq_some_iff_getElem.mp h
  rw [List.getElem?_eq_getElem hi, beq_iff_eq.mp hx]

/-- Entry `i` is the one to record a move of `g`: its ACTIVE entry, or a FREE one where it has none (R22, R29). -/
def State.Records (s : State) (g i : Nat) : Prop :=
  (s.entryIndex g = none ∧ s.rc.remap[i]? = some .free) ∨ ∃ a, s.rc.remap[i]? = some (.active a) ∧ a.logical = g

/-- The entry a start sets up: for `g`, with the current that serves it, from the state it had (R22). -/
theorem State.startEntry_spec {s : State} {g i : Nat} {o : RemapOrigin} {e : CopyingEntry} (h : s.startEntry g o = some (i, e)) :
    (s.entryIndex g = none ∧ s.rc.remap[i]? = some .free ∧ e = ⟨g, g, 0, 0, o, 0, 0, .free⟩) ∨
      ∃ a, s.rc.remap[i]? = some (.active a) ∧ a.logical = g ∧ e = ⟨g, a.current, 0, 0, o, 0, 0, .active⟩ := by
  unfold State.startEntry at h
  split at h
  next j hj =>
    obtain ⟨a, ha, he⟩ := Option.map_eq_some_iff.mp h
    cases he
    obtain ⟨x, hx, hg⟩ := State.entryIndex_some hj
    rw [State.entryAt, List.getD_eq_getElem?_getD, hx] at ha
    cases x with
    | active b =>
      cases ha
      exact .inr ⟨a, hx, Option.some.inj hg, rfl⟩
    | free => cases ha
    | copying b => cases ha
  next hnone =>
    obtain ⟨j, hj, he⟩ := Option.map_eq_some_iff.mp h
    cases he
    exact .inl ⟨hnone, firstFree_some hj, rfl⟩

theorem State.restoreIndex_spec {s : State} {g i : Nat} (h : s.restoreIndex g = some i) (hcopy : s.isCopying g = false) :
    s.Records g i := by
  unfold State.restoreIndex at h
  split at h
  next j hj =>
    cases h
    obtain ⟨x, hx, hg⟩ := State.entryIndex_some hj
    cases x with
    | active b => exact .inr ⟨b, hx, Option.some.inj hg⟩
    | free => cases hg
    | copying b =>
      have := (s.isCopying_iff g).mpr ⟨i, b, hj, hx⟩
      rw [hcopy] at this
      cases this
  next hnone => exact .inl ⟨hnone, firstFree_some h⟩

/-- A RESTORE is OK where all of R28's conditions hold. -/
theorem State.checkRestore_ok {s : State} {g t : Nat} (h : s.checkRestore g t = .ok) :
    s.mode = .online ∧ g < s.numL ∧ s.numL ≤ t ∧ t < s.numP ∧ (s.seg t).role = .spareFree ∧ s.isCopying g = false ∧
      s.queuedForRetire g = false := by
  unfold State.checkRestore at h
  split_ifs at h with hmode hrange hrole hclaim
  simp only [bne_iff_ne, ne_eq, not_not] at hmode hrole
  simp only [Bool.or_eq_true, not_or, Bool.not_eq_true] at hclaim
  exact ⟨hmode, by omega, by omega, by omega, hrole, hclaim⟩

/-! ## What an abandoned target, a cancel, a commit and a reset leave of the table (R23, R25, R27, R160) -/

theorem State.failTarget_cases (i : Nat) (e : CopyingEntry) (s : State) :
    (∃ e', (State.failTarget i e s).rc.remap = s.rc.remap.set i (.copying e') ∧ (State.failTarget i e s).me.state = .copyRead false) ∨
      (State.failTarget i e s).rc.remap = s.rc.remap.set i (CopyingEntry.reverted { e with restarts := e.restarts + 1 }) ∧
        (State.failTarget i e s).me.state = .idle := by
  unfold State.failTarget
  dsimp only
  split
  · exact .inl ⟨_, rfl, rfl⟩
  · exact .inr ⟨rfl, rfl⟩

theorem CopyingEntry.reverted_not_copying (e : CopyingEntry) : e.reverted.copying? = none := by
  unfold CopyingEntry.reverted
  cases e.previous <;> rfl

theorem RemapEntry.engineReset_not_copying (x : RemapEntry) : x.engineReset.copying? = none := by
  cases x with
  | free => rfl
  | copying e => exact e.reverted_not_copying
  | active e => rfl

theorem State.cancelRevert_remap (i : Nat) (e : CopyingEntry) (s : State) :
    (State.cancelRevert i e s).rc.remap = s.rc.remap.set i e.reverted := rfl

theorem State.commit_remap (i : Nat) (e : CopyingEntry) (n : Nat) (s : State) :
    (State.commit i e n s).rc.remap = s.rc.remap.set i (.active ⟨e.logical, e.target, e.origin, n, e.restarts⟩) ∧
      (State.commit i e n s).me.state = .idle := by
  obtain ⟨hrc, -, -, -, hme, -⟩ := State.commit_fields i e n s
  rw [hrc, hme]
  simp

/-! ## At most one migration -/

/-- The changes keep no entry COPYING while the ME is IDLE and one while it is not. -/
theorem migrationOk_rules : MigrationRules State.MigrationOk where
  same {s t} hst hs := by
    obtain ⟨hcount, hoff⟩ := hs
    refine ⟨?_, fun hmode => hst.idle.mpr (hoff fun h => hmode (hst.online.mpr h))⟩
    rw [State.copyingCount, hst.remap, ← State.copyingCount, hcount, if_congr hst.idle rfl rfl]
  append _ _ hs := hs
  offer _ _ hs := hs
  start {s h rest n i e} hmode hidle _ _ he hs := by
    rcases State.startEntry_spec he with ⟨-, hx, -⟩ | ⟨a, hx, -⟩
    · exact hs.starts hidle hx rfl hmode (by simp)
    · exact hs.starts hidle hx rfl hmode (by simp)
  migrationOk hs := hs
  reset := State.reset_migrationOk
  goOnline {s p n} hmode _ hs := by
    have hidle : s.me.state = .idle := hs.2 hmode
    refine ⟨?_, fun _ => by simpa using hidle⟩
    have hfree : (State.startOnline p n s).copyingCount = 0 := by
      simp [State.copyingCount, State.startOnline, RemapEntry.copying?]
    rw [hfree, if_pos (by simpa using hidle)]
  engineReset {s} hs := by
    have hzero : s.resetBlocks.copyingCount = 0 := by
      simp [State.copyingCount, RemapCtl.engineReset, RemapEntry.engineReset_not_copying]
    refine ⟨by simp [hzero], fun _ => by simp⟩
  advance _ hc _ hs := hs.goes_on hc rfl rfl (hs.busy hc)
  fail {s i e} hc hs := by
    rcases State.failTarget_cases i e s with ⟨e', hremap, hst⟩ | ⟨hremap, hst⟩
    · exact hs.goes_on hc hremap (by simp) (by simp [hst])
    · exact hs.ends hc hremap (CopyingEntry.reverted_not_copying _) hst
  cancel {s i e} hc hs := hs.ends hc (State.cancelRevert_remap i e s) e.reverted_not_copying (by simp)
  commit {s i e} n hc hs := by
    obtain ⟨hremap, hidle⟩ := State.commit_remap i e n s
    exact hs.ends hc hremap rfl hidle
  restore {s g t} hok hs := by
    obtain ⟨-, -, -, -, -, hcopy, -⟩ := State.checkRestore_ok hok
    have hremap : (State.doRestore g t s).rc.remap = (s.recordRestore g t).rc.remap := by
      rw [State.doRestore_eq]
      simp
    cases hi : s.restoreIndex g with
    | some i =>
      rw [State.recordRestore_remap hi] at hremap
      rcases State.restoreIndex_spec hi hcopy with ⟨-, hx⟩ | ⟨a, hx, -⟩
      · exact hs.records hx rfl hremap rfl (by simp) (by simp)
      · exact hs.records hx rfl hremap rfl (by simp) (by simp)
    | none =>
      have hnone : s.recordRestore g t = s := by rw [State.recordRestore, hi]
      rw [hnone] at hremap
      have hcount : (State.doRestore g t s).copyingCount = s.copyingCount := by rw [State.copyingCount, hremap, State.copyingCount]
      exact ⟨by simpa [hcount] using hs.1, by simpa using hs.2⟩

end Sys2Proof.Machine

end

-- ==== Proofs: EntriesAndRoles ====
section
/-! SUPPORT. Entries and roles in agreement (R5, R17, R19), said of a list of entries in any order, and the two changes it goes through: an entry replaced that serves as before, and
a logical segment moved to another current. -/

namespace Sys2Proof.Machine

/-! ## What R17 and R6 say of entries and roles -/

/-- What R17 says of one entry, where the first `L` segments have a logical segment of their own and the roles are `role`. -/
def RemapEntry.Fits (L : Nat) (role : Nat → SegRole) : RemapEntry → Prop
  | .free => True
  | .copying e =>
    e.logical < L ∧ role e.current = .inUse ∧ role e.target = .spareBound ∧ e.cursor < 4096 ∧
      (e.previous = .free → e.current = e.logical) ∧ (e.previous = .active → L ≤ e.current)
  | .active e => e.logical < L ∧ role e.current = .inUse ∧ L ≤ e.current

/-- If the entry is that of logical segment `p`, its current is `p`'s own segment. -/
def RemapEntry.AtHome (x : RemapEntry) (p : Nat) : Prop := x.logical? = some p → x.current? = some p

/-- Entries and roles agree. -/
structure Agree (L : Nat) (role : Nat → SegRole) (l : List RemapEntry) : Prop where
  fits : ∀ x ∈ l, x.Fits L role
  apart : l.Pairwise RemapEntry.apart
  home : ∀ p < L, (∀ x ∈ l, x.AtHome p) → role p = .inUse
  away : ∀ p < L, (∃ x ∈ l, ¬x.AtHome p) → role p = .retired
  current : ∀ p, L ≤ p → role p = .inUse → ∃ x ∈ l, x.current? = some p
  target : ∀ p, role p = .spareBound → ∃ e, RemapEntry.copying e ∈ l ∧ e.target = p

/-- The roles of the spare pool (R6). -/
def SegRole.isSpare : SegRole → Bool
  | .spareFree | .spareBound | .spareBad => true
  | .inUse | .retired => false

/-- From `role` to `role'` no segment changes its role but spares, which stay spares. -/
def SparesOnly (role role' : Nat → SegRole) : Prop := ∀ p, role' p = role p ∨ (role p).isSpare = true ∧ (role' p).isSpare = true

theorem apart_symm : Std.Symm RemapEntry.apart where
  symm _ _ h := ⟨fun g hy hx => h.1 g hx hy, fun p hy hx => h.2 p hx hy⟩

section
variable {L : Nat} {role role' : Nat → SegRole} {l l' rest : List RemapEntry} {x y z : RemapEntry} {g p c t : Nat}

theorem Agree.perm (h : Agree L role l) (hp : l.Perm l') : Agree L role l' where
  fits x hx := h.fits x (hp.mem_iff.mpr hx)
  apart := (hp.pairwise_iff fun hxy => apart_symm.symm _ _ hxy).mp h.apart
  home p hpL hall := h.home p hpL fun x hx => hall x (hp.mem_iff.mp hx)
  away p hpL hx := by
    obtain ⟨x, hx, hne⟩ := hx
    exact h.away p hpL ⟨x, hp.mem_iff.mpr hx, hne⟩
  current p hpL hrole := by
    obtain ⟨x, hx, hc⟩ := h.current p hpL hrole
    exact ⟨x, hp.mem_iff.mp hx, hc⟩
  target p hrole := by
    obtain ⟨e, he, ht⟩ := h.target p hrole
    exact ⟨e, hp.mem_iff.mp he, ht⟩

theorem SparesOnly.eq_iff (h : SparesOnly role role') (p : Nat) {r : SegRole} (hr : r.isSpare = false) : role' p = r ↔ role p = r := by
  rcases h p with heq | ⟨hold, hnew⟩
  · rw [heq]
  · constructor
    · rintro rfl
      rw [hr] at hnew
      cases hnew
    · rintro rfl
      rw [hr] at hold
      cases hold

/-! ## One entry -/

theorem RemapEntry.Fits.inUse (h : x.Fits L role) (hc : x.current? = some c) : role c = .inUse := by
  cases x with
  | free => cases hc
  | copying e =>
    cases hc
    exact h.2.1
  | active e =>
    cases hc
    exact h.2.1

/-- A current below L is the logical segment's own. -/
theorem RemapEntry.Fits.own (h : x.Fits L role) (hc : x.current? = some c) (hlt : c < L) : x.logical? = some c := by
  cases x with
  | free => cases hc
  | copying e =>
    cases hc
    obtain ⟨-, -, -, -, hfree, hactive⟩ := h
    cases hprev : e.previous with
    | free => exact congrArg some (hfree hprev).symm
    | active => exact absurd (hactive hprev) (Nat.not_le.mpr hlt)
  | active e =>
    cases hc
    exact absurd h.2.2 (Nat.not_le.mpr hlt)

theorem RemapEntry.Fits.logical_lt (h : x.Fits L role) (hg : x.logical? = some g) : g < L := by
  cases x with
  | free => cases hg
  | copying e =>
    cases hg
    exact h.1
  | active e =>
    cases hg
    exact h.1

/-- An entry with a logical segment has a current, and the other way round. -/
theorem RemapEntry.logical_iff_current (x : RemapEntry) : x.logical? = none ↔ x.current? = none := by
  cases x <;> simp [RemapEntry.logical?, RemapEntry.current?]

/-- An entry fits under other roles where its current stays IN_USE and its target SPARE_BOUND. -/
theorem RemapEntry.Fits.congr (h : x.Fits L role) (hc : ∀ p, x.current? = some p → role' p = .inUse)
    (ht : ∀ e, x.copying? = some e → role' e.target = .spareBound) : x.Fits L role' := by
  cases x with
  | free => trivial
  | copying e =>
    obtain ⟨hg, -, -, hrest⟩ := h
    exact ⟨hg, hc _ rfl, ht _ rfl, hrest⟩
  | active e =>
    obtain ⟨hg, -, hrest⟩ := h
    exact ⟨hg, hc _ rfl, hrest⟩

/-- What is apart from an entry is apart from one with no other logical segment and no other current. -/
theorem RemapEntry.apart.of_sub (h : x.apart z) (hg : ∀ g, y.logical? = some g → x.logical? = some g)
    (hc : ∀ p, y.current? = some p → x.current? = some p) : y.apart z :=
  ⟨fun g hy => h.1 g (hg g hy), fun p hy => h.2 p (hc p hy)⟩

/-! ## The entries of a table that agrees -/

theorem Agree.eq_of_logical (h : Agree L role l) (hx : x ∈ l) (hy : y ∈ l) (hgx : x.logical? = some g) (hgy : y.logical? = some g) :
    x = y := by
  by_contra hne
  have := apart_symm
  exact (h.apart.forall hx hy hne).1 g hgx hgy

theorem Agree.eq_of_current (h : Agree L role l) (hx : x ∈ l) (hy : y ∈ l) (hcx : x.current? = some c) (hcy : y.current? = some c) :
    x = y := by
  by_contra hne
  have := apart_symm
  exact (h.apart.forall hx hy hne).2 c hcx hcy

/-- A segment that is neither IN_USE nor RETIRED is a spare. -/
theorem Agree.spare (h : Agree L role l) (hu : role p ≠ .inUse) (hr : role p ≠ .retired) : L ≤ p := by
  by_contra hlt
  by_cases hall : ∀ x ∈ l, x.AtHome p
  · exact hu (h.home p (by omega) hall)
  · push Not at hall
    exact hr (h.away p (by omega) hall)

/-! ## An entry replaced that serves as before -/

/-- Entry `x` becomes `y`, which serves what `x` served, while the other entries are no migration's: the roles IN_USE and RETIRED stay, and no segment is SPARE_BOUND but `y`'s target. -/
theorem Agree.rebind (h : Agree L role (x :: rest)) (hrest : ∀ z ∈ rest, z.copying? = none) (hy : y.Fits L role')
    (happart : ∀ z ∈ rest, y.apart z) (hhome : ∀ p, y.AtHome p ↔ x.AtHome p) (hcur : ∀ p, L ≤ p → x.current? = some p → y.current? = some p)
    (hsp : SparesOnly role role') (hbound : ∀ p, role' p = .spareBound → ∃ e, y = .copying e ∧ e.target = p) : Agree L role' (y :: rest) where
  fits z hz := by
    rcases List.mem_cons.mp hz with rfl | hz
    · exact hy
    · have hfits := h.fits z (List.mem_cons_of_mem _ hz)
      exact hfits.congr (fun p hp => (hsp.eq_iff p rfl).mpr (hfits.inUse hp)) fun e he => by
        rw [hrest z hz] at he
        cases he
  apart := List.pairwise_cons.mpr ⟨happart, (List.pairwise_cons.mp h.apart).2⟩
  home p hp hall := by
    obtain ⟨hyp, hothers⟩ := List.forall_mem_cons.mp hall
    exact (hsp.eq_iff p rfl).mpr (h.home p hp (List.forall_mem_cons.mpr ⟨(hhome p).mp hyp, hothers⟩))
  away p hp hex := by
    obtain hyp | hothers := (List.exists_mem_cons_iff ..).mp hex
    · exact (hsp.eq_iff p rfl).mpr (h.away p hp ⟨x, List.mem_cons_self, fun hxp => hyp ((hhome p).mpr hxp)⟩)
    · obtain ⟨z, hz, hne⟩ := hothers
      exact (hsp.eq_iff p rfl).mpr (h.away p hp ⟨z, List.mem_cons_of_mem _ hz, hne⟩)
  current p hp hrole := by
    obtain ⟨z, hz, hzp⟩ := h.current p hp ((hsp.eq_iff p rfl).mp hrole)
    rcases List.mem_cons.mp hz with rfl | hz
    · exact ⟨y, List.mem_cons_self, hcur p hp hzp⟩
    · exact ⟨z, List.mem_cons_of_mem _ hz, hzp⟩
  target p hrole := by
    obtain ⟨e, rfl, ht⟩ := hbound p hrole
    exact ⟨e, List.mem_cons_self, ht⟩

/-! ## A spare bound (R21, R22) -/

section
variable {n : Nat} {o : RemapOrigin}

theorem sparesOnly_bind (hn : role n = .spareFree) (hrole : ∀ p, role' p = if p = n then .spareBound else role p) : SparesOnly role role' := by
  intro p
  rw [hrole]
  split_ifs with hp
  · exact .inr (by simp [hp, hn, SegRole.isSpare])
  · exact .inl rfl

/-- While no entry is COPYING, the spare bound is the one that is SPARE_BOUND. -/
theorem Agree.bound_eq (h : Agree L role l) (hnone : ∀ z ∈ l, z.copying? = none)
    (hrole : ∀ p, role' p = if p = n then .spareBound else role p) (hp : role' p = .spareBound) : n = p := by
  rw [hrole] at hp
  split_ifs at hp with hpn
  · exact hpn.symm
  · obtain ⟨c, hc, -⟩ := h.target p hp
    cases hnone _ hc

/-- A logical segment that has not moved starts to: its entry was FREE, its current is its own segment. -/
theorem Agree.bind_free (h : Agree L role (.free :: rest)) (hnone : ∀ z ∈ rest, z.copying? = none) (hg : g < L)
    (hnew : ∀ z ∈ rest, z.logical? ≠ some g) (hn : role n = .spareFree)
    (hrole : ∀ p, role' p = if p = n then .spareBound else role p) :
    Agree L role' (.copying ⟨g, g, n, 0, o, 0, 0, .free⟩ :: rest) := by
  have hsp := sparesOnly_bind hn hrole
  have hin : role g = .inUse := h.home g hg (List.forall_mem_cons.mpr ⟨nofun, fun z hz hzg => absurd hzg (hnew z hz)⟩)
  refine h.rebind hnone ⟨hg, (hsp.eq_iff g rfl).mpr hin, ?_, by simp, fun _ => rfl, nofun⟩ (fun z hz => ⟨?_, ?_⟩)
    (fun p => iff_of_true id nofun) nofun hsp fun p hp => ⟨_, rfl, h.bound_eq (List.forall_mem_cons.mpr ⟨rfl, hnone⟩) hrole hp⟩
  · rw [hrole, if_pos rfl]
  · intro k hk hzk
    cases hk
    exact hnew z hz hzk
  · intro p hp hzp
    cases hp
    exact hnew z hz ((h.fits z (List.mem_cons_of_mem _ hz)).own hzp hg)

/-- A logical segment that has moved starts to move again, from its entry's current. -/
theorem Agree.bind_active {a : ActiveEntry} (h : Agree L role (.active a :: rest)) (hnone : ∀ z ∈ rest, z.copying? = none)
    (hag : a.logical = g) (hn : role n = .spareFree) (hrole : ∀ p, role' p = if p = n then .spareBound else role p) :
    Agree L role' (.copying ⟨g, a.current, n, 0, o, 0, 0, .active⟩ :: rest) := by
  have hsp := sparesOnly_bind hn hrole
  obtain ⟨hg, hin, hL⟩ := h.fits _ List.mem_cons_self
  refine h.rebind hnone ⟨hag ▸ hg, (hsp.eq_iff _ rfl).mpr hin, ?_, by simp, nofun, fun _ => hL⟩ (fun z hz => ?_) (fun p => ?_)
    (fun p _ hp => hp) hsp fun p hp => ⟨_, rfl, h.bound_eq (List.forall_mem_cons.mpr ⟨rfl, hnone⟩) hrole hp⟩
  · rw [hrole, if_pos rfl]
  · exact ((List.pairwise_cons.mp h.apart).1 z hz).of_sub (fun k hk => (congrArg some hag).trans hk) fun p hp => hp
  · simp [RemapEntry.AtHome, RemapEntry.logical?, RemapEntry.current?, hag]

end

/-! ## A part that goes online (R5, R189) -/

/-- With every entry FREE, the first `L` segments IN_USE and no other IN_USE, RETIRED below L or SPARE_BOUND, entries and roles agree. -/
theorem Agree.fresh (hfree : ∀ x ∈ l, x = .free) (hlow : ∀ p < L, role p = .inUse)
    (hhigh : ∀ p, L ≤ p → role p = .spareFree ∨ role p = .retired) : Agree L role l where
  fits x hx := by
    rw [hfree x hx]
    trivial
  apart := List.pairwise_of_forall_mem_list fun x hx y hy => by
    rw [hfree x hx]
    exact ⟨nofun, nofun⟩
  home p hp _ := hlow p hp
  away p _ hex := by
    obtain ⟨x, hx, haway⟩ := hex
    rw [hfree x hx] at haway
    exact absurd nofun haway
  current p hp hin := by
    rcases hhigh p hp with hr | hr <;> simp [hr] at hin
  target p hb := by
    by_cases hp : p < L
    · simp [hlow p hp] at hb
    · rcases hhigh p (by omega) with hr | hr <;> simp [hr] at hb

/-! ## A migration reverted (R25, R27) -/

section
variable {e : CopyingEntry}

theorem CopyingEntry.reverted_sub (e : CopyingEntry) :
    (∀ g, e.reverted.logical? = some g → e.logical = g) ∧ ∀ p, e.reverted.current? = some p → e.current = p := by
  unfold CopyingEntry.reverted
  cases e.previous <;> simp [RemapEntry.logical?, RemapEntry.current?]

/-- A reverted entry serves what the COPYING one served. -/
theorem CopyingEntry.reverted_atHome (h : (RemapEntry.copying e).Fits L role) (p : Nat) :
    e.reverted.AtHome p ↔ (RemapEntry.copying e).AtHome p := by
  obtain ⟨-, -, -, -, hfree, -⟩ := h
  unfold CopyingEntry.reverted
  cases hprev : e.previous with
  | free => simp [RemapEntry.AtHome, RemapEntry.logical?, RemapEntry.current?, hfree hprev]
  | active => exact .rfl

theorem CopyingEntry.reverted_current (h : (RemapEntry.copying e).Fits L role) (hp : L ≤ p)
    (hc : (RemapEntry.copying e).current? = some p) : e.reverted.current? = some p := by
  unfold CopyingEntry.reverted
  cases hprev : e.previous with
  | free =>
    obtain ⟨hg, -, -, -, hfree, -⟩ := h
    have hcp : e.current = p := Option.some.inj hc
    have hcg := hfree hprev
    omega
  | active => exact hc

theorem CopyingEntry.reverted_fits (h : (RemapEntry.copying e).Fits L role) (hc : role' e.current = .inUse) : e.reverted.Fits L role' := by
  obtain ⟨hg, -, -, -, -, hactive⟩ := h
  unfold CopyingEntry.reverted
  cases hprev : e.previous with
  | free => trivial
  | active => exact ⟨hg, hc, hactive hprev⟩

/-- A migration reverted whose target leaves SPARE_BOUND. -/
theorem Agree.revert (h : Agree L role (.copying e :: rest)) (hrest : ∀ z ∈ rest, z.copying? = none) {n : Nat}
    (hsp : SparesOnly role role') (hbound : ∀ p, role' p ≠ .spareBound) : Agree L role' (CopyingEntry.reverted { e with restarts := n } :: rest) := by
  have hold : (RemapEntry.copying e).Fits L role := h.fits _ List.mem_cons_self
  have hfits : (RemapEntry.copying { e with restarts := n }).Fits L role := hold
  obtain ⟨hlogical, hcurrent⟩ := CopyingEntry.reverted_sub { e with restarts := n }
  refine h.rebind hrest (CopyingEntry.reverted_fits hfits ((hsp.eq_iff _ rfl).mpr hfits.2.1)) (fun z hz => ?_) (CopyingEntry.reverted_atHome hfits)
    (fun p hp => CopyingEntry.reverted_current hfits hp) hsp fun p hp => absurd hp (hbound p)
  exact ((List.pairwise_cons.mp h.apart).1 z hz).of_sub (fun g hg => congrArg some (hlogical g hg)) fun p hp => congrArg some (hcurrent p hp)

end

theorem RemapEntry.engineReset_sub (x : RemapEntry) : (∀ g, x.engineReset.logical? = some g → x.logical? = some g) ∧
    ∀ p, x.engineReset.current? = some p → x.current? = some p := by
  cases x with
  | copying e => exact ⟨fun g hg => congrArg some (e.reverted_sub.1 g hg), fun p hp => congrArg some (e.reverted_sub.2 p hp)⟩
  | free => exact ⟨fun _ h => h, fun _ h => h⟩
  | active a => exact ⟨fun _ h => h, fun _ h => h⟩

theorem RemapEntry.engineReset_atHome (h : x.Fits L role) (p : Nat) : x.engineReset.AtHome p ↔ x.AtHome p := by
  cases x with
  | copying e => exact CopyingEntry.reverted_atHome h p
  | free => exact .rfl
  | active a => exact .rfl

/-- Every migration reverted, as an engine reset does it. -/
theorem Agree.reset (h : Agree L role l) (hrole : ∀ p, role' p = if role p = .spareBound then .spareFree else role p) :
    Agree L role' (l.map RemapEntry.engineReset) where
  fits := by
    refine List.forall_mem_map.mpr fun x hx => ?_
    have hfits := h.fits x hx
    have huse : ∀ p, x.current? = some p → role' p = .inUse := fun p hp => by simp [hrole, hfits.inUse hp]
    cases x with
    | copying e => exact CopyingEntry.reverted_fits hfits (huse _ rfl)
    | free => trivial
    | active a => exact hfits.congr huse nofun
  apart := by
    refine List.pairwise_map.mpr (h.apart.imp fun {x y} hxy => ?_)
    have hx := hxy.of_sub x.engineReset_sub.1 x.engineReset_sub.2
    exact apart_symm.symm _ _ ((apart_symm.symm _ _ hx).of_sub y.engineReset_sub.1 y.engineReset_sub.2)
  home p hp hall := by
    have hin := h.home p hp fun x hx => (RemapEntry.engineReset_atHome (h.fits x hx) p).mp (List.forall_mem_map.mp hall x hx)
    simp [hrole, hin]
  away p hp hex := by
    obtain ⟨y, hy, hne⟩ := hex
    obtain ⟨x, hx, rfl⟩ := List.mem_map.mp hy
    have hin := h.away p hp ⟨x, hx, fun hhome => hne ((RemapEntry.engineReset_atHome (h.fits x hx) p).mpr hhome)⟩
    simp [hrole, hin]
  current p hp hin := by
    obtain ⟨x, hx, hc⟩ := h.current p hp (by
      rw [hrole] at hin
      split_ifs at hin
      exact hin)
    refine ⟨_, List.mem_map_of_mem hx, ?_⟩
    cases x with
    | copying e => exact CopyingEntry.reverted_current (h.fits _ hx) hp hc
    | free => exact hc
    | active a => exact hc
  target p hb := by
    rw [hrole] at hb
    split_ifs at hb with hbound
    exact absurd hb hbound

/-! ## A logical segment moved -/

/-- `x` says that `c` serves `g`: it is `g`'s entry with current `c`, or it is FREE, `g` has no entry and `c` is its own segment. -/
def ServedBy (x : RemapEntry) (rest : List RemapEntry) (g c : Nat) : Prop :=
  (x.logical? = some g ∧ x.current? = some c) ∨ x = .free ∧ c = g ∧ ∀ z ∈ rest, z.logical? ≠ some g

/-- `g` moves from `c`, which `x` says serves it, to spare `t`: `c` is RETIRED, `t` is IN_USE, and all other roles stay. -/
structure MovesTo (L : Nat) (role role' : Nat → SegRole) (x : RemapEntry) (rest : List RemapEntry) (g c t : Nat) : Prop where
  agree : Agree L role (x :: rest)
  logical : g < L
  served : ServedBy x rest g c
  inUse : role c = .inUse
  spare : L ≤ t
  unused : role t ≠ .inUse
  target : ∀ e, x = .copying e → e.target = t
  others : ∀ e, RemapEntry.copying e ∈ rest → e.target ≠ t
  roles : ∀ p, role' p = if p = t then .inUse else if p = c then .retired else role p

namespace MovesTo

variable (h : MovesTo L role role' x rest g c t)
include h

theorem rest_fits (hz : z ∈ rest) : z.Fits L role := h.agree.fits z (List.mem_cons_of_mem _ hz)

theorem role_target : role' t = .inUse := by rw [h.roles, if_pos rfl]

theorem current_ne : c ≠ t := fun hct => h.unused (hct ▸ h.inUse)

theorem role_current : role' c = .retired := by rw [h.roles, if_neg h.current_ne, if_pos rfl]

theorem role_other (ht : p ≠ t) (hc : p ≠ c) : role' p = role p := by rw [h.roles, if_neg ht, if_neg hc]

/-- No other entry is `g`'s, or has the current that serves it. -/
theorem rest_apart (hz : z ∈ rest) : z.logical? ≠ some g ∧ z.current? ≠ some c := by
  obtain ⟨happart, -⟩ := List.pairwise_cons.mp h.agree.apart
  rcases h.served with ⟨hxg, hxc⟩ | ⟨-, rfl, hnone⟩
  · exact ⟨(happart z hz).1 g hxg, (happart z hz).2 c hxc⟩
  · exact ⟨hnone z hz, fun hzc => hnone z hz ((h.rest_fits hz).own hzc h.logical)⟩

theorem eq_current (hp : x.current? = some p) : p = c := by
  rcases h.served with ⟨-, hxc⟩ | ⟨rfl, -⟩
  · exact Option.some.inj (hp.symm.trans hxc)
  · cases hp

/-- A current below L is `g`'s own segment. -/
theorem own_current (hc : c < L) : c = g := by
  rcases h.served with ⟨hxg, hxc⟩ | ⟨-, hcg, -⟩
  · exact Option.some.inj (((h.agree.fits x List.mem_cons_self).own hxc hc).symm.trans hxg)
  · exact hcg

/-- Of the segments that stay as they are, `g`'s own is the one whose logical segment was away. -/
theorem atHome_before (hp : p ≠ c) : x.AtHome p ↔ p ≠ g := by
  rcases h.served with ⟨hxg, hxc⟩ | ⟨rfl, rfl, -⟩
  · constructor
    · rintro hhome rfl
      exact hp (h.eq_current (hhome hxg))
    · exact fun hpg hp => absurd (Option.some.inj (hp.symm.trans hxg)) hpg
  · exact iff_of_true (fun hp => by cases hp) hp

/-- Every other current stays IN_USE. -/
theorem rest_inUse (hz : z ∈ rest) (hp : z.current? = some p) : role' p = .inUse := by
  have hin : role p = .inUse := (h.rest_fits hz).inUse hp
  rw [h.role_other _ _, hin]
  · rintro rfl
    exact h.unused hin
  · rintro rfl
    exact (h.rest_apart hz).2 hp

/-- Every other target stays SPARE_BOUND. -/
theorem rest_bound (hz : z ∈ rest) {e : CopyingEntry} (he : z.copying? = some e) : role' e.target = .spareBound := by
  cases z with
  | copying e' =>
    cases he
    obtain ⟨-, -, hb, -⟩ := h.rest_fits hz
    rw [h.role_other (h.others e hz) _, hb]
    intro hc
    rw [hc, h.inUse] at hb
    cases hb
  | free => cases he
  | active b => cases he

/-- The move recorded: `g`'s entry is ACTIVE with current `t`. -/
theorem agree_after {a : ActiveEntry} (hag : a.logical = g) (hat : a.current = t) : Agree L role' (.active a :: rest) where
  fits := by
    refine List.forall_mem_cons.mpr ⟨⟨hag ▸ h.logical, hat ▸ h.role_target, hat ▸ h.spare⟩, fun z hz => ?_⟩
    exact (h.rest_fits hz).congr (fun p hp => h.rest_inUse hz hp) fun e he => h.rest_bound hz he
  apart := by
    refine List.pairwise_cons.mpr ⟨fun z hz => ⟨fun k hk => ?_, fun p hp hzp => ?_⟩, (List.pairwise_cons.mp h.agree.apart).2⟩
    · rw [← Option.some.inj hk, hag]
      exact (h.rest_apart hz).1
    · rw [← Option.some.inj hp, hat] at hzp
      exact h.unused ((h.rest_fits hz).inUse hzp)
  home p hp hall := by
    obtain ⟨hhome, hothers⟩ := List.forall_mem_cons.mp hall
    have ht := h.spare
    have hpg : p ≠ g := by
      rintro rfl
      have : a.current = p := Option.some.inj (hhome (congrArg some hag))
      omega
    have hpc : p ≠ c := fun hpc => hpg (hpc.trans (h.own_current (hpc ▸ hp)))
    rw [h.role_other (by omega) hpc]
    exact h.agree.home p hp (List.forall_mem_cons.mpr ⟨(h.atHome_before hpc).mpr hpg, hothers⟩)
  away p hp hex := by
    have ht := h.spare
    by_cases hpc : p = c
    · exact hpc ▸ h.role_current
    · rw [h.role_other (by omega) hpc]
      refine h.agree.away p hp ?_
      obtain haway | ⟨z, hz, hne⟩ := (List.exists_mem_cons_iff ..).mp hex
      · refine ⟨x, List.mem_cons_self, fun hhome => haway fun hp => ?_⟩
        exact absurd ((Option.some.inj hp).symm.trans hag) ((h.atHome_before hpc).mp hhome)
      · exact ⟨z, List.mem_cons_of_mem _ hz, hne⟩
  current p hp hin := by
    by_cases hpt : p = t
    · exact ⟨_, List.mem_cons_self, congrArg some (hat.trans hpt.symm)⟩
    · have hpc : p ≠ c := by
        rintro rfl
        rw [h.role_current] at hin
        cases hin
      rw [h.role_other hpt hpc] at hin
      obtain ⟨z, hz, hzp⟩ := h.agree.current p hp hin
      rcases List.mem_cons.mp hz with rfl | hz
      · exact absurd (h.eq_current hzp) hpc
      · exact ⟨z, List.mem_cons_of_mem _ hz, hzp⟩
  target p hb := by
    have hpt : p ≠ t := by
      rintro rfl
      rw [h.role_target] at hb
      cases hb
    have hpc : p ≠ c := by
      rintro rfl
      rw [h.role_current] at hb
      cases hb
    rw [h.role_other hpt hpc] at hb
    obtain ⟨e, he, hep⟩ := h.agree.target p hb
    rcases List.mem_cons.mp he with he | he
    · exact absurd (hep.symm.trans (h.target e he.symm)) hpt
    · exact ⟨e, List.mem_cons_of_mem _ he, hep⟩

end MovesTo

end

end Sys2Proof.Machine

end

-- ==== Proofs: LookupsAgree ====
section
/-! SUPPORT. A state whose entries and roles agree: the two lookups (R19, R20), and what its parts say of one another. -/

namespace Sys2Proof.Machine

/-- The role of each physical segment. -/
def State.role (s : State) (p : Nat) : SegRole := (s.seg p).role

/-- Tables, entries, roles and queues agree: all of `RemapOk` but the Health Table's size. -/
structure State.MovesOk (s : State) : Prop where
  migration : s.MigrationOk
  entries : s.rc.remap.length = Config.remapEntries
  segs : s.rc.segs.length = s.numP
  geometry : ∀ g, s.rc.geometry = some g → g.s ≤ 32 ∧ g.s ≤ g.p
  offline : s.mode ≠ .online → s.rc.geometry = none ∧ (∀ x ∈ s.rc.remap, x = .free) ∧ s.me.queue = [] ∧ s.ru.queue = []
  agree : Agree s.numL s.role s.rc.remap
  names : s.NamesOk

theorem State.entryOk_iff (s : State) (x : RemapEntry) : s.EntryOk x ↔ x.Fits s.numL s.role := by
  cases x <;> exact .rfl

/-! ## The lookup of a logical segment (R19) -/

section
variable {s : State} {x : RemapEntry} {g p c : Nat}

theorem State.physOf_of_none (h : s.entryIndex g = none) : s.physOf g = g := by
  simp [State.physOf, State.entryOf, h, RemapEntry.current?]

/-- Where no two entries share a logical segment, a logical segment's entry is the one found. -/
theorem State.entryOf_of_mem (ha : s.rc.remap.Pairwise RemapEntry.apart) (hx : x ∈ s.rc.remap) (hg : x.logical? = some g) :
    s.entryOf g = x := by
  cases hi : s.entryIndex g with
  | none => exact absurd hg (State.entryIndex_none.mp hi x hx)
  | some i =>
    obtain ⟨y, hy, hyg⟩ := State.entryIndex_some hi
    have hentry : s.entryOf g = y := by simp [State.entryOf, State.entryAt, hi, List.getD_eq_getElem?_getD, hy]
    rw [hentry]
    by_contra hne
    have := apart_symm
    exact (ha.forall (List.mem_of_getElem? hy) hx hne).1 g hyg hg

theorem State.physOf_of_mem (ha : s.rc.remap.Pairwise RemapEntry.apart) (hx : x ∈ s.rc.remap) (hg : x.logical? = some g)
    (hc : x.current? = some c) : s.physOf g = c := by
  rw [State.physOf, State.entryOf_of_mem ha hx hg, hc]
  rfl

/-- A logical segment is served by its own segment exactly while no entry has it elsewhere. -/
theorem State.physOf_eq_self (ha : s.rc.remap.Pairwise RemapEntry.apart) (g : Nat) : s.physOf g = g ↔ ∀ x ∈ s.rc.remap, x.AtHome g := by
  constructor
  · intro hself x hx hg
    cases hc : x.current? with
    | none =>
      rw [x.logical_iff_current.mpr hc] at hg
      cases hg
    | some c => rw [← State.physOf_of_mem ha hx hg hc, hself]
  · intro hhome
    cases hi : s.entryIndex g with
    | none => exact State.physOf_of_none hi
    | some i =>
      obtain ⟨x, hx, hg⟩ := State.entryIndex_some hi
      exact State.physOf_of_mem ha (List.mem_of_getElem? hx) hg (hhome x (List.mem_of_getElem? hx) hg)

/-- A logical segment that is COPYING has the COPYING entry. -/
theorem State.not_isCopying (ha : s.rc.remap.Pairwise RemapEntry.apart) (h : s.isCopying g = false) {e : CopyingEntry}
    (he : RemapEntry.copying e ∈ s.rc.remap) : e.logical ≠ g := by
  rintro rfl
  rw [State.isCopying, State.entryOf_of_mem ha he rfl] at h
  cases h

end

/-! ## The parts of `RemapOk` -/

theorem State.agree_iff (s : State) : Agree s.numL s.role s.rc.remap ↔
    (∀ x ∈ s.rc.remap, s.EntryOk x) ∧ s.rc.remap.Pairwise RemapEntry.apart ∧ s.RolesOk := by
  constructor
  · intro h
    refine ⟨fun x hx => (s.entryOk_iff x).mpr (h.fits x hx), h.apart, fun p hp => ?_, h.current, h.target⟩
    split_ifs with hself
    · exact h.home p hp ((State.physOf_eq_self h.apart p).mp hself)
    · rw [State.physOf_eq_self h.apart] at hself
      push Not at hself
      exact h.away p hp hself
  · rintro ⟨hfits, hapart, hlow, hcurrent, htarget⟩
    refine ⟨fun x hx => (s.entryOk_iff x).mp (hfits x hx), hapart, fun p hp hhome => ?_, fun p hp haway => ?_, hcurrent, htarget⟩
    · exact (hlow p hp).trans (if_pos ((State.physOf_eq_self hapart p).mpr hhome))
    · obtain ⟨x, hx, hne⟩ := haway
      exact (hlow p hp).trans (if_neg fun hself => hne ((State.physOf_eq_self hapart p).mp hself x hx))

theorem State.remapOk_iff (s : State) : s.RemapOk ↔ s.TablesOk ∧ s.MovesOk := by
  constructor
  · rintro ⟨htables, hmig, hgeo, hoff, hentries, hapart, hroles, hnames⟩
    obtain ⟨hremap, hsegs, -, hnone⟩ := id htables
    exact ⟨htables, hmig, hremap, hsegs, hgeo, fun hm => ⟨hnone hm, hoff hm⟩, s.agree_iff.mpr ⟨hentries, hapart, hroles⟩, hnames⟩
  · rintro ⟨htables, h⟩
    obtain ⟨hentries, hapart, hroles⟩ := s.agree_iff.mp h.agree
    exact ⟨htables, h.migration, h.geometry, fun hm => (h.offline hm).2, hentries, hapart, hroles, h.names⟩

namespace State.MovesOk

variable {s : State} {x : RemapEntry} {g p c : Nat}

/-! ## The lookup of a physical segment (R20) -/

theorem logicalOf_inUse (hrole : s.role p = .inUse) : s.logicalOf p = some (((s.entryServing p).bind RemapEntry.logical?).getD p) := by
  have : (s.seg p).role = .inUse := hrole
  rw [State.logicalOf, this]

theorem logicalOf_other (hrole : (s.seg p).role ≠ .inUse) : s.logicalOf p = none := by
  unfold State.logicalOf
  cases h : (s.seg p).role with
  | inUse => exact absurd h hrole
  | _ => rfl

theorem logicalOf_current (h : s.MovesOk) (hx : x ∈ s.rc.remap) (hg : x.logical? = some g) (hc : x.current? = some c) :
    s.logicalOf c = some g := by
  rw [logicalOf_inUse ((h.agree.fits x hx).inUse hc)]
  cases hy : s.entryServing c with
  | none => exact absurd hc (by simpa using List.find?_eq_none.mp hy x hx)
  | some y =>
    have hyc : y.current? = some c := by simpa using List.find?_some hy
    rw [h.agree.eq_of_current (List.mem_of_find?_eq_some hy) hx hyc hc, Option.bind_some, hg]
    rfl

theorem logicalOf_self (h : s.MovesOk) (hg : g < s.numL) (hself : s.physOf g = g) : s.role g = .inUse ∧ s.logicalOf g = some g := by
  have hrole := h.agree.home g hg ((State.physOf_eq_self h.agree.apart g).mp hself)
  refine ⟨hrole, ?_⟩
  rw [logicalOf_inUse hrole]
  cases hy : s.entryServing g with
  | none => rfl
  | some y =>
    have hyc : y.current? = some g := by simpa using List.find?_some hy
    rw [Option.bind_some, (h.agree.fits y (List.mem_of_find?_eq_some hy)).own hyc hg]
    rfl

/-- A logical segment's own segment serves it, or the current of its entry does. -/
theorem served (h : s.MovesOk) (g : Nat) : s.physOf g = g ∨ ∃ x ∈ s.rc.remap, x.logical? = some g ∧ x.current? = some (s.physOf g) := by
  cases hi : s.entryIndex g with
  | none => exact .inl (State.physOf_of_none hi)
  | some i =>
    obtain ⟨x, hx, hg⟩ := State.entryIndex_some hi
    have hmem := List.mem_of_getElem? hx
    cases hc : x.current? with
    | none =>
      rw [x.logical_iff_current.mpr hc] at hg
      cases hg
    | some c => exact .inr ⟨x, hmem, hg, (State.physOf_of_mem h.agree.apart hmem hg hc).symm ▸ hc⟩

theorem logicalOf_physOf (h : s.MovesOk) (hg : g < s.numL) : s.role (s.physOf g) = .inUse ∧ s.logicalOf (s.physOf g) = some g := by
  rcases h.served g with hself | ⟨x, hx, hxg, hxc⟩
  · rw [hself]
    exact h.logicalOf_self hg hself
  · exact ⟨(h.agree.fits x hx).inUse hxc, h.logicalOf_current hx hxg hxc⟩

theorem physOf_logicalOf (h : s.MovesOk) (hrole : s.role p = .inUse) : ∃ g < s.numL, s.logicalOf p = some g ∧ s.physOf g = p := by
  by_cases hp : p < s.numL
  · have hhome : ∀ x ∈ s.rc.remap, x.AtHome p := by
      by_contra haway
      push Not at haway
      rw [h.agree.away p hp haway] at hrole
      cases hrole
    have hself := (State.physOf_eq_self h.agree.apart p).mpr hhome
    exact ⟨p, hp, (h.logicalOf_self hp hself).2, hself⟩
  · obtain ⟨x, hx, hc⟩ := h.agree.current p (by omega) hrole
    cases hg : x.logical? with
    | none =>
      rw [x.logical_iff_current.mp hg] at hc
      cases hc
    | some g =>
      exact ⟨g, (h.agree.fits x hx).logical_lt hg, h.logicalOf_current hx hg hc, State.physOf_of_mem h.agree.apart hx hg hc⟩

/-! ## Two entries -/

theorem apart_getElem (h : s.MovesOk) {i j : Nat} {x y : RemapEntry} (hx : s.rc.remap[i]? = some x) (hy : s.rc.remap[j]? = some y)
    (hij : i ≠ j) : x.apart y := by
  obtain ⟨hi, rfl⟩ := List.getElem?_eq_some_iff.mp hx
  obtain ⟨hj, rfl⟩ := List.getElem?_eq_some_iff.mp hy
  rcases Nat.lt_or_gt_of_ne hij with hlt | hlt
  · exact List.pairwise_iff_getElem.mp h.agree.apart i j hi hj hlt
  · exact apart_symm.symm _ _ (List.pairwise_iff_getElem.mp h.agree.apart j i hj hi hlt)

/-- No entry's current is a target. -/
theorem current_ne_target (h : s.MovesOk) {e : CopyingEntry} (he : RemapEntry.copying e ∈ s.rc.remap) (hx : x ∈ s.rc.remap) :
    x.current? ≠ some e.target := by
  intro hc
  have hin := (h.agree.fits x hx).inUse hc
  rw [(h.agree.fits _ he).2.2.1] at hin
  cases hin

end State.MovesOk

/-- At most one entry is COPYING. -/
theorem State.MigrationOk.count_le {s : State} (h : s.MigrationOk) : copyingIn s.rc.remap ≤ 1 := by
  have hcount : copyingIn s.rc.remap = if s.me.state = .idle then 0 else 1 := h.1
  split_ifs at hcount <;> omega

/-- Of at most one COPYING entry there are no two. -/
theorem pairwise_of_copyingIn_le {l : List RemapEntry} (h : copyingIn l ≤ 1) : l.Pairwise fun x y => x.copying? = none ∨ y.copying? = none := by
  induction l with
  | nil => exact .nil
  | cons x rest ih =>
    rw [copyingIn_cons] at h
    refine List.pairwise_cons.mpr ⟨fun y hy => ?_, ih (by omega)⟩
    by_cases hx : x.copying? = none
    · exact .inl hx
    · rw [if_neg hx] at h
      exact .inr ((copyingIn_eq_zero rest).mp (by omega) y hy)

/-- Two COPYING entries are one. -/
theorem State.MigrationOk.copying_unique {s : State} (h : s.MigrationOk) {i j : Nat} {e e' : CopyingEntry}
    (he : s.rc.remap[i]? = some (.copying e)) (he' : s.rc.remap[j]? = some (.copying e')) : i = j := by
  obtain ⟨hi, hie⟩ := List.getElem?_eq_some_iff.mp he
  obtain ⟨hj, hje⟩ := List.getElem?_eq_some_iff.mp he'
  have hpair := List.pairwise_iff_getElem.mp (pairwise_of_copyingIn_le h.count_le)
  rcases Nat.lt_trichotomy i j with hlt | heq | hlt
  · have := hpair i j hi hj hlt
    simp [hie, hje, RemapEntry.copying?] at this
  · exact heq
  · have := hpair j i hj hi hlt
    simp [hie, hje, RemapEntry.copying?] at this

end Sys2Proof.Machine

end

-- ==== Proofs: RemapAgrees ====
section
/-! SUPPORT. The changes of entries, roles and queues keep them in agreement (R5, R17, R19, R21 to R29). -/

namespace Sys2Proof.Machine

/-! ## Roles after the RC's operations -/

section
variable {s : State} {i p q t : Nat} {e : CopyingEntry}

theorem State.role_setRole (r : SegRole) (hp : p < s.rc.segs.length) : (State.setRole p r s).role q = if q = p then r else s.role q := by
  simp only [State.role, State.seg_setRole, hp, and_true]
  split_ifs <;> rfl

theorem State.role_setFilled (b : Bool) : (State.setFilled p b s).role q = s.role q := (setFilled_sameMoves p b s).role q

theorem State.role_congr {s t : State} (h : t.rc.segs = s.rc.segs) (p : Nat) : t.role p = s.role p :=
  congrArg SegRecord.role (State.seg_congr h p)

theorem State.lt_of_role_ne (h : s.role t ≠ .retired) : t < s.rc.segs.length := State.lt_of_role h

/-- A spare bound as a target. -/
theorem State.role_bindTarget (ht : s.role t = .spareFree) :
    (State.bindTarget i e t s).role q = if q = t then .spareBound else s.role q := by
  have hlt : t < s.rc.segs.length := State.lt_of_role_ne (by simp [ht])
  rw [State.role_congr (s := State.setRole t .spareBound s) (by simp), State.role_setRole _ hlt]

/-- A target back in the pool. -/
theorem State.role_cancelRevert (ht : s.role e.target = .spareBound) :
    (State.cancelRevert i e s).role q = if q = e.target then .spareFree else s.role q := by
  have hlt : e.target < s.rc.segs.length := State.lt_of_role_ne (by simp [ht])
  have hfree : (State.cancelRevert i e s).role q = (State.setRole e.target .spareFree (State.setEntry i e.reverted s)).role q :=
    (State.role_congr (by simp [State.freeTarget]) q).trans (State.role_setFilled (p := e.target) false)
  rw [hfree, State.role_setRole _ (by simpa using hlt)]
  rfl

/-- A target abandoned, and the spare bound in its place (R160). -/
theorem State.role_failTarget (ht : s.role e.target = .spareBound) : (State.failTarget i e s).role q =
    if q = e.target then .spareBad else if s.lowestSpare = some q then .spareBound else s.role q := by
  obtain ⟨htarget, hother, hspare, -⟩ := State.failTarget_spec i e s ht
  split_ifs with hq hlow
  · rw [hq, State.role, htarget]
  · rw [State.role, (hspare q hlow).1]
  · rw [State.role, hother q hq hlow, State.role]

/-- A segment moved by a commit (R23). -/
theorem State.role_commit (n : Nat) (hc : s.role e.current = .inUse) (ht : s.role e.target = .spareBound) :
    (State.commit i e n s).role q = if q = e.target then .inUse else if q = e.current then .retired else s.role q := by
  have hne : e.current ≠ e.target := by
    intro h
    rw [h, ht] at hc
    cases hc
  rw [State.role, State.commit_seg i e n s hne (State.lt_of_role_ne (by simp [hc])) (State.lt_of_role_ne (by simp [ht]))]
  split_ifs <;> rfl

/-- A segment moved by a RESTORE (R29). -/
theorem State.role_doRestore {g : Nat} (hr : s.role (s.physOf g) = .inUse) (ht : s.role t = .spareFree) :
    (State.doRestore g t s).role q = if q = t then .inUse else if q = s.physOf g then .retired else s.role q := by
  have hne : s.physOf g ≠ t := by
    intro h
    rw [h, ht] at hr
    cases hr
  rw [State.role_congr (s := s.moveTo g t) (by rw [State.doRestore_eq]; simp), State.role,
    State.moveTo_seg hne (State.lt_of_role_ne (by simp [hr])) (State.lt_of_role_ne (by simp [ht]))]
  split_ifs <;> rfl

theorem State.numL_congr {s t : State} (h : t.rc.geometry = s.rc.geometry) : t.numL = s.numL := by rw [State.numL, h, State.numL]

theorem State.numP_congr {s t : State} (h : t.rc.geometry = s.rc.geometry) : t.numP = s.numP := by rw [State.numP, h, State.numP]

end

/-! ## The queues' names -/

/-- Queues whose entries were there before name what they may, where no entry in them is COPYING and the segments of the repair entries are still IN_USE. -/
theorem State.NamesOk.congr {s t : State} (h : s.NamesOk) (hgeo : t.rc.geometry = s.rc.geometry) (hq : t.me.queue.Sublist s.me.queue)
    (hcopy : ∀ e, RemapEntry.copying e ∈ t.rc.remap → ∀ x ∈ t.me.queue, e.logical ≠ x.logical)
    (hru : ∀ x ∈ t.ru.queue, ∃ y ∈ s.ru.queue, x.addr = y.addr ∧ (s.role y.addr.segment = .inUse → t.role y.addr.segment = .inUse)) :
    t.NamesOk := by
  obtain ⟨hretire, hnodup, hrepair⟩ := h
  refine ⟨fun x hx => ⟨?_, fun e he => hcopy e he x hx⟩, hnodup.sublist (hq.map _), fun x hx => ?_⟩
  · rw [State.numL_congr hgeo]
    exact (hretire x (hq.subset hx)).1
  · obtain ⟨y, hy, hxy, hkeep⟩ := hru x hx
    rw [hxy]
    exact hkeep (hrepair y hy)

namespace State.MovesOk

variable {s t : State} {i : Nat} {x y : RemapEntry} {e e' : CopyingEntry}

/-! ## One entry replaced -/

theorem agree_at (h : s.MovesOk) (hx : s.rc.remap[i]? = some x) : Agree s.numL s.role (x :: s.rc.remap.eraseIdx i) :=
  h.agree.perm (perm_cons_eraseIdx hx)

/-- Entry `i` replaced in ONLINE: what is left to show is that the tables agree again and the queues name what they may. -/
theorem replace (h : s.MovesOk) (hm : t.MigrationOk) (hmode : t.mode = .online) (hgeo : t.rc.geometry = s.rc.geometry)
    (hlen : t.rc.segs.length = s.rc.segs.length) (hx : s.rc.remap[i]? = some x) (ht : t.rc.remap = s.rc.remap.set i y)
    (hagree : Agree s.numL t.role (y :: s.rc.remap.eraseIdx i)) (hnames : t.NamesOk) : t.MovesOk where
  migration := hm
  entries := by rw [ht, List.length_set, h.entries]
  segs := by rw [hlen, h.segs, State.numP_congr hgeo]
  geometry := hgeo ▸ h.geometry
  offline hoff := absurd hmode hoff
  agree := by
    rw [State.numL_congr hgeo, ht]
    exact hagree.perm (set_perm_cons hx y).symm
  names := hnames

/-- A migration's entry keeps its logical segment, or ends: the queues name what they may as before. -/
theorem names_after (h : s.MovesOk) (hc : s.copying = some (i, e)) (hgeo : t.rc.geometry = s.rc.geometry)
    (ht : t.rc.remap = s.rc.remap.set i y) (hy : ∀ e', y = .copying e' → e'.logical = e.logical) (hme : t.me.queue = s.me.queue)
    (hru : ∀ x ∈ t.ru.queue, x ∈ s.ru.queue ∧ (s.role x.addr.segment = .inUse → t.role x.addr.segment = .inUse)) : t.NamesOk := by
  have hentry := State.copying_getElem hc
  refine h.names.congr hgeo (hme ▸ .refl _) (fun e' he' x hx => ?_) fun x hx => ⟨x, (hru x hx).1, rfl, (hru x hx).2⟩
  rw [ht] at he'
  rcases List.mem_cons.mp ((set_perm_cons hentry y).mem_iff.mp he') with rfl | hother
  · rw [hy e' rfl]
    exact (h.names.1 x (hme ▸ hx)).2 e (List.mem_of_getElem? hentry)
  · have := h.migration.others hc _ hother
    cases this

/-- The COPYING entry fits. -/
theorem fits_copying (h : s.MovesOk) (hc : s.copying = some (i, e)) : (RemapEntry.copying e).Fits s.numL s.role :=
  h.agree.fits _ (List.mem_of_getElem? (State.copying_getElem hc))

/-- The migration goes on, with the same logical segment and current: no segment is SPARE_BOUND but its target. -/
theorem goes_on (h : s.MovesOk) (hm : t.MigrationOk) (hc : s.copying = some (i, e)) (hmode : t.mode = s.mode)
    (hgeo : t.rc.geometry = s.rc.geometry) (hlen : t.rc.segs.length = s.rc.segs.length)
    (ht : t.rc.remap = s.rc.remap.set i (.copying e')) (hme : t.me.queue = s.me.queue) (hru : t.ru = s.ru)
    (hg : e'.logical = e.logical) (hcur : e'.current = e.current) (hprev : e'.previous = e.previous) (hlt : e'.cursor < 4096)
    (htarget : t.role e'.target = .spareBound) (hsp : SparesOnly s.role t.role)
    (hbound : ∀ p, t.role p = .spareBound → e'.target = p) : t.MovesOk := by
  have hx := State.copying_getElem hc
  have hat := h.agree_at hx
  obtain ⟨hlogical, hin, -, -, hfree, hactive⟩ := h.fits_copying hc
  refine h.replace hm (hmode.trans (h.migration.online hc)) hgeo hlen hx ht (hat.rebind (h.migration.others hc) ?_ (fun z hz => ?_)
    (fun p => ?_) (fun p _ hp => ?_) hsp fun p hp => ⟨e', rfl, hbound p hp⟩) ?_
  · exact ⟨hg ▸ hlogical, hcur ▸ (hsp.eq_iff _ rfl).mpr hin, htarget, hlt, by rw [hprev, hcur, hg]; exact hfree, by rw [hprev, hcur]; exact hactive⟩
  · refine ((List.pairwise_cons.mp hat.apart).1 z hz).of_sub (fun g hy => ?_) fun p hy => ?_
    · exact (congrArg some hg).symm.trans hy
    · exact (congrArg some hcur).symm.trans hy
  · simp only [RemapEntry.AtHome, RemapEntry.logical?, RemapEntry.current?, hg, hcur]
  · exact (congrArg some hcur).trans hp
  · exact h.names_after hc hgeo ht (fun _ he => by cases he; exact hg) hme fun x hx => ⟨hru ▸ hx, (hsp.eq_iff _ rfl).mpr⟩

/-- The migration is reverted: no segment is SPARE_BOUND any more. -/
theorem reverts (h : s.MovesOk) (hm : t.MigrationOk) (hc : s.copying = some (i, e)) (hmode : t.mode = s.mode)
    (hgeo : t.rc.geometry = s.rc.geometry) (hlen : t.rc.segs.length = s.rc.segs.length) {n : Nat}
    (ht : t.rc.remap = s.rc.remap.set i (CopyingEntry.reverted { e with restarts := n })) (hme : t.me.queue = s.me.queue)
    (hru : t.ru = s.ru) (hsp : SparesOnly s.role t.role)
    (hbound : ∀ p, t.role p ≠ .spareBound) : t.MovesOk := by
  have hx := State.copying_getElem hc
  refine h.replace hm (hmode.trans (h.migration.online hc)) hgeo hlen hx ht
    ((h.agree_at hx).revert (h.migration.others hc) hsp hbound) ?_
  refine h.names_after hc hgeo ht (fun e' he => ?_) hme fun x hx => ⟨hru ▸ hx, (hsp.eq_iff _ rfl).mpr⟩
  have hnot := CopyingEntry.reverted_not_copying { e with restarts := n }
  rw [he] at hnot
  cases hnot

/-- No segment is SPARE_BOUND but the COPYING entry's target. -/
theorem target_unique (h : s.MovesOk) (hc : s.copying = some (i, e)) {p : Nat} (hp : s.role p = .spareBound) : e.target = p := by
  obtain ⟨e', he', htarget⟩ := (h.agree_at (State.copying_getElem hc)).target p hp
  rcases List.mem_cons.mp he' with he | he
  · cases he
    exact htarget
  · have := h.migration.others hc _ he
    cases this

/-! ## The changes -/

theorem advance (h : s.MovesOk) (n : Nat) (hc : s.copying = some (i, e)) (hlt : e.cursor + 1 < 4096) :
    (State.setEntry i (.copying { e with cursor := e.cursor + 1, poisoned := n }) s).MovesOk :=
  h.goes_on (migrationOk_rules.advance n hc hlt h.migration) hc rfl rfl rfl rfl rfl rfl rfl rfl rfl hlt (h.fits_copying hc).2.2.1
    (fun _ => .inl rfl) fun _ hp => h.target_unique hc hp

theorem fail (h : s.MovesOk) (hc : s.copying = some (i, e)) : (State.failTarget i e s).MovesOk := by
  have hm := migrationOk_rules.fail hc h.migration
  have hbound : s.role e.target = .spareBound := (h.fits_copying hc).2.2.1
  have hrole := fun q => State.role_failTarget (i := i) (q := q) hbound
  have hlen : (State.failTarget i e s).rc.segs.length = s.rc.segs.length := by simp
  have hsp : SparesOnly s.role (State.failTarget i e s).role := by
    intro p
    rw [hrole]
    split_ifs with hp hlow
    · exact .inr (by simp [hp, hbound, SegRole.isSpare])
    · have hfree : s.role p = .spareFree := State.lowestSpare_role hlow
      exact .inr (by simp [hfree, SegRole.isSpare])
    · exact .inl rfl
  obtain ⟨-, -, hnext, hnone⟩ := State.failTarget_spec i e s hbound
  cases hlow : s.lowestSpare with
  | some n =>
    obtain ⟨-, hremap, hme, -⟩ := hnext n hlow
    have hfree : s.role n = .spareFree := State.lowestSpare_role hlow
    refine h.goes_on hm hc (by simp) (by simp) hlen hremap (by rw [hme]) (by simp) rfl rfl rfl (by simp) ?_ hsp ?_
    · rw [hrole, if_neg, if_pos hlow]
      rintro rfl
      rw [hbound] at hfree
      cases hfree
    · intro p hp
      rw [hrole] at hp
      split_ifs at hp with htarget hspare
      · exact Option.some.inj (hlow.symm.trans hspare)
      · exact absurd (h.target_unique hc hp).symm htarget
  | none =>
    obtain ⟨hremap, hme, -⟩ := hnone hlow
    refine h.reverts (n := e.restarts + 1) hm hc (by simp) (by simp) hlen ?_ (by rw [hme]) (by simp) hsp ?_
    · rw [hremap, CopyingEntry.reverted_eq]
    · intro p hp
      rw [hrole] at hp
      split_ifs at hp with htarget hspare
      · rw [hlow] at hspare
        cases hspare
      · exact htarget (h.target_unique hc hp).symm

theorem cancel (h : s.MovesOk) (hc : s.copying = some (i, e)) : (State.cancelRevert i e s).MovesOk := by
  have hbound : s.role e.target = .spareBound := (h.fits_copying hc).2.2.1
  have hrole := fun q => State.role_cancelRevert (i := i) (q := q) hbound
  refine h.reverts (n := e.restarts) (migrationOk_rules.cancel hc h.migration) hc (by simp) (by simp) (by simp)
    (State.cancelRevert_remap i e s) (by simp) (by simp) (fun p => ?_) fun p hp => ?_
  · rw [hrole]
    split_ifs with hp
    · exact .inr (by simp [hp, hbound, SegRole.isSpare])
    · exact .inl rfl
  · rw [hrole] at hp
    split_ifs at hp with htarget
    exact htarget (h.target_unique hc hp).symm

theorem commit (h : s.MovesOk) (n : Nat) (hc : s.copying = some (i, e)) : (State.commit i e n s).MovesOk := by
  have hx := State.copying_getElem hc
  obtain ⟨hlogical, hin, hbound, -⟩ := h.fits_copying hc
  have hrole := fun q => State.role_commit (i := i) (q := q) n hin hbound
  obtain ⟨hremap, -⟩ := State.commit_remap i e n s
  obtain ⟨hrc, -, -, -, hme, hru, -⟩ := State.commit_fields i e n s
  have hmoves : MovesTo s.numL s.role (State.commit i e n s).role (.copying e) (s.rc.remap.eraseIdx i) e.logical e.current e.target :=
    { agree := h.agree_at hx
      logical := hlogical
      served := .inl ⟨rfl, rfl⟩
      inUse := hin
      spare := h.agree.spare (by simp [hbound]) (by simp [hbound])
      unused := by simp [hbound]
      target := fun e' he => by cases he; rfl
      others := fun e' he => by
        have := h.migration.others hc _ he
        cases this
      roles := hrole }
  refine h.replace (migrationOk_rules.commit n hc h.migration) ?_ (by rw [hrc]; simp) (by rw [hrc]; simp) hx hremap
    (hmoves.agree_after rfl rfl) ?_
  · simpa using h.migration.online hc
  · refine h.names_after hc (by rw [hrc]; simp) hremap nofun (by rw [hme]) fun x hx => ?_
    rw [hru] at hx
    obtain ⟨hmem, hne⟩ := List.mem_filter.mp hx
    refine ⟨hmem, fun hxin => ?_⟩
    rw [hrole]
    split_ifs with ht hcur
    · rfl
    · exact absurd hcur (by simpa using hne)
    · exact hxin

end State.MovesOk

end Sys2Proof.Machine

end

-- ==== Proofs: SparesCounted ====
section
/-! SUPPORT. A spare that is free has an entry to record it: the table has as many entries as there can be spares (R16, R29). -/

namespace Sys2Proof.Machine

/-- The spare that a non-FREE entry holds: a COPYING one its target, an ACTIVE one its current. -/
def RemapEntry.holds : RemapEntry → Nat
  | .free => 0
  | .copying e => e.target
  | .active a => a.current

section
variable {L : Nat} {role : Nat → SegRole} {l : List RemapEntry} {x y : RemapEntry}

/-- What an entry holds is a spare in use or bound. -/
theorem Agree.role_holds (h : Agree L role l) (hx : x ∈ l) (hfree : x ≠ .free) :
    L ≤ x.holds ∧ (role x.holds = .inUse ∨ role x.holds = .spareBound) := by
  cases x with
  | free => exact absurd rfl hfree
  | copying e =>
    obtain ⟨-, -, hb, -⟩ := h.fits _ hx
    exact ⟨h.spare (p := e.target) (by simp [hb]) (by simp [hb]), .inr hb⟩
  | active a =>
    obtain ⟨-, hin, hL⟩ := h.fits _ hx
    exact ⟨hL, .inl hin⟩

/-- Two entries, not both COPYING, hold different spares. -/
theorem Agree.holds_ne (h : Agree L role l) (hx : x ∈ l) (hy : y ∈ l) (hxf : x ≠ .free) (hyf : y ≠ .free) (hxy : x.apart y)
    (hone : x.copying? = none ∨ y.copying? = none) : x.holds ≠ y.holds := by
  have hbu : ∀ {e a}, RemapEntry.copying e ∈ l → RemapEntry.active a ∈ l → e.target ≠ a.current := by
    intro e a he ha heq
    obtain ⟨-, -, hb, -⟩ := h.fits _ he
    obtain ⟨-, hin, -⟩ := h.fits _ ha
    rw [heq, hin] at hb
    cases hb
  cases x with
  | free => exact absurd rfl hxf
  | copying e =>
    cases y with
    | free => exact absurd rfl hyf
    | copying e' => rcases hone with hc | hc <;> cases hc
    | active a => exact hbu hx hy
  | active a =>
    cases y with
    | free => exact absurd rfl hyf
    | copying e => exact (hbu hy hx).symm
    | active b => exact fun heq => hxy.2 a.current rfl (congrArg some heq.symm)

end

namespace State.MovesOk

variable {s : State}

/-- A FREE entry is left while a spare is SPARE_FREE. -/
theorem exists_free (h : s.MovesOk) {t : Nat} (ht : s.role t = .spareFree) : RemapEntry.free ∈ s.rc.remap := by
  by_contra hnone
  have hfree : ∀ x ∈ s.rc.remap, x ≠ .free := fun x hx hxf => hnone (hxf ▸ hx)
  have hrange : ∀ p, s.numL ≤ p → s.role p ≠ .retired → p ∈ Finset.Ico s.numL s.numP := fun p hL hp =>
    Finset.mem_Ico.mpr ⟨hL, h.segs ▸ State.lt_of_role_ne hp⟩
  have hnodup : (t :: s.rc.remap.map RemapEntry.holds).Nodup := by
    refine List.nodup_cons.mpr ⟨fun hmem => ?_, List.pairwise_map.mpr ?_⟩
    · obtain ⟨x, hx, rfl⟩ := List.mem_map.mp hmem
      obtain ⟨-, hin | hb⟩ := h.agree.role_holds hx (hfree x hx)
      · simp [hin] at ht
      · simp [hb] at ht
    · have hpair := h.agree.apart.and (pairwise_of_copyingIn_le h.migration.count_le)
      exact hpair.imp_of_mem fun hx hy hxy => h.agree.holds_ne hx hy (hfree _ hx) (hfree _ hy) hxy.1 hxy.2
  have hsub : (t :: s.rc.remap.map RemapEntry.holds).toFinset ⊆ Finset.Ico s.numL s.numP := by
    intro p hp
    rcases List.mem_cons.mp (List.mem_toFinset.mp hp) with rfl | hp
    · exact hrange p (h.agree.spare (by simp [ht]) (by simp [ht])) (by simp [ht])
    · obtain ⟨x, hx, rfl⟩ := List.mem_map.mp hp
      obtain ⟨hL, hin | hb⟩ := h.agree.role_holds hx (hfree x hx)
      · exact hrange _ hL (by simp [hin])
      · exact hrange _ hL (by simp [hb])
  have hcard := Finset.card_le_card hsub
  rw [List.toFinset_card_of_nodup hnodup, Nat.card_Ico, List.length_cons, List.length_map, h.entries] at hcard
  have hspares : s.numP - s.numL ≤ 32 := by
    unfold State.numP State.numL
    cases hg : s.rc.geometry with
    | none => simp
    | some g =>
      obtain ⟨h32, hle⟩ := h.geometry g hg
      simp
      omega
  have : Config.remapEntries = 32 := rfl
  omega

/-- A RESTORE finds an entry to record its move. -/
theorem exists_restoreIndex (h : s.MovesOk) {t : Nat} (ht : s.role t = .spareFree) (g : Nat) : ∃ i, s.restoreIndex g = some i := by
  unfold State.restoreIndex
  split
  next i _ => exact ⟨i, rfl⟩
  next =>
    cases hi : s.rc.remap.findIdx? fun x => x == .free with
    | some i => exact ⟨i, rfl⟩
    | none => simpa using List.findIdx?_eq_none_iff.mp hi _ (h.exists_free ht)

end State.MovesOk

end Sys2Proof.Machine

end

-- ==== Proofs: StepsKeepOneMigration ====
section
/-! SUPPORT. Every change of entries, roles and queues keeps them in agreement (R5, R17, R19, R20, R79, R146). -/

namespace Sys2Proof.Machine

namespace State.MovesOk

variable {s t : State}

theorem same (hst : s.SameMoves t) (h : s.MovesOk) : t.MovesOk where
  migration := migrationOk_rules.same hst h.migration
  entries := by rw [hst.remap, h.entries]
  segs := by rw [hst.segs, h.segs, State.numP_congr hst.geometry]
  geometry := hst.geometry ▸ h.geometry
  offline hoff := by
    obtain ⟨hgeo, hfree, hme, hru⟩ := h.offline fun hon => hoff (hst.online.mpr hon)
    refine ⟨hst.geometry.trans hgeo, hst.remap ▸ hfree, ?_, ?_⟩
    · exact List.sublist_nil.mp (hme ▸ hst.retire)
    · refine List.eq_nil_iff_forall_not_mem.mpr fun x hx => ?_
      obtain ⟨y, hy, -⟩ := hst.repair x hx
      rw [hru] at hy
      cases hy
  agree := by
    have hrole : t.role = s.role := funext hst.role
    rw [State.numL_congr hst.geometry, hst.remap, hrole]
    exact h.agree
  names := by
    refine h.names.congr hst.geometry hst.retire (fun e he x hx => ?_) fun x hx => ?_
    · exact (h.names.1 x (hst.retire.subset hx)).2 e (hst.remap ▸ he)
    · obtain ⟨y, hy, hxy⟩ := hst.repair x hx
      exact ⟨y, hy, hxy, fun hin => (hst.role _).trans hin⟩

/-- A segment has a role but RETIRED in ONLINE alone. -/
theorem online_of_role (h : s.MovesOk) {p : Nat} (hp : s.role p ≠ .retired) : s.mode = .online := by
  by_contra hoff
  obtain ⟨hgeo, -⟩ := h.offline hoff
  have hlt := State.lt_of_role_ne hp
  rw [h.segs, State.numP, hgeo] at hlt
  cases hlt

/-- What may be appended to the Retire Queue is a logical segment of a part in ONLINE. -/
theorem mayRetire (h : s.MovesOk) {g : Nat} (hg : s.MayRetire g) : s.mode = .online ∧ g < s.numL := by
  rcases hg.1 with hon | ⟨p, hp⟩
  · exact hon
  · by_cases hrole : s.role p = .inUse
    · obtain ⟨k, hk, hpk, -⟩ := h.physOf_logicalOf hrole
      exact ⟨h.online_of_role (p := p) (by simp [hrole]), Option.some.inj (hp.symm.trans hpk) ▸ hk⟩
    · rw [logicalOf_other hrole] at hp
      cases hp

theorem append (h : s.MovesOk) {g : Nat} (o : RetireOrigin) (hg : s.MayRetire g) : (State.appendRetire g o s).MovesOk := by
  obtain ⟨hon, hlt⟩ := h.mayRetire hg
  obtain ⟨-, hqueued, hcopying⟩ := hg
  obtain ⟨hretire, hnodup, hrepair⟩ := h.names
  refine ⟨h.migration, h.entries, h.segs, h.geometry, fun hoff => absurd hon hoff, h.agree, fun x hx => ?_, ?_, hrepair⟩
  · rcases List.mem_append.mp hx with hx | hx
    · exact hretire x hx
    · cases List.mem_singleton.mp hx
      exact ⟨hlt, fun e he => State.not_isCopying h.agree.apart hcopying he⟩
  · show ((s.me.queue ++ [(⟨g, o⟩ : RetireEntry)]).map RetireEntry.logical).Nodup
    rw [List.map_append]
    have hone : ([(⟨g, o⟩ : RetireEntry)].map RetireEntry.logical).Nodup := List.nodup_singleton g
    refine List.nodup_append.mpr ⟨hnodup, hone, fun a ha b hb hab => ?_⟩
    obtain ⟨x, hx, rfl⟩ := List.mem_map.mp ha
    have hxg : x.logical = g := hab.trans (List.mem_singleton.mp hb)
    rw [(s.queuedForRetire_iff g).mpr ⟨x, hx, hxg⟩] at hqueued
    cases hqueued

theorem offer (h : s.MovesOk) (x : RepairEntry) (hx : s.role x.addr.segment = .inUse) :
    ({ s with ru := { s.ru with queue := s.ru.queue ++ [x] } } : State).MovesOk := by
  obtain ⟨hretire, hnodup, hrepair⟩ := h.names
  have hon : s.mode = .online := h.online_of_role (p := x.addr.segment) (by simp [hx])
  refine ⟨h.migration, h.entries, h.segs, h.geometry, fun hoff => absurd hon hoff, h.agree, hretire, hnodup, fun y hy => ?_⟩
  rcases List.mem_append.mp hy with hy | hy
  · exact hrepair y hy
  · cases List.mem_singleton.mp hy
    exact hx

/-! ## A migration's start (R22, R151) -/

/-- The entry a start sets up is bound to a free spare. -/
theorem start (h : s.MovesOk) {x : RetireEntry} {rest : List RetireEntry} {n i : Nat} {e : CopyingEntry} (hmode : s.mode = .online)
    (hidle : s.me.state = .idle) (hq : s.me.queue = x :: rest) (hn : s.lowestSpare = some n)
    (he : s.startEntry x.logical x.origin.remap = some (i, e)) :
    (State.bindTarget i e n { s with me := { s.me with queue := rest, state := .copyRead false, step := .raised } }).MovesOk := by
  set t : State := State.bindTarget i e n { s with me := { s.me with queue := rest, state := .copyRead false, step := .raised } } with ht
  have hfree : s.role n = .spareFree := State.lowestSpare_role hn
  have hrole : ∀ q, t.role q = if q = n then .spareBound else s.role q := fun q => State.role_bindTarget hfree
  have hnone := h.migration.none_copying hidle
  have hothers : ∀ z ∈ s.rc.remap.eraseIdx i, z.copying? = none := fun z hz => hnone z (List.mem_of_mem_eraseIdx hz)
  have hremap : t.rc.remap = s.rc.remap.set i (.copying { e with target := n, cursor := 0, poisoned := 0 }) := by simp [ht]
  obtain ⟨hretire, hnodup, -⟩ := h.names
  rw [hq, List.map_cons, List.nodup_cons] at hnodup
  have hnames : e.logical = x.logical → t.NamesOk := by
    intro heg
    refine h.names.congr (by simp [ht]) ?_ (fun e' he' y hy hey => ?_) fun y hy =>
      ⟨y, hy, rfl, ((sparesOnly_bind hfree hrole).eq_iff _ rfl).mpr⟩
    · rw [hq]
      exact List.sublist_cons_self x rest
    · rw [hremap] at he'
      rcases List.mem_or_eq_of_mem_set he' with hold | hnew
      · cases hnone _ hold
      · cases hnew
        exact hnodup.1 (List.mem_map.mpr ⟨y, hy, hey.symm.trans heg⟩)
  have hm : t.MigrationOk := migrationOk_rules.start hmode hidle hq hn he h.migration
  rcases State.startEntry_spec he with ⟨hnew, hx, rfl⟩ | ⟨a, hx, hag, rfl⟩
  · have hlt : x.logical < s.numL := (hretire x (hq ▸ List.mem_cons_self)).1
    exact h.replace hm hmode (by simp [ht]) (by simp [ht]) hx hremap ((h.agree_at hx).bind_free hothers hlt
      (fun z hz => State.entryIndex_none.mp hnew z (List.mem_of_mem_eraseIdx hz)) hfree hrole) (hnames rfl)
  · exact h.replace hm hmode (by simp [ht]) (by simp [ht]) hx hremap ((h.agree_at hx).bind_active hothers hag hfree hrole) (hnames rfl)

/-! ## RESTORE (R28, R29) -/

theorem restore (h : s.MovesOk) {g n : Nat} (hok : s.checkRestore g n = .ok) : (State.doRestore g n s).MovesOk := by
  obtain ⟨hmode, hlt, hL, -, hfree, hcopying, -⟩ := State.checkRestore_ok hok
  obtain ⟨i, hi⟩ := h.exists_restoreIndex (t := n) hfree g
  obtain ⟨hserve, -⟩ := h.logicalOf_physOf hlt
  have hrole := fun q => State.role_doRestore (q := q) hserve hfree
  have hremap : (State.doRestore g n s).rc.remap = s.rc.remap.set i (.active ⟨g, n, .restored, 0, 0⟩) := by
    rw [State.doRestore_eq, ← State.recordRestore_remap hi]
    simp
  have hm := migrationOk_rules.restore hok h.migration
  have hnot : ∀ e, RemapEntry.copying e ∈ s.rc.remap → e.target ≠ n := by
    rintro e he rfl
    have hb : s.role e.target = .spareBound := (h.agree.fits _ he).2.2.1
    rw [State.role, hfree] at hb
    cases hb
  obtain ⟨x, hx, hxc, hserved⟩ : ∃ x, s.rc.remap[i]? = some x ∧ x.copying? = none ∧ ServedBy x (s.rc.remap.eraseIdx i) g (s.physOf g) := by
    rcases State.restoreIndex_spec hi hcopying with ⟨hnone, hx⟩ | ⟨a, hx, hag⟩
    · exact ⟨_, hx, rfl, .inr ⟨rfl, State.physOf_of_none hnone, fun z hz =>
        State.entryIndex_none.mp hnone z (List.mem_of_mem_eraseIdx hz)⟩⟩
    · have hcur := State.physOf_of_mem (c := a.current) h.agree.apart (List.mem_of_getElem? hx) (congrArg some hag) rfl
      exact ⟨_, hx, rfl, .inl ⟨congrArg some hag, congrArg some hcur.symm⟩⟩
  have hmoves : MovesTo s.numL s.role (State.doRestore g n s).role x (s.rc.remap.eraseIdx i) g (s.physOf g) n :=
    { agree := h.agree_at hx
      logical := hlt
      served := hserved
      inUse := hserve
      spare := hL
      unused := by simp [State.role, hfree]
      target := by
        rintro e rfl
        cases hxc
      others := fun e he => hnot e (List.mem_of_mem_eraseIdx he)
      roles := hrole }
  have hgeo : (State.doRestore g n s).rc.geometry = s.rc.geometry := by simp
  refine h.replace hm (by simpa using hmode) hgeo (by simp) hx hremap (hmoves.agree_after rfl rfl) ?_
  refine h.names.congr hgeo (by simp) (fun e he y hy => ?_) fun y hy => ?_
  · rw [hremap] at he
    rcases List.mem_or_eq_of_mem_set he with hold | hnew
    · exact (h.names.1 y (by simpa using hy)).2 e hold
    · cases hnew
  · have hru : y ∈ s.ru.queue.filter fun x => x.addr.segment != s.physOf g := by
      simpa [State.doRestore_eq] using hy
    obtain ⟨hmem, hne⟩ := List.mem_filter.mp hru
    refine ⟨y, hmem, rfl, fun hin => ?_⟩
    rw [hrole, hin]
    split_ifs with htar hcur
    · rfl
    · exact absurd hcur (by simpa using hne)
    · rfl

/-! ## The part goes online, and an engine reset (R27, R189) -/

/-- The roles of a part that goes online. -/
theorem role_fresh {p n : Nat} (hle : n ≤ p) (hsegs : t.rc.segs = freshSegments p n) :
    (∀ q < p - n, t.role q = .inUse) ∧ ∀ q, p - n ≤ q → t.role q = .spareFree ∨ t.role q = .retired := by
  have hrole : ∀ q < p, t.role q = if q < p - n then .inUse else .spareFree := fun q hq => by
    rw [State.role, State.seg, hsegs, freshSegments_getD q hle hq]
  refine ⟨fun q hq => (hrole q (by omega)).trans (if_pos hq), fun q hq => ?_⟩
  by_cases hqp : q < p
  · exact .inl ((hrole q hqp).trans (if_neg (by omega)))
  · refine .inr ?_
    by_contra hr
    have hlt := State.lt_of_role_ne hr
    rw [hsegs, freshSegments_length hle] at hlt
    exact hqp hlt

theorem goOnline (h : s.MovesOk) {p n : Nat} (hmode : s.mode ≠ .online) (hv : validGeometry p n = true) :
    (State.startOnline p n s).MovesOk := by
  obtain ⟨-, -, hme, hru⟩ := h.offline hmode
  have hle := spares_le_of_valid hv
  obtain ⟨-, h32, -⟩ := (validGeometry_iff p n).mp hv
  set t := State.startOnline p n s with ht
  have hqueues : t.me.queue = [] ∧ t.ru.queue = [] := by simpa [ht] using ⟨hme, hru⟩
  have honline : t.mode = .online := by simp [ht, State.startOnline]
  have hrc : t.rc = ⟨some ⟨p, n⟩, freshSegments p n, List.replicate Config.remapEntries .free⟩ := by simp [ht, State.startOnline]
  have hnumL : t.numL = p - n := by simp [State.numL, hrc]
  obtain ⟨hlow, hhigh⟩ := role_fresh (t := t) hle (by rw [hrc])
  obtain ⟨hmeq, hruq⟩ := hqueues
  refine ⟨migrationOk_rules.goOnline hmode hv h.migration, ?_, ?_, ?_, fun hoff => absurd honline hoff, ?_, ?_, ?_, ?_⟩
  · rw [hrc, List.length_replicate]
  · simp [hrc, State.numP, freshSegments_length hle]
  · intro g hg
    rw [hrc] at hg
    cases hg
    exact ⟨h32, hle⟩
  · rw [hnumL]
    exact .fresh (fun x hx => List.eq_of_mem_replicate (hrc ▸ hx)) hlow hhigh
  · rw [hmeq]
    nofun
  · rw [hmeq]
    exact .nil
  · rw [hruq]
    nofun

theorem engineReset (h : s.MovesOk) : s.resetBlocks.MovesOk := by
  have hrole : ∀ p, s.resetBlocks.role p = if s.role p = .spareBound then .spareFree else s.role p := by
    intro p
    rw [State.role_congr (s := s.enginesReset) (by simp [State.enginesReset]), State.role, State.enginesReset_seg,
      SegRecord.engineReset]
    split_ifs with hb hb' hb' <;> simp_all [State.role]
  refine ⟨migrationOk_rules.engineReset h.migration, ?_, ?_, ?_, ?_, ?_, ?_, ?_, ?_⟩
  · simpa [RemapCtl.engineReset] using h.entries
  · simpa [RemapCtl.engineReset, State.numP] using h.segs
  · simpa [RemapCtl.engineReset] using h.geometry
  · intro hoff
    obtain ⟨hgeo, hfree, -, -⟩ := h.offline (by simpa using hoff)
    refine ⟨by simpa [RemapCtl.engineReset] using hgeo, fun x hx => ?_, by simp, by simp⟩
    obtain ⟨y, hy, rfl⟩ := List.mem_map.mp (by simpa only [State.resetBlocks_fields, RemapCtl.engineReset] using hx)
    rw [hfree y hy]
    rfl
  · have hremap : s.resetBlocks.rc.remap = s.rc.remap.map RemapEntry.engineReset := by simp [RemapCtl.engineReset]
    rw [hremap, State.numL_congr (s := s) (by simp [RemapCtl.engineReset])]
    exact h.agree.reset hrole
  · simp
  · simp
  · simp

end State.MovesOk

theorem State.reset_movesOk : State.reset.MovesOk := (State.reset.remapOk_iff.mp State.reset_remapOk).2

/-- Every change keeps tables, entries, roles and queues in agreement. -/
theorem movesOk_rules : MigrationRules State.MovesOk where
  same hst h := h.same hst
  append o hg h := h.append o hg
  offer x hx h := h.offer x hx
  start hmode hidle hq hn he h := h.start hmode hidle hq hn he
  migrationOk h := h.migration
  reset := State.reset_movesOk
  goOnline hmode hv h := h.goOnline hmode hv
  engineReset h := h.engineReset
  advance n hc hlt h := h.advance n hc hlt
  fail hc h := h.fail hc
  cancel hc h := h.cancel hc
  commit n hc h := h.commit n hc
  restore hok h := h.restore hok

end Sys2Proof.Machine

open Sys2Proof Sys2Proof.Machine

/-- Settles O59: a step is made of the changes of `MigrationRules`, and each keeps the number of COPYING entries and the agreement. -/
theorem stepsKeepOneMigration : Obligations.StepsKeepOneMigration := by
  refine ⟨fun s t hs hstep => migrationOk_rules.step hs hstep, fun s t hs hstep => ?_, fun s hs => ?_⟩
  · obtain ⟨htables, hmoves⟩ := s.remapOk_iff.mp hs
    exact t.remapOk_iff.mpr ⟨stepsKeepTheTablesSized s t htables hstep, movesOk_rules.step hmoves hstep⟩
  · obtain ⟨-, h⟩ := s.remapOk_iff.mp hs
    refine ⟨fun i j x y hx hy hij => ?_, fun g hg => h.logicalOf_physOf hg, fun p hp => h.physOf_logicalOf hp,
      fun p hp => State.MovesOk.logicalOf_other hp, h.names.2.2⟩
    obtain ⟨hlogical, hcurrent⟩ := h.apart_getElem hx hy hij
    refine ⟨hlogical, hcurrent, fun e he => ⟨?_, fun e' he' => ?_⟩⟩
    · cases x with
      | copying c =>
        cases he
        exact h.current_ne_target (List.mem_of_getElem? hx) (List.mem_of_getElem? hy)
      | free => cases he
      | active a => cases he
    · cases x with
      | copying c =>
        cases y with
        | copying c' => exact hij (h.migration.copying_unique hx hy)
        | free => cases he'
        | active a => cases he'
      | free => cases he
      | active a => cases he

end

-- ==== Proofs: ReadingCommands ====
section
/-! SUPPORT. The commands that leave results (R30, R31, R130, R177): their answers, and the layouts of R196. -/

namespace Sys2Proof.Machine

section
variable {s u : State} {g i : Nat}

/-! ## TRANSLATE (R30) -/

theorem State.takeTranslate_notOnline (h : s.mode ≠ .online) :
    s.takeTranslate = State.leaveResults noResults (State.completeImmediate 0x31 .notOnline s) := by
  simp [State.takeTranslate, h]

theorem State.takeTranslate_badParameter (h : s.mode = .online) (hg : s.numL ≤ s.mp.param0.toNat) :
    s.takeTranslate = State.leaveResults noResults (State.completeImmediate 0x31 .badParameter s) := by
  simp [State.takeTranslate, h, hg]

theorem State.takeTranslate_ok (h : s.mode = .online) (hg : s.mp.param0.toNat < s.numL) :
    s.takeTranslate = State.leaveResults (s.translateResults s.mp.param0.toNat) (State.completeImmediate 0x31 .ok s) := by
  simp [State.takeTranslate, h, Nat.not_le.mpr hg]

/-- A flag as a result word (R196). -/
theorem ofNat_toNat (b : Bool) : BitVec.ofNat 16 b.toNat = if b = true then 1 else 0 := by
  cases b <;> rfl

theorem State.translateResults_unmapped (h : s.entryIndex g = none) : s.translateResults g =
    [BitVec.ofNat 16 g, 0xFFFF, 0xFFFF, 0xFFFF, 0xFFFF, if (s.seg g).filled = true then 1 else 0,
      BitVec.ofNat 16 (s.health g).state.code, 0xFFFF] := by
  have hentry : s.entryOf g = .free := by rw [State.entryOf, h]
  simp only [State.translateResults, State.physOf_of_none h, hentry, h, ← ofNat_toNat]
  rfl

theorem State.entryOf_of_index {x : RemapEntry} (h : s.entryIndex g = some i) (hx : s.rc.remap[i]? = some x) : s.entryOf g = x := by
  rw [State.entryOf, h]
  simp [State.entryAt, List.getD_eq_getElem?_getD, hx]

theorem State.translateResults_copying {e : CopyingEntry} (h : s.entryIndex g = some i) (hx : s.rc.remap[i]? = some (.copying e)) :
    s.translateResults g =
      [BitVec.ofNat 16 e.current, BitVec.ofNat 16 i, 1, BitVec.ofNat 16 e.target, BitVec.ofNat 16 e.cursor,
        if (s.seg e.current).filled = true then 1 else 0, BitVec.ofNat 16 (s.health e.current).state.code, 0xFFFF] := by
  have hphys : s.physOf g = e.current := by rw [State.physOf, State.entryOf_of_index h hx]; rfl
  simp only [State.translateResults, hphys, State.entryOf_of_index h hx, h, ← ofNat_toNat]
  rfl

theorem State.translateResults_active {a : ActiveEntry} (h : s.entryIndex g = some i) (hx : s.rc.remap[i]? = some (.active a)) :
    s.translateResults g =
      [BitVec.ofNat 16 a.current, BitVec.ofNat 16 i, 2, 0xFFFF, 0xFFFF, if (s.seg a.current).filled = true then 1 else 0,
        BitVec.ofNat 16 (s.health a.current).state.code, 0xFFFF] := by
  have hphys : s.physOf g = a.current := by rw [State.physOf, State.entryOf_of_index h hx]; rfl
  simp only [State.translateResults, hphys, State.entryOf_of_index h hx, h, ← ofNat_toNat]
  rfl

/-! ## READ_REMAP (R31) -/

theorem State.takeReadRemap_badParameter (h : 32 ≤ s.mp.param0.toNat) :
    s.takeReadRemap = State.leaveResults noResults (State.completeImmediate 0x32 .badParameter s) := by
  simp [State.takeReadRemap, Config.remapEntries, h]

theorem State.takeReadRemap_ok (h : s.mp.param0.toNat < 32) : s.takeReadRemap =
    State.leaveResults (remapResults (s.rc.remap[s.mp.param0.toNat]?.getD .free)) (State.completeImmediate 0x32 .ok s) := by
  simp [State.takeReadRemap, Config.remapEntries, Nat.not_le.mpr h, State.entryAt, List.getD_eq_getElem?_getD]

/-! ## READ_HEALTH (R130) -/

theorem State.takeReadHealth_notOnline (h : s.mode ≠ .online) :
    s.takeReadHealth = State.leaveResults noResults (State.completeImmediate 0x42 .notOnline s) := by
  simp [State.takeReadHealth, h]

theorem State.takeReadHealth_badParameter (h : s.mode = .online) (hp : s.numP ≤ s.mp.param0.toNat) :
    s.takeReadHealth = State.leaveResults noResults (State.completeImmediate 0x42 .badParameter s) := by
  simp [State.takeReadHealth, h, hp]

theorem State.takeReadHealth_ok (h : s.mode = .online) (hp : s.mp.param0.toNat < s.numP) : s.takeReadHealth =
    State.leaveResults (healthResults (s.health s.mp.param0.toNat)) (State.completeImmediate 0x42 .ok s) := by
  simp [State.takeReadHealth, h, Nat.not_le.mpr hp]

/-! ## READ_CAPTURE (R177) -/

/-- The weight of a flag that is set (R196). -/
theorem weight_toNat (n : Nat) (b : Bool) : n * b.toNat = if b = true then n else 0 := by
  cases b <;> simp

/-- The weight of a field that is present (R196). -/
theorem weight_isSome (n : Nat) (x : Option Nat) : (if x = none then 0 else n) = n * x.isSome.toNat := by
  cases x <;> simp

/-- A pair of flags, seen the lower bit (R196). -/
theorem SeenAgain.code_eq (x : SeenAgain) : x.code = (if x.seen = true then 1 else 0) + if x.again = true then 2 else 0 := by
  rw [SeenAgain.code, weight_toNat, ← weight_toNat 1, Nat.one_mul]

/-- The flags of the four kinds, in the order of R196. -/
theorem FaultCapture.flagCode_eq (u : FaultCapture) :
    u.flagCode = 256 * (u.corrected.code + 4 * u.uncorrectable.code + 16 * u.poison.code + 64 * u.noaddr.code) := by
  rw [FaultCapture.flagCode]
  ring

theorem FaultCapture.results_none {u : FaultCapture} (h : u.record = none) :
    u.results = [BitVec.ofNat 16 u.flagCode, 0xFFFF, 0xFFFF, 0, 0xFFFF, 0xFFFF, 0xFFFF, 0xFFFF] := by
  rw [FaultCapture.results, h]

theorem FaultCapture.results_some {u : FaultCapture} {r : FaultReport} (h : u.record = some r) : u.results =
    [BitVec.ofNat 16 (r.code + u.flagCode), captureWord (r.location.map fun x => x.1.segment),
      captureWord (r.location.map fun x => x.1.line), r.locationWord, captureWord r.logical,
      captureWord (r.upstream.map fun x => x.1.toNat % 65536), captureWord (r.upstream.map fun x => x.1.toNat / 65536), 0xFFFF] := by
  rw [FaultCapture.results, h]

end

end Sys2Proof.Machine

open Sys2Proof Sys2Proof.Machine

/-- Settles O48: each command by its conditions, and each word of its results by the layout's cases. -/
theorem readingCommandsLeaveResults : Obligations.ReadingCommandsLeaveResults := by
  intro s u hs hbusy hmode taken none8 word orAbsent healthCode originCode k
  have answer : ∀ {c t code o ws}, exec c s = .next t → t = State.leaveResults ws (State.completeImmediate code o u.clearRefusal) →
      exec c s = taken code o ws := fun h ht => h.trans (congrArg Host.Outcome.next ht)
  have hhealth : ∀ x, healthCode x = x.code := fun x => by cases x <;> rfl
  have horigin : ∀ x, originCode x = x.code := fun x => by cases x <;> rfl
  have hfield : ∀ x, orAbsent x = fieldWord x := fun x => by cases x <;> rfl
  have hcapture : ∀ x, orAbsent x = captureWord x := fun x => by cases x <;> rfl
  have htranslate : exec .translate s = .next u.clearRefusal.takeTranslate := exec_taken rfl hs hmode hbusy
  have hreadRemap : exec .readRemap s = .next u.clearRefusal.takeReadRemap := exec_taken rfl hs hmode hbusy
  have hreadHealth : exec .readHealth s = .next u.clearRefusal.takeReadHealth := exec_taken rfl hs hmode hbusy
  have hreadCapture : exec .readCapture s = .next u.clearRefusal.takeReadCapture := exec_taken rfl hs hmode hbusy
  have translated : ∀ {ws}, u.mode = .online → k < u.numL → u.translateResults k = ws → exec .translate s = taken 0x31 .ok ws :=
    fun hon hk hws => answer htranslate ((State.takeTranslate_ok (s := u.clearRefusal) hon hk).trans
      (congrArg (State.leaveResults · (State.completeImmediate 0x31 .ok u.clearRefusal)) hws))
  have entryRead : ∀ {ws}, k < 32 → remapResults (u.rc.remap[k]?.getD .free) = ws → exec .readRemap s = taken 0x32 .ok ws :=
    fun hk hws => answer hreadRemap ((State.takeReadRemap_ok (s := u.clearRefusal) hk).trans
      (congrArg (State.leaveResults · (State.completeImmediate 0x32 .ok u.clearRefusal)) hws))
  refine ⟨fun hoff => ?_, fun hon hk => ?_, fun hon hk hi => ?_, fun i e hon hk hi hx => ?_, fun i e hon hk hi hx => ?_,
    fun hk => ?_, fun hk hx => ?_, fun e hk hx => ?_, fun e hk hx => ?_, fun hoff => ?_, fun hon hk => ?_, fun hon hk => ?_,
    ?_, ?_⟩
  · exact answer htranslate (State.takeTranslate_notOnline hoff)
  · exact answer htranslate (State.takeTranslate_badParameter hon hk)
  · exact translated hon hk (hhealth _ ▸ State.translateResults_unmapped hi)
  · exact translated hon hk (hhealth _ ▸ State.translateResults_copying hi hx)
  · exact translated hon hk (hhealth _ ▸ State.translateResults_active hi hx)
  · exact answer hreadRemap (State.takeReadRemap_badParameter hk)
  · refine entryRead hk ?_
    rcases hx with hx | hx <;> rw [hx] <;> rfl
  · refine entryRead hk ?_
    rw [hx, horigin]
    rfl
  · have hprev : (if e.previous = .free then 0 else 2) = e.previous.code := by cases e.previous <;> rfl
    refine entryRead hk ?_
    rw [hx, horigin, hprev]
    rfl
  · exact answer hreadHealth (State.takeReadHealth_notOnline hoff)
  · exact answer hreadHealth (State.takeReadHealth_badParameter hon hk)
  · intro h reason role kind left follows active snapshot
    have hreason : reason = h.state.reasonCode := by
      simp only [reason]
      cases h.state with
      | alarm r => cases r <;> rfl
      | _ => rfl
    have hrole : role = h.role.code := by
      simp only [role]
      cases h.role <;> rfl
    have hkind : kind = h.runKind.code := by
      simp only [kind]
      cases h.runKind <;> rfl
    have hleft : left = h.state.leftCode := by
      simp only [left]
      cases h.state <;> rfl
    have href : follows.map Prod.fst = h.role.ref? := by
      simp only [follows]
      cases h.role <;> rfl
    have hweight : follows.map Prod.snd = h.role.weight? := by
      simp only [follows]
      cases h.role <;> rfl
    have hactive : active = h.state.activation := by
      simp only [active]
      cases h.state <;> rfl
    have hsnapshot : snapshot = h.state.snapshot := by
      simp only [snapshot]
      cases h.state <;> rfl
    rw [hhealth, hreason, hrole, hkind, hleft, href, hweight, weight_isSome 4096, weight_isSome 8192, hactive, hsnapshot, hfield, hfield]
    exact answer hreadHealth (State.takeReadHealth_ok (s := u.clearRefusal) hon hk)
  · intro flags flagBits kind origin cls
    have hflags : ∀ x, flags x = x.code := fun x => x.code_eq.symm
    have hbits : flagBits = u.fcu.flagCode := by
      simp only [flagBits, hflags]
      exact u.fcu.flagCode_eq.symm
    have hkind : ∀ x, kind x = x.code := fun x => by cases x <;> rfl
    have horigin : ∀ x, origin x = x.code := fun x => by cases x <;> rfl
    have hcls : ∀ r : FaultReport, cls r.upstream = r.classCode := fun r => by
      simp only [cls, FaultReport.classCode]
      cases r.upstream with
      | none => rfl
      | some x =>
        obtain ⟨a, c⟩ := x
        cases c <;> rfl
    have hread := answer (code := 0x51) (o := .ok) (ws := u.fcu.results) hreadCapture rfl
    refine ⟨fun hr => ?_, fun rep hr => ?_⟩
    · rw [hread, FaultCapture.results_none hr, hbits]
    · rw [hread, FaultCapture.results_some hr, hbits, hkind, horigin, hcls, hcapture, hcapture, hcapture, hcapture, hcapture]
      cases hloc : rep.location with
      | none => simp only [FaultReport.locationWord, hloc]; rfl
      | some x => simp only [FaultReport.locationWord, hloc]; rfl
  · exact exec_taken (body := State.takeClearCapture) rfl hs hmode hbusy

end

-- ==== Proofs: MigrationStart ====
section
/-! SUPPORT. MIGRATION_START: the start test and the start (R150, R151). -/

namespace Sys2Proof.Machine

section
variable {s : State} {h : RetireEntry} {rest : List RetireEntry} {i n : Nat}

/-- The conditions of R150 that do not name the head. -/
theorem State.mayStart_iff : s.mayStart = true ↔ s.mode = .online ∧ s.me.state = .idle ∧ s.me.quiesced = false ∧ s.aa.holdOff = none := by
  simp [State.mayStart, and_assoc]

/-- The Retire Queue replaced by itself. -/
theorem State.setQueue_self {q : List RetireEntry} (hq : s.me.queue = q) : { s with me := { s.me with queue := q } } = s := by
  rw [← hq]

/-- A head whose segment a FILL has still to write waits. -/
theorem State.startFrom_waits (hfill : s.inRemainingFill h.logical = true) :
    State.startFrom (h :: rest) s = { s with me := { s.me with queue := h :: rest } } := by
  rw [State.startFrom, if_pos hfill]

/-- The head starts onto the lowest-numbered spare. -/
theorem State.startFrom_begins (hfill : s.inRemainingFill h.logical = false) (hn : s.lowestSpare = some n) :
    State.startFrom (h :: rest) s = State.beginMigration h rest n { s with me := { s.me with queue := h :: rest } } := by
  rw [State.startFrom, if_neg (by simp [hfill]), hn]

/-- With no spare left the head is dropped, and what follows it looked at. -/
theorem State.startFrom_drops (hfill : s.inRemainingFill h.logical = false) (hn : s.lowestSpare = none) :
    State.startFrom (h :: rest) s = State.startFrom rest (State.setCause .sparesExhausted s) := by
  rw [State.startFrom, if_neg (by simp [hfill]), hn]

/-- A cause flag set twice is set. -/
theorem State.setCause_twice (c : Cause) (s : State) : State.setCause c (State.setCause c s) = State.setCause c s := by
  have halu : (s.alu.set c).set c = s.alu.set c := by
    simp [AlertUnit.set, BitVec.or_assoc]
  exact congrArg (fun a => { s with alu := a }) halu

/-- With no spare left the whole queue is dropped. -/
theorem State.startFrom_exhausted (hfill : ∀ g, s.inRemainingFill g = false) (hn : s.lowestSpare = none) :
    State.startFrom (h :: rest) s = State.setCause .sparesExhausted { s with me := { s.me with queue := [] } } := by
  induction rest generalizing h s with
  | nil =>
    rw [State.startFrom_drops (hfill h.logical) hn]
    rfl
  | cons x rest ih =>
    rw [State.startFrom_drops (hfill h.logical) hn, ih (s := State.setCause .sparesExhausted s) hfill hn]
    exact State.setCause_twice .sparesExhausted { s with me := { s.me with queue := [] } }

/-! ## The entry set up (R22) -/

theorem State.startEntry_active {g : Nat} {o : RemapOrigin} {a : ActiveEntry} (hi : s.entryIndex g = some i)
    (hx : s.rc.remap[i]? = some (.active a)) : s.startEntry g o = some (i, ⟨g, a.current, 0, 0, o, 0, 0, .active⟩) := by
  rw [State.startEntry, hi]
  simp [State.entryAt, List.getD_eq_getElem?_getD, hx, RemapEntry.active?]

theorem State.startEntry_free {g : Nat} {o : RemapOrigin} (hi : s.entryIndex g = none)
    (hx : s.rc.remap.findIdx? (fun x => x == .free) = some i) : s.startEntry g o = some (i, ⟨g, g, 0, 0, o, 0, 0, .free⟩) := by
  rw [State.startEntry, hi]
  simp only [hx, Option.map_some]

theorem State.beginMigration_eq {e : CopyingEntry} (he : s.startEntry h.logical h.origin.remap = some (i, e)) :
    State.beginMigration h rest n s =
      State.bindTarget i e n { s with me := { s.me with queue := rest, state := .copyRead false, step := .raised } } := by
  rw [State.beginMigration, he]

end

end Sys2Proof.Machine

open Sys2Proof Sys2Proof.Machine

/-- Settles O36: the start test fails or holds, and a head that may start waits for its FILL, starts, or is dropped. -/
theorem migrationStartTakesTheHead : Obligations.MigrationStartTakesTheHead := by
  intro h rest s hq may origin
  have hmay : s.mayStart = true ↔ may := State.mayStart_iff
  have horigin : h.origin.remap = origin := by
    simp only [origin]
    cases h.origin <;> rfl
  have hstay : ¬may → exec .migrationStart s = .next s := fun hno =>
    congrArg Host.Outcome.next (if_neg fun hyes => hno (hmay.mp hyes))
  have hstart : may → exec .migrationStart s = .next (State.startFrom (h :: rest) s) := fun hyes =>
    congrArg Host.Outcome.next ((if_pos (hmay.mpr hyes)).trans (by rw [hq]))
  refine ⟨hstay, fun hfill => ?_, fun n i c hyes hfill hn hentry => ?_, fun hyes hfill hn => ?_⟩
  · by_cases hyes : may
    · rw [hstart hyes, State.startFrom_waits hfill, State.setQueue_self hq]
    · exact hstay hyes
  · rw [hstart hyes, State.startFrom_begins hfill hn, State.setQueue_self hq]
    obtain ⟨a, ⟨hi, hx, rfl⟩ | ⟨hi, hx, rfl⟩⟩ := hentry
    · rw [State.beginMigration_eq (State.startEntry_active hi hx), horigin, hi]
      rfl
    · rw [State.beginMigration_eq (State.startEntry_free hi hx), horigin, hi]
      rfl
  · rw [hstart hyes, State.startFrom_exhausted hfill hn]
    have hmask : Cause.sparesExhausted.mask = 0x004 := by decide
    rw [State.setCause, AlertUnit.set, hmask]

end

-- ==== Proofs: CancelMigration ====
section
/-! SUPPORT. CANCEL_MIGRATION: the revert, at once or at the completion that is waited for (R25, R26, R164, R165). -/

namespace Sys2Proof.Machine

section
variable {s : State} {i : Nat} {e : CopyingEntry} {op : PortOp}

/-! ## The revert (R25, R26) -/

/-- A segment back in the pool is SPARE_FREE and unfilled, and no other record changes. -/
theorem State.seg_freeTarget {t : Nat} (ht : t < s.rc.segs.length) (p : Nat) :
    (State.freeTarget t s).seg p = if p = t then ⟨.spareFree, false⟩ else s.seg p := by
  rw [State.freeTarget, State.seg_setFilled, State.seg_setRole, State.seg_setRole]
  by_cases hp : p = t
  · simp [hp, ht]
  · simp [hp]

/-- What a slot becomes when the dual write to come is dropped. -/
theorem Slot.withoutDual_eq : Slot.withoutDual = fun x => match x with
    | .executing r ph (.outstanding g _) => .executing r ph (.outstanding g none)
    | x => x := by
  funext x
  cases x with
  | executing r ph m => cases m <;> rfl
  | waiting r => rfl
  | answered x => rfl

theorem State.finishCancel_eq (hc : s.copying = some (i, e)) :
    s.finishCancel = State.completeLong .ok (State.leaveResults (cancelResults e) (State.cancelRevert i e s)) := by
  rw [State.finishCancel, hc]

/-- The revert of a CANCEL_MIGRATION leaves all but command block, COMMAND_DONE, ME, tables and Request Queue. -/
theorem State.finishCancel_rest (hc : s.copying = some (i, e)) : s.finishCancel = { s with
    mp := { s.mp with
      lastOutcome := .ok, longOutcome := .ok, busy := false
      results := BitVec.ofNat 16 e.logical :: BitVec.ofNat 16 e.cursor :: List.replicate 6 0xFFFF }
    alu := { s.alu with causes := s.alu.causes ||| 0x800 }
    me := { s.me with state := .idle, step := .none }
    rc := s.finishCancel.rc
    lli := { s.lli with queue := s.lli.queue.map Slot.withoutDual } } := by
  refine State.eq_of_fields ?_
  rw [State.finishCancel_eq hc]
  simp [State.completeLong, AlertUnit.set_commandDone, cancelResults, resultWords]

/-- The tables after the revert of a CANCEL_MIGRATION. -/
theorem State.finishCancel_tables (hc : s.copying = some (i, e)) (ht : e.target < s.rc.segs.length) :
    s.finishCancel.rc.geometry = s.rc.geometry ∧ s.finishCancel.rc.segs.length = s.rc.segs.length ∧
    s.finishCancel.rc.remap = s.rc.remap.set i (if e.previous = .free then .free
      else .active ⟨e.logical, e.current, e.origin, e.poisoned, e.restarts⟩) ∧
    s.finishCancel.seg e.target = ⟨.spareFree, false⟩ ∧ ∀ p, p ≠ e.target → s.finishCancel.seg p = s.seg p := by
  have hrc : s.finishCancel.rc = (State.freeTarget e.target (State.setEntry i e.reverted s)).rc := by
    rw [State.finishCancel_eq hc]
    simp [State.completeLong]
  have hseg : ∀ p, s.finishCancel.seg p = if p = e.target then ⟨.spareFree, false⟩ else s.seg p := fun p =>
    (State.seg_congr (congrArg RemapCtl.segs hrc) p).trans (State.seg_freeTarget (s := State.setEntry i e.reverted s) ht p)
  refine ⟨by rw [hrc]; rfl, by rw [hrc]; simp, ?_, (hseg _).trans (if_pos rfl), fun p hp => (hseg p).trans (if_neg hp)⟩
  rw [hrc, ← CopyingEntry.reverted_eq]
  rfl

/-! ## The completions in CANCELLING (R165) -/

theorem PortOp.reads_self (h : op.write = none) : op.reads op.segment = true := by
  simp [PortOp.reads, h]

theorem State.completeCopyRead_cancelling (flips : LineFlips) (hop : s.delivered .migration = some op) (hc : s.copying = some (i, e))
    (hst : s.me.state = .cancelling) (hr : op.reads e.current = true) :
    s.completeCopyRead flips = State.freePort (State.finishCancel (State.flipLine op flips s)) := by
  simp only [State.completeCopyRead, hop, hc, hst, hr, if_true]

theorem State.completeVerifyRead_cancelling (flips : LineFlips) (hop : s.delivered .migration = some op) (hc : s.copying = some (i, e))
    (hst : s.me.state = .cancelling) (hr : op.reads e.target = true) :
    s.completeVerifyRead flips = State.freePort (State.finishCancel (State.flipLine op flips s)) := by
  simp only [State.completeVerifyRead, hop, hc, hst, hr, if_true]

theorem State.completeCopyWrite_cancelling {ws : List (Option StoredWord)} (hop : s.delivered .migration = some op)
    (hst : s.me.state = .cancelling) (hw : op.write = some ws) :
    s.completeCopyWrite = State.freePort (State.finishCancel { s with array := Memory.storeLine s.array op.segment op.line ws }) := by
  simp only [State.completeCopyWrite, hop, hst, hw, Option.isSome_some, if_true, State.storeLine_eq hw]

/-! ## CANCEL_MIGRATION as taken (R164) -/

theorem State.copying_none (h : ∀ x ∈ s.rc.remap, x.copying? = none) : s.copying = none := by
  have hindex : s.copyingIndex = none := List.findIdx?_eq_none_iff.mpr fun x hx => by rw [h x hx]; rfl
  rw [State.copying, hindex]

theorem State.takeCancel_notOnline (h : s.mode ≠ .online) :
    s.takeCancel = State.leaveResults noResults (State.answerLong 0x21 .notOnline s) := by
  simp [State.takeCancel, h]

theorem State.takeCancel_notFound (h : s.mode = .online) (hc : s.copying = none) :
    s.takeCancel = State.leaveResults noResults (State.answerLong 0x21 .notFound s) := by
  simp [State.takeCancel, h, hc]

theorem State.takeCancel_waits (h : s.mode = .online) (hc : s.copying = some (i, e)) (hst : s.me.step = .outstanding) :
    s.takeCancel = State.setMe .cancelling .outstanding (State.startLong 0x21 s) := by
  simp [State.takeCancel, h, hc, hst]

theorem State.takeCancel_reverts (h : s.mode = .online) (hc : s.copying = some (i, e)) (hst : s.me.step ≠ .outstanding) :
    s.takeCancel = State.finishCancel (State.setMe .cancelling .none (State.startLong 0x21 s)) := by
  simp [State.takeCancel, h, hc, hst]

end

end Sys2Proof.Machine

open Sys2Proof Sys2Proof.Machine

/-- Settles O45: the four answers, and the three completions that a cancel can wait for, all with the one revert. -/
theorem cancelRevertsTheMigration : Obligations.CancelRevertsTheMigration := by
  constructor
  · intro s u hs hbusy hmode done alu
    have htaken : exec .cancelMigration s = .next u.clearRefusal.takeCancel := exec_taken rfl hs hmode hbusy
    have halu : u.alu.set .commandDone = alu := AlertUnit.set_commandDone u.alu
    have hport : u.mp = { u.mp with busy := false } := by rw [← hbusy]
    have hdone : ∀ o res, done o res = { u.mp with
        lastCommand := 0x21, lastOutcome := o, longCommand := 0x21, longOutcome := o, busy := false, refusedBusy := false
        refusedCommand := 0, results := res } := fun o res => congrArg (fun m : MgmtPort => { m with
      lastCommand := 0x21, lastOutcome := o, longCommand := 0x21, longOutcome := o, refusedBusy := false
      refusedCommand := 0, results := res }) hport
    have hanswer : ∀ o, State.leaveResults noResults (State.answerLong 0x21 o u.clearRefusal) =
        { u with mp := done o (List.replicate 8 0xFFFF), alu := alu } := by
      intro o
      rw [hdone, ← halu]
      rfl
    refine ⟨fun hoff => ?_, fun hon hnone => ?_, fun i e hon hc hst ht => ?_, fun i e hon hc hst => ?_⟩
    · rw [htaken, State.takeCancel_notOnline (s := u.clearRefusal) hoff, hanswer]
    · rw [htaken, State.takeCancel_notFound (s := u.clearRefusal) hon (State.copying_none (s := u.clearRefusal) hnone), hanswer]
    · set v := State.setMe .cancelling .none (State.startLong 0x21 u.clearRefusal)
      have hcv : v.copying = some (i, e) := hc
      have hrest := State.finishCancel_rest hcv
      have hmp : v.finishCancel.mp = done .ok (BitVec.ofNat 16 e.logical :: BitVec.ofNat 16 e.cursor :: List.replicate 6 0xFFFF) :=
        (congrArg State.mp hrest).trans (hdone _ _).symm
      have hme : v.finishCancel.me = { u.me with state := .idle, step := .none } := congrArg State.me hrest
      have hqueue : v.finishCancel.lli.queue = u.lli.queue.map Slot.withoutDual := congrArg (fun t => t.lli.queue) hrest
      obtain ⟨hgeo, hlen, hremap, htarget, hother⟩ := State.finishCancel_tables hcv ht
      refine ⟨v.finishCancel, ?_, ?_, hmp, hme, hgeo, hlen, hremap, htarget, hother, Slot.withoutDual_eq ▸ hqueue⟩
      · rw [htaken, State.takeCancel_reverts (s := u.clearRefusal) hon hc hst]
      · rw [hmp, hme, hqueue, hdone]
        exact hrest
    · rw [htaken, State.takeCancel_waits (s := u.clearRefusal) hon hc hst, ← hst]
      rfl
  · intro op i e s u hs hg hreq hdel hc hst ht reverted
    have hop := State.delivered_of hg hreq hdel
    have hrevert : ∀ array, reverted array (.next (State.freePort (State.finishCancel { u with array := array }))) := by
      intro array
      have hcv : State.copying { u with array := array } = some (i, e) := hc
      obtain ⟨hgeo, hlen, hremap, htarget, hother⟩ := State.finishCancel_tables hcv ht
      refine ⟨_, rfl, ?_, hgeo, hlen, hremap, htarget, hother⟩
      refine (congrArg State.freePort (State.finishCancel_rest hcv)).trans ?_
      rw [Slot.withoutDual_eq]
      rfl
    refine ⟨fun flips hw hseg => ?_, fun ws hw => ?_, fun flips hw hseg => ?_⟩
    · have hexec : exec (.copyReadComplete flips) s = .next (u.completeCopyRead flips) := by rw [← hs]; rfl
      rw [hexec, State.completeCopyRead_cancelling flips hop hc hst (hseg ▸ PortOp.reads_self hw)]
      exact hrevert _
    · have hexec : exec .copyWriteComplete s = .next u.completeCopyWrite := by rw [← hs]; rfl
      rw [hexec, State.completeCopyWrite_cancelling hop hst hw]
      exact hrevert _
    · have hexec : exec (.verifyReadComplete flips) s = .next (u.completeVerifyRead flips) := by rw [← hs]; rfl
      rw [hexec, State.completeVerifyRead_cancelling flips hop hc hst (hseg ▸ PortOp.reads_self hw)]
      exact hrevert _

end

-- ==== Proofs: Translation ====
section
/-! SUPPORT. The translation of a request (R35). -/

namespace Sys2Proof.Machine

/-- Step 4 of R35 yields the logical segment it is given, and only below L. -/
theorem State.boundLogical_eq_some {s : State} {g k : Nat} : s.boundLogical k = some g ↔ g < s.numL ∧ g = k := by
  unfold State.boundLogical
  split_ifs with h
  · rw [Option.some_inj]
    exact ⟨fun hk => hk ▸ ⟨h, rfl⟩, fun hg => hg.2.symm⟩
  · exact ⟨nofun, fun hg => absurd (hg.2 ▸ hg.1) h⟩

end Sys2Proof.Machine

open Sys2Proof Sys2Proof.Machine

/-- Settles O15: the segment lies in the shared window, in the partition, or in neither, and step 4 bounds what the first two yield. -/
theorem translationFollowsThePartitions : Obligations.TranslationFollowsThePartitions := by
  intro s c a g u base len
  have hsteps : s.translate c a = if u < s.settings.window then s.boundLogical u
      else if u - s.settings.window < len then s.boundLogical (base + (u - s.settings.window)) else none := by
    simp [State.translate, base, len, u]
  rw [hsteps]
  by_cases hshared : u < s.settings.window
  · rw [if_pos hshared, State.boundLogical_eq_some]
    simp [hshared, Nat.not_le_of_lt hshared]
  · rw [if_neg hshared]
    by_cases hpart : u - s.settings.window < len
    · rw [if_pos hpart, State.boundLogical_eq_some]
      simp [hshared, Nat.le_of_not_lt hshared, hpart]
    · rw [if_neg hpart]
      simp [hshared, hpart]

end

-- ==== Proofs: DemandRead ====
section
/-! SUPPORT. A grant to a demand LINE_READ. -/

namespace Sys2Proof.Machine

/-- The LINE_READ of a READ and that of a merge are issued alike: the slot outstanding, the line of the lookup on the port (R51, R56, R67, R71). -/
theorem State.issueDemand_lineRead {ph : DemandPhase} (hph : ph = .read ∨ ph = .mergeRead) (r : Request) (g : Nat) (s : State) :
    State.issueDemand r ph g s = State.issue .demand (s.physOf g) (requestLine r.address) none
      (State.putExec (.executing r ph (.outstanding g none)) s) := by
  rcases hph with rfl | rfl <;> rfl

/-- A chosen DEMAND request that translates is issued (R37, R38). -/
theorem State.grantDemand_translated {s : State} {r : Request} {ph : DemandPhase} {g : Nat}
    (hx : s.executing = some (r, ph, .raised)) (ht : s.translate r.cls r.address = some g) :
    s.grantDemand = State.issueDemand r ph g s := by
  simp [State.grantDemand, hx, ht]

/-- A request at its raised step raises DEMAND (R69). -/
theorem State.demandRaised_of_executing {s : State} {r : Request} {ph : DemandPhase}
    (hx : s.executing = some (r, ph, .raised)) : s.demandRaised = true := by
  simp [State.demandRaised, hx]

end Sys2Proof.Machine

open Sys2Proof Sys2Proof.Machine

/-- Settles O16: the arbiter chooses DEMAND, whose translated request is issued as a LINE_READ. -/
theorem demandReadIsGranted : Obligations.DemandReadIsGranted := by
  intro r ph g s u hs hfree hx hph ht hf
  have hgrant : u.grantDemand = State.issue .demand (u.physOf g) (requestLine r.address) none
      (State.putExec (.executing r ph (.outstanding g none)) u) := by
    rw [State.grantDemand_translated hx ht, State.issueDemand_lineRead hph]
  have hchosen : u.arrayGrant = u.grantDemand :=
    u.arrayGrant_demand hfree (u.choice_demand (State.demandRaised_of_executing hx) hf) (by rw [hgrant]; rfl)
  rw [exec_eq, effect, found, hs, hchosen, hgrant]
  rfl

end

-- ==== Proofs: NoaddrAnswer ====
section
/-! SUPPORT. A DEMAND request that ends NOADDR at its grant: its answer, the requests that begin after it, and the arbiter's next choice (R38, R40, R70). -/

namespace Sys2Proof.Machine

/-! ## No migration start is due (R150, R151) -/

/-- The start test has nothing to do: a start may not be made, or the queue is empty, or its head waits for a FILL or has no entry to record its move. -/
def State.NoStartDue (s : State) : Prop :=
  s.mayStart = true → ∀ h rest, s.me.queue = h :: rest →
    s.inRemainingFill h.logical = true ∨ ∃ n, s.lowestSpare = some n ∧ s.startEntry h.logical h.origin.remap = none

/-- A head whose move no entry can record does not start. -/
theorem State.beginMigration_noEntry {s : State} {h : RetireEntry} (rest : List RetireEntry) (n : Nat)
    (he : s.startEntry h.logical h.origin.remap = none) : State.beginMigration h rest n s = s := by
  rw [State.beginMigration, he]

/-- With no start due, the start test changes nothing. -/
theorem State.migrationStart_of_noStartDue {s : State} (hnone : s.NoStartDue) : s.migrationStart = s := by
  unfold State.migrationStart
  split_ifs with hmay
  · cases hq : s.me.queue with
    | nil => rw [State.startFrom, State.setQueue_self hq]
    | cons h rest =>
      cases hfill : s.inRemainingFill h.logical with
      | true => rw [State.startFrom_waits hfill, State.setQueue_self hq]
      | false =>
        obtain hwaits | ⟨n, hn, he⟩ := hnone hmay h rest hq
        · simp [hfill] at hwaits
        · rw [State.startFrom_begins hfill hn, State.setQueue_self hq, State.beginMigration_noEntry rest n he]
  · rfl

/-- A head that starts takes the ME out of IDLE, and one that has no entry stays at the head. -/
theorem State.beginMigration_noStartDue {s : State} {h : RetireEntry} {rest : List RetireEntry} {n : Nat}
    (hq : s.me.queue = h :: rest) (hn : s.lowestSpare = some n) : (State.beginMigration h rest n s).NoStartDue := by
  cases he : s.startEntry h.logical h.origin.remap with
  | some ie =>
    rw [State.beginMigration_eq (i := ie.1) (e := ie.2) he]
    intro hmay
    obtain ⟨-, hidle, -, -⟩ := State.mayStart_iff.mp hmay
    cases hidle
  | none =>
    rw [State.beginMigration_noEntry rest n he]
    intro _ h' rest' hq'
    cases hq.symm.trans hq'
    exact .inr ⟨n, hn, he⟩

/-- A look at the Retire Queue leaves no start due. -/
theorem State.startFrom_noStartDue (q : List RetireEntry) (s : State) : (State.startFrom q s).NoStartDue := by
  induction q generalizing s with
  | nil => exact fun _ h rest hq => nomatch hq
  | cons x rest ih =>
    cases hfill : s.inRemainingFill x.logical with
    | true =>
      rw [State.startFrom_waits hfill]
      rintro - h rest' hq
      cases hq
      exact .inl hfill
    | false =>
      cases hn : s.lowestSpare with
      | none =>
        rw [State.startFrom_drops hfill hn]
        exact ih _
      | some n =>
        rw [State.startFrom_begins hfill hn]
        exact State.beginMigration_noStartDue rfl hn

/-- After a start test no start is due. -/
theorem State.migrationStart_noStartDue (s : State) : s.migrationStart.NoStartDue := by
  unfold State.migrationStart
  split_ifs with hmay
  · exact State.startFrom_noStartDue _ s
  · exact fun h => absurd h hmay

/-- Requests that begin make no start due (R150). -/
theorem State.beginRequests_noStartDue {s : State} (hnone : s.NoStartDue) : s.beginRequests.NoStartDue := by
  rw [s.beginRequests_eq.1]
  exact hnone

/-! ## The slots once the executing request is answered (R48) -/

/-- An ANSWERED slot in the executing request's place leaves no request executing. -/
theorem State.answer_executing (r : Request) (b : RespBody) (s : State) : (State.answer r b s).executing = none := by
  refine List.findSome?_eq_none_iff.mpr fun x hx => ?_
  obtain ⟨y, -, rfl⟩ := List.mem_map.mp hx
  cases y <;> rfl

/-- In a queue of ANSWERED slots no request begins. -/
theorem beginDue_answered (f : Request → Slot) (q : List Slot) (h : ∀ x ∈ q, ∃ resp, x = .answered resp) : beginDue f q = q := by
  induction q with
  | nil => rfl
  | cons x rest ih =>
    obtain ⟨resp, rfl⟩ := h x List.mem_cons_self
    rw [beginDue, ih fun y hy => h y (List.mem_cons_of_mem _ hy)]

/-- With no request WAITING, none begins once the executing one is answered. -/
theorem State.beginRequests_answer {s : State} (r : Request) (b : RespBody) (h : ∀ x ∈ s.lli.queue, ∀ r', x ≠ .waiting r') :
    (State.answer r b s).beginRequests = State.answer r b s := by
  have hanswered : ∀ x ∈ (State.answer r b s).lli.queue, ∃ resp, x = .answered resp := by
    intro x hx
    obtain ⟨y, hy, rfl⟩ := List.mem_map.mp hx
    cases y with
    | waiting r' => exact absurd rfl (h _ hy r')
    | executing r' ph step => exact ⟨_, rfl⟩
    | answered resp => exact ⟨_, rfl⟩
  unfold State.beginRequests
  split_ifs
  · rw [beginDue_answered _ _ hanswered]
  · rfl

/-! ## A NOADDR answer and the choice after it (R38, R40, R70) -/

/-- The executing request answered NOADDR, with its report. -/
def State.answerNoaddr (r : Request) (s : State) : State := State.answer r .noaddr (State.report (noaddrReport r) s)

/-- What the answer and its report write: the slot, the Fault Capture Unit, the cause NOADDR_SEEN (R40, R173, R175). -/
theorem State.answerNoaddr_eq (r : Request) (s : State) : s.answerNoaddr r = { s with
    lli := { s.lli with queue := s.lli.queue.map (Slot.answered ⟨r.tag, .noaddr⟩).replaceExec }
    fcu := s.fcu.report (noaddrReport r)
    alu := { s.alu with causes := s.alu.causes ||| 0x040 } } := rfl

section
variable {s : State} {r : Request} {ph : DemandPhase}

/-- A chosen DEMAND request whose translation ends NOADDR is answered (R38). -/
theorem State.grantDemand_noaddr (hx : s.executing = some (r, ph, .raised)) (ht : s.translate r.cls r.address = none) :
    s.grantDemand = s.answerNoaddr r := by
  simp [State.grantDemand, hx, ht, State.answerNoaddr]

/-- The answer leaves fewer slots to answer than the queue has. -/
theorem State.answerNoaddr_unanswered (hx : s.executing = some (r, ph, .raised)) :
    unanswered (s.answerNoaddr r).lli.queue < s.lli.queue.length := by
  have hcount := replaceExec_unanswered ⟨r.tag, .noaddr⟩ s.lli.queue
  have hexec : (s.lli.queue.findSome? Slot.exec?).isSome = true := Option.isSome_of_eq_some hx
  rw [if_pos hexec] at hcount
  have hle := unanswered_le s.lli.queue
  rw [State.answerNoaddr_eq]
  dsimp only
  omega

/-- At a FREE port, a chosen DEMAND request that ends NOADDR leaves the port to the choice after the next request has begun (R48, R70). -/
theorem State.arrayGrant_noaddr (hfree : s.aa.grant = none) (hc : s.choice = some .demand)
    (hx : s.executing = some (r, ph, .raised)) (ht : s.translate r.cls r.address = none) :
    s.arrayGrant = State.arrayGrant (s.answerNoaddr r).beginRequests := by
  have hfree' : (s.answerNoaddr r).aa.grant = none := hfree
  have hfree'' : (s.answerNoaddr r).beginRequests.aa.grant = none := by simpa using hfree'
  obtain ⟨-, hlength, hleft⟩ := (s.answerNoaddr r).beginRequests_eq
  have hlength' : (s.answerNoaddr r).lli.queue.length = s.lli.queue.length := by simp [State.answerNoaddr_eq]
  calc s.arrayGrant
      = State.chooseFrom (s.lli.queue.length + 1) s := by simp only [State.arrayGrant, hfree]
    _ = State.chooseFrom s.lli.queue.length (s.answerNoaddr r).beginRequests := by
        simp only [State.chooseFrom_turn, hc, State.grantDemand_noaddr hx ht, hfree']
    _ = State.chooseFrom (s.lli.queue.length + 1) (s.answerNoaddr r).beginRequests :=
        (State.chooseFrom_succ _ _ (Nat.lt_of_le_of_lt hleft (State.answerNoaddr_unanswered hx))).symm
    _ = State.arrayGrant (s.answerNoaddr r).beginRequests := by
        simp only [State.arrayGrant, hfree'', hlength, hlength']

/-- With no request raised the arbiter grants nothing (R70). -/
theorem State.arrayGrant_idle (hd : s.demandRaised = false) (hb : s.backgroundChoice = none) : s.arrayGrant = s := by
  have hc : s.choice = none := by simp [State.choice, hd, hb]
  unfold State.arrayGrant
  split
  · rfl
  · rw [State.chooseFrom_turn, hc]

end

end Sys2Proof.Machine

open Sys2Proof Sys2Proof.Machine

/-- Settles O18: the answered request leaves the choice to what is raised next, and since no migration start is due at the grant, none is due after it. -/
theorem noaddrIsAnsweredWithoutAGrant : Obligations.NoaddrIsAnsweredWithoutAGrant := by
  intro r ph s u hs hfree hx ht rep answered
  have hrep : noaddrReport r = rep := by
    cases hkind : r.kind <;> simp [rep, noaddrReport, Request.isWrite, hkind]
  have hanswered : u.answerNoaddr r = answered := by rw [State.answerNoaddr_eq, hrep]
  have hagain : u.aa.fairness < 8 ∨ u.backgroundChoice = none →
      exec .arrayGrant s = .next (State.arrayGrant (u.answerNoaddr r).beginRequests) := fun hf => by
    have hchosen := u.choice_demand (State.demandRaised_of_executing hx) hf
    rw [exec_eq, effect, found, hs, State.arrayGrant_noaddr hfree hchosen hx ht]
  refine ⟨fun hb hwait => ?_, fun hf => ?_⟩
  · have hbegun : (u.answerNoaddr r).beginRequests = u.answerNoaddr r :=
      State.beginRequests_answer r .noaddr (s := State.report (noaddrReport r) u) (by simpa using hwait)
    have hraised : (u.answerNoaddr r).demandRaised = false := by
      simp [State.demandRaised, State.answerNoaddr, State.answer_executing]
    rw [hagain (.inr hb), hbegun, State.arrayGrant_idle hraised hb, hanswered]
  · have hnone : (u.answerNoaddr r).NoStartDue := by
      have hstart : u.NoStartDue := hs ▸ State.migrationStart_noStartDue _
      exact hstart
    rw [hagain hf, ← hanswered, exec_eq, effect, found,
      State.migrationStart_of_noStartDue (State.beginRequests_noStartDue hnone)]

end

-- ==== Proofs: QueueOrder ====
section
/-! SUPPORT. What the order and the capacity of the three queues, the fairness count, the result words and the command status go through (R47, R71, R79, R146, R191, R193):
each operation that touches one of them, once. -/

namespace Sys2Proof.Machine

/-! ## The Request Queue (R47) -/

theorem Slot.rank_le (x : Slot) : x.rank ≤ 2 := by
  cases x <;> simp [Slot.rank]

theorem Slot.rank_replaceExec (x y : Slot) : (x.replaceExec y).rank = if y.rank = 1 then x.rank else y.rank := by
  cases y <;> simp [Slot.replaceExec, Slot.rank]

/-- The EXECUTING slot replaced by one EXECUTING or ANSWERED stands where it stood (R48). -/
theorem Slot.before.replaceExec {x y z : Slot} (h : x.before y) (hz : z.rank ≤ 1) : (z.replaceExec x).before (z.replaceExec y) := by
  obtain ⟨hle, hone⟩ := h
  simp only [Slot.before, Slot.rank_replaceExec]
  split_ifs <;> omega

theorem Slot.rank_withoutDual (x : Slot) : x.withoutDual.rank = x.rank := by
  cases x with
  | executing r ph step => cases step <;> rfl
  | waiting r => rfl
  | answered resp => rfl

theorem Slot.before.withoutDual {x y : Slot} (h : x.before y) : x.withoutDual.before y.withoutDual := by
  simpa only [Slot.before, Slot.rank_withoutDual] using h

/-- Slots changed one by one, each two of them still in order. -/
theorem LineLink.Ok.map {x y : LineLink} (h : x.Ok) {f : Slot → Slot} (hf : ∀ {a b : Slot}, a.before b → (f a).before (f b))
    (hq : y.queue = x.queue.map f) : y.Ok := by
  obtain ⟨hlen, hord⟩ := h
  rw [LineLink.Ok, hq, List.length_map, List.pairwise_map]
  exact ⟨hlen, hord.imp hf⟩

/-- Requests taken stand behind all others, and fill no more than the free slots (R47). -/
theorem LineLink.Ok.takeIn {x : LineLink} (h : x.Ok) : x.takeIn.Ok := by
  obtain ⟨hlen, hord⟩ := h
  refine ⟨?_, List.pairwise_append.mpr ⟨hord, ?_, fun a _ b hb => ?_⟩⟩
  · simp only [LineLink.takeIn, List.length_append, List.length_map, List.length_take]
    omega
  · exact List.pairwise_map.mpr (List.pairwise_of_forall fun _ _ => by simp [Slot.before, Slot.rank])
  · obtain ⟨r, -, rfl⟩ := List.mem_map.mp hb
    exact ⟨a.rank_le, fun _ => by simp [Slot.rank]⟩

/-- Behind a WAITING slot all slots wait, and a slot that takes its place, whatever its state, stands before them. -/
theorem Slot.before_of_waiting {r : Request} {y : Slot} (h : (Slot.waiting r).before y) (x : Slot) : x.before y := by
  have hx := x.rank_le
  have hy : 2 ≤ y.rank := h.1
  exact ⟨by omega, fun _ => by omega⟩

theorem Slot.answered_before (resp : Response) (y : Slot) : (Slot.answered resp).before y :=
  ⟨Nat.zero_le _, fun h => by cases h⟩

/-- Requests that begin in order leave ANSWERED slots, then at most one EXECUTING (R48). -/
theorem beginDue_ordered (f : Request → Slot) {q : List Slot} (h : q.Pairwise Slot.before) : (beginDue f q).Pairwise Slot.before := by
  induction q with
  | nil => exact .nil
  | cons x rest ih =>
    obtain ⟨hx, hrest⟩ := List.pairwise_cons.mp h
    cases x with
    | waiting r =>
      unfold beginDue
      split
      · exact .cons (fun y _ => Slot.answered_before _ y) (ih hrest)
      · exact .cons (fun y hy => Slot.before_of_waiting (hx y hy) _) hrest
      · exact .cons (fun y hy => Slot.before_of_waiting (hx y hy) _) hrest
    | executing r ph step => exact h
    | answered resp => exact .cons (fun y _ => Slot.answered_before _ y) (ih hrest)

/-- With none executing the oldest WAITING request begins between the ANSWERED slots and the other WAITING ones (R48). -/
theorem beginOldest_ordered (f : Request → Slot) {q : List Slot} (h : q.Pairwise Slot.before) (hnone : ∀ x ∈ q, x.exec? = none) :
    (beginOldest f q).Pairwise Slot.before := by
  induction q with
  | nil => exact .nil
  | cons x rest ih =>
    obtain ⟨hx, hrest⟩ := List.pairwise_cons.mp h
    cases x with
    | waiting r => exact .cons (fun y hy => Slot.before_of_waiting (hx y hy) _) hrest
    | executing r ph step => exact absurd (hnone _ List.mem_cons_self) (by simp [Slot.exec?])
    | answered resp =>
      exact .cons (fun y _ => Slot.answered_before _ y) (ih hrest fun y hy => hnone y (List.mem_cons_of_mem _ hy))

theorem beginOldest_length (f : Request → Slot) (q : List Slot) : (beginOldest f q).length = q.length := by
  induction q with
  | nil => rfl
  | cons x rest ih => cases x <;> simp [beginOldest, ih]

/-! ## The Repair Queue and the Retire Queue (R79, R146) -/

theorem RepairUnit.Ok.sublist {x y : RepairUnit} (h : x.Ok) (hq : y.queue.Sublist x.queue) : y.Ok := by
  obtain ⟨hlen, hdup⟩ := h
  exact ⟨hq.length_le.trans hlen, hdup.sublist (hq.map _)⟩

theorem MigEngine.QueueOk.sublist {x y : MigEngine} (h : x.QueueOk) (hq : y.queue.Sublist x.queue) : y.QueueOk := by
  obtain ⟨hlen, hdup⟩ := h
  exact ⟨hq.length_le.trans hlen, hdup.sublist (hq.map _)⟩

theorem replaceRepair_addr (a : WordAddr) (d : Word) (q : List RepairEntry) :
    (replaceRepair a d q).map RepairEntry.addr = q.map RepairEntry.addr := by
  rw [replaceRepair, List.map_map]
  refine List.map_congr_left fun e _ => ?_
  simp only [Function.comp]
  split_ifs with h
  · exact h.symm
  · rfl

/-- An offer replaces the data of the entry of its word, or appends one where there is none and room is left (R80). -/
theorem State.offerRepair_ok (a : WordAddr) (d : Word) {s : State} (h : s.ru.Ok) : (State.offerRepair a d s).ru.Ok := by
  obtain ⟨hlen, hdup⟩ := h
  unfold State.offerRepair
  split_ifs with hrole hqueued hfull
  · exact ⟨hlen, hdup⟩
  · refine ⟨?_, ?_⟩
    · simpa [replaceRepair] using hlen
    · simpa [replaceRepair_addr] using hdup
  · exact ⟨hlen, hdup⟩
  · refine ⟨?_, ?_⟩
    · simp only [List.length_append, List.length_singleton]
      omega
    · rw [List.map_append, List.map_singleton, ← List.concat_eq_append]
      refine hdup.concat fun hmem => hqueued ?_
      obtain ⟨e, he, rfl⟩ := List.mem_map.mp hmem
      exact List.any_eq_true.mpr ⟨e, he, beq_self_eq_true _⟩

/-- A segment not yet queued is appended where room is left (R125, R148). -/
theorem State.appendRetire_ok {g : Nat} (o : RetireOrigin) {s : State} (hg : s.queuedForRetire g = false)
    (hroom : s.me.queue.length < Config.retireQueueEntries) (h : s.me.QueueOk) : (State.appendRetire g o s).me.QueueOk := by
  obtain ⟨hlen, hdup⟩ := h
  refine ⟨?_, ?_⟩
  · simp only [State.appendRetire_fields, List.length_append, List.length_singleton]
    omega
  · simp only [State.appendRetire_fields, List.map_append, List.map_singleton]
    rw [← List.concat_eq_append]
    refine hdup.concat fun hmem => ?_
    obtain ⟨e, he, rfl⟩ := List.mem_map.mp hmem
    exact absurd ((s.queuedForRetire_iff _).mpr ⟨e, he, rfl⟩) (by simp [hg])

/-- A start takes heads off the queue it is given and adds nothing (R151). -/
theorem State.startFrom_queue (q : List RetireEntry) (s : State) : (State.startFrom q s).me.queue.Sublist q := by
  induction q generalizing s with
  | nil => exact .refl _
  | cons h rest ih =>
    unfold State.startFrom
    split_ifs
    · exact .refl _
    · split
      · unfold State.beginMigration
        split
        · simp
        · exact .refl _
      · exact (ih _).trans (List.sublist_cons_self h rest)

theorem State.migrationStart_queue (s : State) : s.migrationStart.me.queue.Sublist s.me.queue := by
  unfold State.migrationStart
  split_ifs
  · exact State.startFrom_queue _ s
  · exact .refl _

theorem State.retireOffer_ok (p : Nat) {s : State} (h : s.me.QueueOk) : (State.retireOffer p s).me.QueueOk := by
  unfold State.retireOffer
  split
  next => exact h
  next g _ =>
    split_ifs with hauto hclaim hspare hfull
    · exact h
    · exact h
    · exact h
    · exact h
    · simp only [Bool.or_eq_true, not_or, Bool.not_eq_true] at hclaim
      exact (State.appendRetire_ok .auto hclaim.1 (by omega) h).sublist (State.migrationStart_queue _)

/-! ## Result words (R193) -/

theorem resultWords_length {ws : List (BitVec 16)} (h : ws.length ≤ 8) : (resultWords ws).length = 8 := by
  simp only [resultWords, List.length_append, List.length_replicate]
  omega

end Sys2Proof.Machine

end

-- ==== Proofs: QueuesKept ====
section
/-! SUPPORT. Every effect keeps the order of the queues and the command status: one relation between states, kept by every operation. -/

namespace Sys2Proof.Machine

/-! ## What `s` has in order `t` has in order -/

/-- What `s` has in order of its queues, its counts and its command status `t` has in order too. -/
structure State.KeepsOrder (s t : State) : Prop where
  link : s.lli.Ok → t.lli.Ok
  repair : s.ru.Ok → t.ru.Ok
  retire : s.me.QueueOk → t.me.QueueOk
  fairness : s.aa.fairness ≤ Config.fairnessLimit → t.aa.fairness ≤ Config.fairnessLimit
  results : s.mp.results.length = 8 → t.mp.results.length = 8
  status : s.StatusOk → t.StatusOk

namespace State.KeepsOrder

variable {s t u : State}

theorem queuesOk (h : s.KeepsOrder t) : s.QueuesOk → t.QueuesOk
  | ⟨hlink, hrepair, hretire, hfair, hresults⟩ =>
    ⟨h.link hlink, h.repair hrepair, h.retire hretire, h.fairness hfair, h.results hresults⟩

theorem trans (h : s.KeepsOrder t) (h' : t.KeepsOrder u) : s.KeepsOrder u where
  link := h'.link ∘ h.link
  repair := h'.repair ∘ h.repair
  retire := h'.retire ∘ h.retire
  fairness := h'.fairness ∘ h.fairness
  results := h'.results ∘ h.results
  status := h'.status ∘ h.status

/-- Queues, count and command block as they were. -/
theorem of_eq (h : t.lli.queue = s.lli.queue ∧ t.ru.queue = s.ru.queue ∧ t.me.queue = s.me.queue ∧
    t.aa.fairness = s.aa.fairness ∧ t.mp = s.mp) : s.KeepsOrder t := by
  obtain ⟨hlink, hrepair, hretire, hfair, hport⟩ := h
  constructor
  · simp only [LineLink.Ok, hlink, imp_self]
  · simp only [RepairUnit.Ok, hrepair, imp_self]
  · simp only [MigEngine.QueueOk, hretire, imp_self]
  · simp only [hfair, imp_self]
  · simp only [hport, imp_self]
  · simp only [State.StatusOk, hport, imp_self]

theorem refl (s : State) : s.KeepsOrder s := of_eq ⟨rfl, rfl, rfl, rfl, rfl⟩

/-- Kept from a state whose queues, count and command block are those of `s`. -/
theorem after (h : u.KeepsOrder t) (heq : u.lli.queue = s.lli.queue ∧ u.ru.queue = s.ru.queue ∧ u.me.queue = s.me.queue ∧
    u.aa.fairness = s.aa.fairness ∧ u.mp = s.mp) : s.KeepsOrder t := (of_eq heq).trans h

/-- Only the Request Queue changes. -/
theorem of_link (heq : t.ru.queue = s.ru.queue ∧ t.me.queue = s.me.queue ∧
    t.aa.fairness = s.aa.fairness ∧ t.mp = s.mp)
    (hlink : s.lli.Ok → t.lli.Ok) : s.KeepsOrder t :=
  { of_eq (s := s) (t := { t with lli := s.lli }) ⟨rfl, heq⟩ with link := hlink }

/-- Only the Repair Queue changes, and loses entries. -/
theorem of_repair (heq : t.lli.queue = s.lli.queue ∧ t.me.queue = s.me.queue ∧
    t.aa.fairness = s.aa.fairness ∧ t.mp = s.mp)
    (hrepair : t.ru.queue.Sublist s.ru.queue) : s.KeepsOrder t :=
  { of_eq (s := s) (t := { t with ru := s.ru }) ⟨heq.1, rfl, heq.2⟩ with repair := fun h => h.sublist hrepair }

/-- Only the Retire Queue changes. -/
theorem of_retire (heq : t.lli.queue = s.lli.queue ∧ t.ru.queue = s.ru.queue ∧
    t.aa.fairness = s.aa.fairness ∧ t.mp = s.mp)
    (hretire : s.me.QueueOk → t.me.QueueOk) : s.KeepsOrder t :=
  have ⟨hlink, hrepair, hrest⟩ := heq
  { of_eq (s := s) (t := { t with me := s.me }) ⟨hlink, hrepair, rfl, hrest⟩ with retire := hretire }

/-- Only the fairness count changes. -/
theorem of_fairness (heq : t.lli.queue = s.lli.queue ∧
    t.ru.queue = s.ru.queue ∧ t.me.queue = s.me.queue ∧ t.mp = s.mp)
    (hfair : t.aa.fairness ≤ Config.fairnessLimit) : s.KeepsOrder t :=
  have ⟨hlink, hrepair, hretire, hport⟩ := heq
  { of_eq (s := s) (t := { t with aa := s.aa }) ⟨hlink, hrepair, hretire, rfl, hport⟩ with fairness := fun _ => hfair }

/-- Only the command block changes. -/
theorem of_port (heq : t.lli.queue = s.lli.queue ∧ t.ru.queue = s.ru.queue ∧ t.me.queue = s.me.queue ∧ t.aa.fairness = s.aa.fairness)
    (hresults : s.mp.results.length = 8 → t.mp.results.length = 8) (hstatus : s.StatusOk → t.StatusOk) : s.KeepsOrder t :=
  have ⟨hlink, hrepair, hretire, hfair⟩ := heq
  { of_eq (s := s) (t := { t with mp := s.mp }) ⟨hlink, hrepair, hretire, hfair, rfl⟩ with results := hresults, status := hstatus }

/-! ## The slots (R47, R48) -/

theorem putExec (x : Slot) (hx : x.rank ≤ 1) (s : State) : s.KeepsOrder (State.putExec x s) :=
  of_link (by simp) fun h => h.map (fun hab => hab.replaceExec hx) rfl

theorem answer (r : Request) (b : RespBody) (s : State) : s.KeepsOrder (State.answer r b s) := putExec (.answered ⟨r.tag, b⟩) (Nat.zero_le 1) s

theorem execute (r : Request) (ph : DemandPhase) (step : DemandStep) (s : State) :
    s.KeepsOrder (State.putExec (.executing r ph step) s) := putExec (.executing r ph step) (Nat.le_refl 1) s

theorem retestHold (s : State) : s.KeepsOrder s.retestHold := by
  unfold State.retestHold
  split
  · exact execute _ _ _ s
  · exact execute _ _ _ s
  · exact refl s
  · exact refl s

theorem dropDual (s : State) : s.KeepsOrder s.dropDual := of_link (by simp) fun h => h.map Slot.before.withoutDual rfl

theorem beginRequests (s : State) : s.KeepsOrder s.beginRequests := by
  refine of_link (by simp) fun ⟨hlen, hord⟩ => ⟨?_, ?_⟩
  · rwa [s.beginRequests_eq.2.1]
  · unfold State.beginRequests
    split_ifs
    · exact beginDue_ordered _ hord
    · exact hord

theorem takeRequest (r : Request) (s : State) : s.KeepsOrder (State.takeRequest r s) := by
  refine of_link (by simp) fun h => ?_
  unfold State.takeRequest
  split_ifs
  · exact h
  · exact LineLink.Ok.takeIn (x := { s.lli with heldOff := s.lli.heldOff ++ [r] }) h

theorem takeResponse (s : State) : s.KeepsOrder s.takeResponse := by
  refine of_link (by simp) fun h => ?_
  unfold State.takeResponse
  split
  next resp rest hq =>
    obtain ⟨hlen, hord⟩ := h
    rw [hq] at hlen hord
    exact LineLink.Ok.takeIn (x := { s.lli with queue := rest }) ⟨Nat.le_of_succ_le hlen, hord.of_cons⟩
  all_goals exact h

theorem leaveInit (s : State) : s.KeepsOrder s.leaveInit := by
  refine of_link (by simp) fun h => ?_
  unfold State.leaveInit
  split_ifs
  · exact h.takeIn
  · exact h

theorem executeRequest (s : State) : s.KeepsOrder s.executeRequest := by
  refine of_link (by simp) fun ⟨hlen, hord⟩ => ?_
  unfold State.executeRequest
  split_ifs with hbusy
  · exact ⟨hlen, hord⟩
  · simp only [Bool.or_eq_true, not_or, Bool.not_eq_true, Option.isSome_eq_false_iff, Option.isNone_iff_eq_none] at hbusy
    refine ⟨by rwa [beginOldest_length], beginOldest_ordered _ hord ?_⟩
    exact List.findSome?_eq_none_iff.mp hbusy.2

/-! ## The command block (R190, R191, R193) -/

theorem leaveResults {ws : List (BitVec 16)} (h : ws.length = 8) (s : State) : s.KeepsOrder (State.leaveResults ws s) :=
  of_port (by simp) (fun _ => h) fun hs => hs

/-- A long command that completes is no longer running. -/
theorem completeLong (o : CmdOutcome) (s : State) : s.KeepsOrder (State.completeLong o s) :=
  of_port (by simp) id fun _ hb => by cases hb

theorem startLong (code : Byte) (s : State) : s.KeepsOrder (State.startLong code s) :=
  of_port (by simp) id fun _ _ => ⟨rfl, rfl, rfl⟩

theorem answerLong (code : Byte) (o : CmdOutcome) (s : State) : s.KeepsOrder (State.answerLong code o s) :=
  (startLong code s).trans (completeLong o _)

/-- An immediate command is taken while no long command runs. -/
theorem completeImmediate (code : Byte) (o : CmdOutcome) {s : State} (hb : s.mp.busy = false) :
    s.KeepsOrder (State.completeImmediate code o s) :=
  of_port (by simp) id fun _ hb' => absurd (hb.symm.trans hb') (by simp)

theorem leaveNothing (s : State) : s.KeepsOrder (State.leaveResults noResults s) := leaveResults rfl s

/-- A code that reaches the port: refused, or taken while no long command runs. -/
theorem takeCommand (code : Byte) {body : State → State} (hbody : ∀ t : State, t.mp.busy = false → t.KeepsOrder (body t)) (s : State) :
    s.KeepsOrder (State.takeCommand code body s) := by
  unfold State.takeCommand
  split_ifs with hinit hb
  · exact refl s
  · exact of_port (by simp) id id
  · exact trans (t := s.clearRefusal) (of_port (by simp) id id) (hbody _ (by simpa using hb))

theorem completeCalibrate (s : State) : s.KeepsOrder s.completeCalibrate := by
  unfold State.completeCalibrate
  split_ifs
  · refine trans ?_ (completeLong _ _)
    exact after (leaveResults (resultWords_length (by simp)) _) (by simp)
  · exact refl s

theorem quiesceComplete (s : State) : s.KeepsOrder s.quiesceComplete := by
  unfold State.quiesceComplete
  split_ifs
  · exact completeLong _ s
  · exact refl s

/-! ## Offers and the words of a read (R52, R80, R125, R151) -/

theorem migrationStart (s : State) : s.KeepsOrder s.migrationStart := of_retire (by simp) fun h => h.sublist s.migrationStart_queue

theorem retireOffer (p : Nat) (s : State) : s.KeepsOrder (State.retireOffer p s) := of_retire (by simp) (State.retireOffer_ok p)

theorem enterAlarm (p : Nat) (reason : AlarmReason) (s : State) : s.KeepsOrder (State.enterAlarm p reason s) :=
  after (retireOffer p _) (by simp)

theorem uncorrectableReport (p : Nat) (s : State) : s.KeepsOrder (State.uncorrectableReport p s) := by
  unfold State.uncorrectableReport
  split
  · exact refl s
  · exact refl s
  · exact enterAlarm p _ s
  · exact enterAlarm p _ s
  · exact (enterAlarm p .uncorrectable s).trans (after (completeCalibrate _) (by simp))

theorem retireHealth (p : Nat) (s : State) : s.KeepsOrder (State.retireHealth p s) := by
  unfold State.retireHealth
  split
  · exact after (completeCalibrate _) (by simp)
  all_goals exact of_eq (by simp)

theorem startHoldOff (s : State) : s.KeepsOrder s.startHoldOff := by
  unfold State.startHoldOff
  split_ifs
  · exact refl s
  · exact of_eq (by simp)

theorem offerRepair (a : WordAddr) (d : Word) (s : State) : s.KeepsOrder (State.offerRepair a d s) :=
  { of_eq (s := s) (t := { State.offerRepair a d s with ru := s.ru }) (by simp) with repair := State.offerRepair_ok a d }

theorem handleWord (offer : Bool) (p line w : Nat) (x : StoredWord) (s : State) :
    s.KeepsOrder (State.handleWord offer p line w x s) := by
  unfold State.handleWord
  split
  · exact refl s
  · exact refl s
  · split
    · exact after (offerRepair _ _ _) (by simp)
    · exact of_eq (by simp)
  · exact (startHoldOff s).trans (uncorrectableReport p _)

theorem handleWords (offer : Bool) (p line : Nat) (ws : List (Nat × StoredWord)) (s : State) :
    s.KeepsOrder (State.handleWords offer p line ws s) := by
  induction ws generalizing s with
  | nil => exact refl s
  | cons x rest ih => exact (handleWord offer p line x.1 x.2 s).trans (ih _)

/-- The words of a read handled and reported. -/
theorem reportWords (mk : FaultKind → Nat → Byte → FaultReport) (offer : Bool) (p line : Nat) (ws : List (Nat × StoredWord)) (s : State) :
    s.KeepsOrder (State.reportWords mk ws (State.handleWords offer p line ws s)) := (handleWords offer p line ws s).trans (of_eq (by simp))

/-! ## Grants (R71, R83) -/

theorem removeCovered (p n : Nat) (store : List (Option StoredWord)) (s : State) : s.KeepsOrder (State.removeCovered p n store s) :=
  of_repair (by simp) List.filter_sublist

/-- The fairness count counts grants to DEMAND up to its limit (R71). -/
theorem issue (q : Requester) (p n : Nat) (ws : Option (List (Option StoredWord))) (s : State) : s.KeepsOrder (State.issue q p n ws s) := by
  refine of_fairness (by simp) ?_
  simp only [State.issue_fields]
  split_ifs
  · exact Nat.min_le_left _ _
  · exact Nat.zero_le _

theorem markRedo (p n : Nat) (s : State) : s.KeepsOrder (State.markRedo p n s) := of_eq (by simp [State.markRedo_me])

theorem issueDemand (r : Request) (ph : DemandPhase) (g : Nat) (s : State) : s.KeepsOrder (State.issueDemand r ph g s) := by
  unfold State.issueDemand
  cases ph with
  | read => exact (execute _ _ _ s).trans (issue _ _ _ _ _)
  | mergeRead => exact (execute _ _ _ s).trans (issue _ _ _ _ _)
  | write st failed => exact (execute _ _ _ s).trans ((removeCovered _ _ _ _).trans ((markRedo _ _ _).trans (issue _ _ _ _ _)))
  | dual failed => exact refl s

theorem grantDemand (s : State) : s.KeepsOrder s.grantDemand := by
  unfold State.grantDemand
  split
  · split
    · exact issueDemand _ _ _ s
    · exact after (answer _ _ _) (by simp)
  all_goals exact refl s

theorem grantRepair (s : State) : s.KeepsOrder s.grantRepair := by
  unfold State.grantRepair
  split
  · exact after (issue _ _ _ _ _) (by simp)
  · exact refl s

theorem grantMigration (s : State) : s.KeepsOrder s.grantMigration := by
  unfold State.grantMigration
  split
  · split
    · exact after (issue _ _ _ _ _) (by simp)
    · exact after ((removeCovered _ _ _ _).trans (issue _ _ _ _ _)) (by simp)
    · exact after (issue _ _ _ _ _) (by simp)
    all_goals exact refl s
  · exact refl s

theorem grantSweep (s : State) : s.KeepsOrder s.grantSweep := by
  unfold State.grantSweep
  split_ifs
  · exact after (issue _ _ _ _ _) (by simp)
  · split
    · exact refl s
    · split
      · exact after ((removeCovered _ _ _ _).trans (issue _ _ _ _ _)) (by simp)
      · exact refl s
    · split
      · exact after (issue _ _ _ _ _) (by simp)
      · exact refl s

theorem chooseFrom (n : Nat) (s : State) : s.KeepsOrder (State.chooseFrom n s) := by
  induction n generalizing s with
  | zero =>
    unfold State.chooseFrom State.grantBackground
    split
    · exact grantRepair s
    · exact grantMigration s
    · exact grantSweep s
    all_goals exact refl s
  | succ n ih =>
    unfold State.chooseFrom
    split
    · split
      · exact grantDemand s
      · exact (grantDemand s).trans ((beginRequests _).trans (ih _))
    · exact grantRepair s
    · exact grantMigration s
    · exact grantSweep s
    · exact refl s

theorem arrayGrant (s : State) : s.KeepsOrder s.arrayGrant := by
  unfold State.arrayGrant
  split
  · exact refl s
  · exact chooseFrom _ s

/-- The internal events due keep order. -/
theorem found (c : Instr) (s : State) : s.KeepsOrder (Machine.found c s) := by
  have hstart : s.KeepsOrder s.beginRequests.migrationStart := (beginRequests s).trans (migrationStart _)
  have hsettle : s.KeepsOrder s.settle := hstart.trans ((arrayGrant _).trans (quiesceComplete _))
  cases c with
  | requestExecute => exact refl s
  | arrayGrant => exact hstart
  | migrationStart => exact refl s
  | quiesceComplete => exact refl s
  | _ => exact hsettle

/-! ## Completions of demand operations and of the repair write (R51, R56, R59, R72, R82) -/

theorem storeLine (op : PortOp) (s : State) : s.KeepsOrder (State.storeLine op s) := of_eq (by simp)

theorem freePort (s : State) : s.KeepsOrder s.freePort := of_eq (by simp)

theorem completeRead (flips : LineFlips) (s : State) : s.KeepsOrder (State.completeRead flips s) := by
  unfold State.completeRead State.finishRead
  split
  · exact after ((reportWords _ _ _ _ _ _).trans ((answer _ _ _).trans (freePort _))) (by simp)
  · exact refl s

theorem completeMergeRead (flips : LineFlips) (s : State) : s.KeepsOrder (State.completeMergeRead flips s) := by
  unfold State.completeMergeRead State.finishMergeRead
  split
  · exact after ((reportWords _ _ _ _ _ _).trans ((execute _ _ _ _).trans (freePort _))) (by simp)
  · exact refl s

theorem issueDual (r : Request) (store : LineStore) (failed : Option (Nat × BadClass)) (g t line : Nat) (s : State) :
    s.KeepsOrder (State.issueDual r store failed g t line s) :=
  (execute r (.dual failed) (.outstanding g none) s).trans
    ((removeCovered t line (LineStore.encode store) _).trans (of_eq (by simp [State.issueDual])))

theorem completeWrite (s : State) : s.KeepsOrder s.completeWrite := by
  unfold State.completeWrite State.finishWrite
  split
  next op r store failed g dual _ _ =>
    refine (storeLine op s).trans ?_
    split
    · exact issueDual _ _ _ _ _ _ _
    · exact (answer _ _ _).trans (freePort _)
  next => exact refl s

theorem completeDual (s : State) : s.KeepsOrder s.completeDual := by
  unfold State.completeDual
  split
  · exact (storeLine _ s).trans ((answer _ _ _).trans (freePort _))
  · exact refl s

theorem completeRepair (s : State) : s.KeepsOrder s.completeRepair := by
  unfold State.completeRepair
  split
  · exact (storeLine _ s).trans (trans (of_repair (by simp) List.filter_sublist) (freePort _))
  · exact refl s

theorem discardCompletion (s : State) : s.KeepsOrder s.discardCompletion := by
  unfold State.discardCompletion
  split
  · split_ifs
    · exact refl s
    · exact (storeLine _ s).trans (freePort _)
  · exact refl s

/-! ## The sweep (R92, R97 to R104) -/

theorem handleSweepLine (o : FaultOrigin) (op : PortOp) (s : State) : s.KeepsOrder (State.handleSweepLine o op s) :=
  reportWords _ _ _ _ _ s

theorem startFillSegment (run : SweepRun) (g : Nat) (s : State) : s.KeepsOrder (State.startFillSegment run g s) := after (retestHold _) (by simp)

theorem startWaitingSweep (s : State) : s.KeepsOrder s.startWaitingSweep := by
  unfold State.startWaitingSweep
  split
  · exact refl s
  · split_ifs
    · exact startFillSegment _ _ s
    · exact refl s
  · split_ifs
    · exact of_eq (by simp)
    · exact refl s

theorem patrolLine (op : PortOp) (s : State) : s.KeepsOrder (State.patrolLine op s) := by
  unfold State.patrolLine
  split_ifs
  · exact (handleSweepLine .patrol op s).trans (of_eq (by simp))
  · exact of_eq (by simp)

theorem completePatrol (flips : LineFlips) (s : State) : s.KeepsOrder (State.completePatrol flips s) := by
  unfold State.completePatrol
  split
  · exact after ((patrolLine _ _).trans ((startWaitingSweep _).trans (freePort _))) (by simp)
  all_goals exact refl s

theorem completeFillSegment (run : SweepRun) (pos : SweepPos) (s : State) : s.KeepsOrder (State.completeFillSegment run pos s) := by
  unfold State.completeFillSegment
  dsimp only
  split_ifs
  · exact after ((leaveResults (resultWords_length (by simp)) _).trans ((completeLong _ _).trans (retestHold _))) (by simp)
  · exact after (startFillSegment _ _ _) (by simp)

theorem advanceFill (run : SweepRun) (pos : SweepPos) (s : State) : s.KeepsOrder (State.advanceFill run pos s) := by
  unfold State.advanceFill
  split_ifs
  · exact of_eq (by simp)
  · exact completeFillSegment run pos s

theorem completeFill (s : State) : s.KeepsOrder s.completeFill := by
  unfold State.completeFill
  split
  · split
    · exact (storeLine _ s).trans ((advanceFill _ _ _).trans (freePort _))
    · exact refl s
  · exact refl s

/-- A FILL or VERIFY ends with its results (R103, R104). -/
theorem endSweep {ws : List (BitVec 16)} (h : ws.length = 8) (o : CmdOutcome) (s : State) :
    s.KeepsOrder (State.completeLong o (State.leaveResults ws s.endSweep)) :=
  after ((leaveResults h _).trans (completeLong o _)) (by simp)

theorem verifyLine (run : SweepRun) (pos : SweepPos) (op : PortOp) (s : State) : s.KeepsOrder (State.verifyLine run pos op s) := by
  unfold State.verifyLine
  refine (handleSweepLine .verify op s).trans ?_
  dsimp only
  split
  · exact endSweep (resultWords_length (by simp [totalWords])) _ _
  · split
    · exact of_eq (by simp)
    · exact endSweep (resultWords_length (by simp [totalWords])) _ _

theorem completeVerify (flips : LineFlips) (s : State) : s.KeepsOrder (State.completeVerify flips s) := by
  unfold State.completeVerify
  split
  · split
    · exact after ((verifyLine _ _ _ _).trans (freePort _)) (by simp)
    · exact refl s
  · exact refl s

/-! ## The Migration Engine (R153 to R165) -/

theorem finishCancel (s : State) : s.KeepsOrder s.finishCancel := by
  unfold State.finishCancel
  split
  · exact after (trans (dropDual _) ((leaveResults (resultWords_length (by simp)) _).trans (completeLong _ _))) (by simp)
  · exact refl s

theorem finishCopyRead (redo : Bool) (e : CopyingEntry) (op : PortOp) (s : State) : s.KeepsOrder (State.finishCopyRead redo e op s) :=
  (handleWords false op.segment op.line (selectWords (fun _ => true) (State.readLine op s)) s).trans
    (of_eq (by simp [State.finishCopyRead]))

theorem completeCopyRead (flips : LineFlips) (s : State) : s.KeepsOrder (State.completeCopyRead flips s) := by
  unfold State.completeCopyRead
  split
  next op _ e _ _ =>
    split
    next redo _ => exact after (finishCopyRead redo e op (State.flipLine op flips s)) (by simp)
    next =>
      split_ifs
      · exact after ((finishCancel (State.flipLine op flips s)).trans (freePort _)) (by simp)
      · exact refl s
    all_goals exact refl s
  next => exact refl s

theorem completeCopyWrite (s : State) : s.KeepsOrder s.completeCopyWrite := by
  unfold State.completeCopyWrite
  split
  next op _ =>
    split
    next => exact of_eq (by simp)
    next =>
      split_ifs
      · exact (storeLine op s).trans ((finishCancel _).trans (freePort _))
      · exact refl s
    all_goals exact refl s
  next => exact refl s

theorem failTarget (i : Nat) (e : CopyingEntry) (s : State) : s.KeepsOrder (State.failTarget i e s) := by
  unfold State.failTarget
  dsimp only
  split
  all_goals exact of_eq (by simp)

theorem commit (i : Nat) (e : CopyingEntry) (n : Nat) (s : State) : s.KeepsOrder (State.commit i e n s) :=
  trans (t := State.retireHealth e.current (s.moveSegment i e n)) (after (retireHealth _ _) (by simp))
    (of_repair (by simp [State.commit_eq]) (by simp [State.commit_eq]))

theorem endLine (i : Nat) (e : CopyingEntry) (b : List StoreWord) (redo : Bool) (s : State) :
    s.KeepsOrder (State.endLine i e b redo s) := by
  unfold State.endLine
  split_ifs
  · exact of_eq (by simp)
  · exact of_eq (by simp)
  · exact commit _ _ _ s

theorem finishVerifyRead (i : Nat) (e : CopyingEntry) (b : List StoreWord) (redo : Bool) (op : PortOp) (s : State) :
    s.KeepsOrder (State.finishVerifyRead i e b redo op s) := by
  unfold State.finishVerifyRead
  dsimp only
  split_ifs
  · exact (endLine i e b redo s).trans (freePort _)
  · exact after ((failTarget i e _).trans (freePort _)) (by simp)

theorem completeVerifyRead (flips : LineFlips) (s : State) : s.KeepsOrder (State.completeVerifyRead flips s) := by
  unfold State.completeVerifyRead
  split
  · split
    · exact after (finishVerifyRead _ _ _ _ _ _) (by simp)
    · split_ifs
      · exact after ((finishCancel _).trans (freePort _)) (by simp)
      · exact refl s
    all_goals exact refl s
  · exact refl s

/-! ## The pass (R111) -/

theorem calAlarm (p : Nat) (r : HealthRecord) (s : State) : s.KeepsOrder (State.calAlarm p r s) :=
  trans (t := State.enterAlarm p .calibration (State.putHealth p r s)) (after (enterAlarm p .calibration _) (by simp))
    (of_eq (by simp [State.calAlarm]))

theorem passOne (p raw : Nat) (ds : Deltas) (s : State) : s.KeepsOrder (State.passOne p raw ds s) := by
  unfold State.passOne
  dsimp only
  split
  · exact refl s
  · unfold State.passBaseline
    dsimp only
    split_ifs
    · exact calAlarm p _ s
    · exact of_eq (by simp)
    · exact of_eq (by simp)
  · exact of_eq (by simp)
  · unfold State.passWatch
    dsimp only
    split
    · exact of_eq (by simp)
    · exact after (enterAlarm p .threshold _) (by simp)
    · exact of_eq (by simp)
    · exact of_eq (by simp)
  · exact after (retireOffer p _) (by simp)

theorem passOver (raws ps : List Nat) (ds : Deltas) (s : State) : s.KeepsOrder (State.passOver raws ps ds s) := by
  induction ps generalizing ds s with
  | nil => exact refl s
  | cons p rest ih => exact (passOne p _ ds s).trans (ih _ _)

theorem epochPass (s : State) : s.KeepsOrder s.epochPass := after ((passOver _ _ _ s.takeRaws).trans (completeCalibrate _)) (by simp)

theorem endEpochTimer (s : State) : s.KeepsOrder s.endEpochTimer := by
  unfold State.endEpochTimer
  split
  · exact (epochPass s).trans (of_eq (by simp))
  · exact refl s

/-! ## Commands taken while no long command runs (R190, R191) -/

theorem takeGoOnline {s : State} (hb : s.mp.busy = false) : s.KeepsOrder s.takeGoOnline := by
  unfold State.takeGoOnline
  split_ifs
  · exact completeImmediate _ _ hb
  · exact after (completeImmediate _ _ (by simpa using hb)) (by simp)
  · exact completeImmediate _ _ hb

theorem takeFill (s : State) : s.KeepsOrder s.takeFill := by
  unfold State.takeFill
  split
  · exact (answerLong _ _ s).trans (leaveNothing _)
  · unfold State.startFill
    refine (startLong 0x10 s).trans ?_
    dsimp only
    split_ifs
    · exact of_eq (by simp)
    · exact after (startFillSegment _ _ _) (by simp)

theorem takeVerify (s : State) : s.KeepsOrder s.takeVerify := by
  unfold State.takeVerify
  split
  · exact (answerLong _ _ s).trans (leaveNothing _)
  · exact (startLong 0x11 s).trans (of_eq (by simp [State.startVerify]))

theorem takeRetire {s : State} (hb : s.mp.busy = false) : s.KeepsOrder s.takeRetire := by
  unfold State.takeRetire
  dsimp only
  split_ifs with hok
  · refine trans (t := State.appendRetire _ _ s) (of_retire (by simp) fun h => ?_) (completeImmediate _ _ hb)
    unfold State.checkRetire at hok
    split_ifs at hok with hmode hrange hclaim hfull hspare
    simp only [Bool.or_eq_true, not_or, Bool.not_eq_true] at hclaim
    exact State.appendRetire_ok .manual hclaim.1 (by omega) h
  · exact completeImmediate _ _ hb

theorem takeCancel (s : State) : s.KeepsOrder s.takeCancel := by
  unfold State.takeCancel
  split
  · exact (answerLong _ _ s).trans (leaveNothing _)
  · split
    · exact (answerLong _ _ s).trans (leaveNothing _)
    · split_ifs
      · exact (startLong 0x21 s).trans (of_eq (by simp))
      · exact (startLong 0x21 s).trans (after (finishCancel _) (by simp))

theorem takeQuiesce (s : State) : s.KeepsOrder s.takeQuiesce := by
  have hset : s.KeepsOrder (State.setQuiesced true s) := of_eq (by simp [State.setQuiesced])
  unfold State.takeQuiesce
  dsimp only
  split_ifs
  · exact answerLong _ _ s
  · exact hset.trans (answerLong _ _ _)
  · exact hset.trans (startLong _ _)

theorem takeResume {s : State} (hb : s.mp.busy = false) : s.KeepsOrder s.takeResume := by
  unfold State.takeResume
  split_ifs
  · exact completeImmediate _ _ hb
  · exact trans (t := State.setQuiesced false s) (of_eq (by simp [State.setQuiesced])) (completeImmediate _ _ (by simpa using hb))

theorem doRestore (g t : Nat) (s : State) : s.KeepsOrder (State.doRestore g t s) := by
  rw [State.doRestore_eq]
  exact of_repair (by simp) (by simp)

theorem takeRestore {s : State} (hb : s.mp.busy = false) : s.KeepsOrder s.takeRestore := by
  unfold State.takeRestore
  dsimp only
  split_ifs
  · exact (doRestore _ _ s).trans (completeImmediate _ _ (by simpa using hb))
  · exact completeImmediate _ _ hb

/-- An immediate command that leaves results. -/
theorem answerWith {ws : List (BitVec 16)} (h : ws.length = 8) (code : Byte) (o : CmdOutcome) {s : State} (hb : s.mp.busy = false) :
    s.KeepsOrder (State.leaveResults ws (State.completeImmediate code o s)) :=
  (completeImmediate code o hb).trans (leaveResults h _)

theorem takeTranslate {s : State} (hb : s.mp.busy = false) : s.KeepsOrder s.takeTranslate := by
  unfold State.takeTranslate
  dsimp only
  split_ifs
  · exact answerWith rfl _ _ hb
  · exact answerWith rfl _ _ hb
  · exact answerWith rfl _ _ hb

theorem takeReadRemap {s : State} (hb : s.mp.busy = false) : s.KeepsOrder s.takeReadRemap := by
  have hentry : ∀ e : RemapEntry, (remapResults e).length = 8 := fun e => by cases e <;> rfl
  unfold State.takeReadRemap
  dsimp only
  split_ifs
  · exact answerWith rfl _ _ hb
  · exact answerWith (hentry _) _ _ hb

theorem takeSetRole {s : State} (hb : s.mp.busy = false) : s.KeepsOrder s.takeSetRole := by
  unfold State.takeSetRole
  split_ifs
  · exact completeImmediate _ _ hb
  · split
    · exact after (completeImmediate _ _ hb) (by simp)
    · exact completeImmediate _ _ hb

theorem takeReseed {s : State} (hb : s.mp.busy = false) : s.KeepsOrder s.takeReseed := by
  unfold State.takeReseed
  dsimp only
  split_ifs
  · exact completeImmediate _ _ hb
  · exact completeImmediate _ _ hb
  · exact completeImmediate _ _ hb
  · exact after (completeImmediate _ _ hb) (by simp)

theorem takeReadHealth {s : State} (hb : s.mp.busy = false) : s.KeepsOrder s.takeReadHealth := by
  unfold State.takeReadHealth
  dsimp only
  split_ifs
  · exact answerWith rfl _ _ hb
  · exact answerWith rfl _ _ hb
  · exact answerWith rfl _ _ hb

theorem takeCalibrate (s : State) : s.KeepsOrder s.takeCalibrate := by
  unfold State.takeCalibrate
  split_ifs
  · exact (answerLong _ _ s).trans (leaveNothing _)
  · exact (startLong 0x43 s).trans (after (completeCalibrate _) (by simp))

theorem takeClearCapture {s : State} (hb : s.mp.busy = false) : s.KeepsOrder s.takeClearCapture :=
  after (completeImmediate 0x50 .ok (s := { s with fcu := .reset }) hb) (by simp)

theorem takeReadCapture {s : State} (hb : s.mp.busy = false) : s.KeepsOrder s.takeReadCapture := by
  have hrecord : s.fcu.results.length = 8 := by
    unfold FaultCapture.results
    split <;> rfl
  exact answerWith hrecord _ _ hb

theorem unknownCode (code : Byte) (s : State) : s.KeepsOrder (State.unknownCode code s) := by
  unfold State.unknownCode
  split_ifs
  · exact refl s
  · exact takeCommand code (fun _ hb => completeImmediate code _ hb) s

/-! ## Resets (R64, R188, R194) -/

theorem powerOn (asel : BitVec 2) (kept : Byte) (s : State) : s.KeepsOrder (State.powerOn asel kept s) := by
  obtain ⟨hlink, hrepair, hretire, hfair, hresults⟩ := State.reset_queuesOk
  exact ⟨fun _ => hlink, fun _ => hrepair, fun _ => hretire, fun _ => hfair, fun _ => hresults, fun _ hb => by cases hb⟩

/-- An engine reset completes the long command that runs, with its results (R194). -/
theorem abortLong (s : State) : s.KeepsOrder s.abortLong := by
  unfold State.abortLong
  split_ifs
  · refine trans (t := s.abortResults) ?_ (completeLong _ _)
    have hfill : s.abortedFill.length = 8 := by
      unfold State.abortedFill
      split <;> rfl
    have hverify : s.abortedVerify.length = 8 := by
      unfold State.abortedVerify
      split <;> rfl
    unfold State.abortResults
    split_ifs
    · exact leaveResults hfill s
    · exact leaveResults hverify s
    · exact leaveResults rfl s
    · exact leaveNothing s
    · exact refl s
  · exact refl s

/-- The engine reset of the blocks empties the two queues that name segments, and clears the fairness count (R76, R82, R149). -/
theorem resetBlocks (s : State) : s.KeepsOrder s.resetBlocks where
  link h := by
    obtain ⟨hreset, -, hlli⟩ := s.duelessReset_facts
    rw [← hreset]
    exact (retestHold s.duelessReset).link (h.map Slot.before.withoutDual (by rw [hlli]))
  repair _ := by simp [RepairUnit.Ok]
  retire _ := by simp [MigEngine.QueueOk]
  fairness _ := by simp [Arbiter.engineReset]
  results h := by simpa using h
  status h := by simpa [State.StatusOk] using h

theorem engineReset (s : State) : s.KeepsOrder s.engineReset := by
  unfold State.engineReset
  split_ifs
  · exact refl s
  · have hidle : s.abortLong.mp.busy = false := by
      unfold State.abortLong
      split_ifs with hb
      · rfl
      · simpa using hb
    refine (abortLong s).trans ((resetBlocks _).trans (trans (t := State.clearRefusal _) (of_port (by simp) id id) (completeImmediate _ _ ?_)))
    simpa using hidle

/-! ## Every step -/

theorem writeSettings (t : Transfer) (s : State) : s.KeepsOrder (State.writeSettings t s) := by
  unfold State.writeSettings
  split_ifs
  · exact refl s
  · exact of_port (by simp) (by simp [MgmtPort.afterWrite]) (by simp [MgmtPort.afterWrite, State.StatusOk])

theorem writeEnables (t : Transfer) (s : State) : s.KeepsOrder (State.writeEnables t s) := by
  unfold State.writeEnables
  split_ifs
  · exact refl s
  · exact of_port (by simp) id id

theorem writeAck (t : Transfer) (s : State) : s.KeepsOrder (State.writeAck t s) := by
  unfold State.writeAck
  split_ifs
  · exact refl s
  · exact of_port (by simp) id id

theorem readTransfer (t : ReadTransfer) (s : State) : s.KeepsOrder (State.readTransfer t s) := by
  unfold State.readTransfer
  split_ifs
  · exact refl s
  · exact of_port (by simp) id id

theorem effect (c : Instr) (s : State) : s.KeepsOrder (Machine.effect c s) := by
  cases c with
  | powerOnReset asel kept => exact powerOn asel kept s
  | initComplete => exact leaveInit s
  | requestTaken r => exact takeRequest r s
  | responseTaken => exact takeResponse s
  | requestExecute => exact executeRequest s
  | arrayGrant => exact arrayGrant s
  | demandReadComplete flips => exact completeRead flips s
  | demandMergeReadComplete flips => exact completeMergeRead flips s
  | demandWriteComplete => exact completeWrite s
  | dualWriteComplete => exact completeDual s
  | repairWriteComplete => exact completeRepair s
  | patrolReadComplete flips => exact completePatrol flips s
  | fillWriteComplete => exact completeFill s
  | verifySweepReadComplete flips => exact completeVerify flips s
  | copyReadComplete flips => exact completeCopyRead flips s
  | copyWriteComplete => exact completeCopyWrite s
  | verifyReadComplete flips => exact completeVerifyRead flips s
  | discardedCompletion => exact discardCompletion s
  | patrolTick => exact of_eq (t := s.endPatrolTimer) (by simp)
  | epochEnd => exact endEpochTimer s
  | holdOffEnd => exact of_eq (t := s.endHoldOff) (by simp)
  | migrationStart => exact migrationStart s
  | quiesceComplete => exact quiesceComplete s
  | settingsWrite t => exact writeSettings t s
  | epochExponentWrite k => exact writeSettings _ s
  | patrolIntervalWrite which v => exact writeSettings _ s
  | enableWrite t => exact writeEnables t s
  | acknowledgeMaskWrite t => exact writeAck t s
  | unknownCommand code => exact unknownCode code s
  | goOnline => exact takeCommand 0x01 (fun _ => takeGoOnline) s
  | engineReset => exact engineReset s
  | fill => exact takeCommand 0x10 (fun t _ => takeFill t) s
  | verify => exact takeCommand 0x11 (fun t _ => takeVerify t) s
  | retire => exact takeCommand 0x20 (fun _ => takeRetire) s
  | cancelMigration => exact takeCommand 0x21 (fun t _ => takeCancel t) s
  | quiesce => exact takeCommand 0x22 (fun t _ => takeQuiesce t) s
  | resume => exact takeCommand 0x23 (fun _ => takeResume) s
  | restore => exact takeCommand 0x30 (fun _ => takeRestore) s
  | translate => exact takeCommand 0x31 (fun _ => takeTranslate) s
  | readRemap => exact takeCommand 0x32 (fun _ => takeReadRemap) s
  | setRole => exact takeCommand 0x40 (fun _ => takeSetRole) s
  | reseed => exact takeCommand 0x41 (fun _ => takeReseed) s
  | readHealth => exact takeCommand 0x42 (fun _ => takeReadHealth) s
  | calibrate => exact takeCommand 0x43 (fun t _ => takeCalibrate t) s
  | clearCapture => exact takeCommand 0x50 (fun _ => takeClearCapture) s
  | readCapture => exact takeCommand 0x51 (fun _ => takeReadCapture) s
  | readTransfer t => exact readTransfer t s

end State.KeepsOrder

/-- What every change in order keeps, every step keeps. -/
theorem State.KeepsOrder.step {P : State → Prop} (hP : ∀ {s t : State}, s.KeepsOrder t → P s → P t) {s t : State} (hs : P s)
    (h : Machine.step s = .next t) : P t := by
  refine step_keeps (P := P) (fun s t hst => hP ?_) (fun c s => hP (.found c s)) (fun c s => hP (.effect c s)) s t hs h
  rw [hst]
  exact .of_eq (by simp)

end Sys2Proof.Machine

open Sys2Proof Sys2Proof.Machine

/-- Settles O57: internal events and effects alike change each queue, count and status in an order-keeping way. -/
theorem stepsKeepTheQueuesInOrder : Obligations.StepsKeepTheQueuesInOrder :=
  ⟨fun _ _ => State.KeepsOrder.step State.KeepsOrder.queuesOk, fun _ _ => State.KeepsOrder.step State.KeepsOrder.status⟩

end

-- ==== Proofs: LineLink ====
section
/-! SUPPORT. The line link's own events: the slots taken from the link and those that leave it (R46, R47, R49, R50), and the WAITING request that begins (R44, R45, R48). -/

namespace Sys2Proof.Machine

/-! ## Requests taken and responses sent (R46, R47, R49) -/

/-- With no slot free nothing is taken. -/
theorem LineLink.takeIn_full {x : LineLink} (h : 16 ≤ x.queue.length) : x.takeIn = x := by
  simp [LineLink.takeIn, Config.requestQueueSlots, Nat.sub_eq_zero_of_le h]

/-- With a slot free, the only request held off is taken. -/
theorem LineLink.takeIn_one {q : List Slot} (r : Request) (h : q.length < 16) :
    LineLink.takeIn ⟨q, [r]⟩ = ⟨q ++ [.waiting r], []⟩ := by
  obtain ⟨k, hk⟩ : ∃ k, Config.requestQueueSlots - q.length = k + 1 := Nat.exists_eq_add_one.mpr (Nat.sub_pos_of_lt h)
  simp [LineLink.takeIn, hk]

theorem State.takeRequest_init (r : Request) {s : State} (h : s.mode = .init) :
    State.takeRequest r s = { s with lli := ⟨s.lli.queue, s.lli.heldOff ++ [r]⟩ } := if_pos h

theorem State.takeRequest_taken (r : Request) {s : State} (h : s.mode ≠ .init) :
    State.takeRequest r s = { s with lli := LineLink.takeIn ⟨s.lli.queue, s.lli.heldOff ++ [r]⟩ } := if_neg h

/-- The codes of one bit of R197. -/
theorem LinkRequest.request_eq (x : LinkRequest) : x.request =
    ⟨if x.kind = 0 then .read else .write x.words, x.tag, if x.cls = 0 then .a else .b, x.address, x.count⟩ := rfl

theorem State.takeResponse_answered {s : State} {x : Response} {rest : List Slot} (h : s.lli.queue = .answered x :: rest) :
    s.takeResponse = { s with lli := LineLink.takeIn ⟨rest, s.lli.heldOff⟩ } := by
  unfold State.takeResponse
  rw [h]

theorem State.takeResponse_unanswered {s : State} (h : ∀ x rest, s.lli.queue ≠ .answered x :: rest) : s.takeResponse = s := by
  unfold State.takeResponse
  split
  next hq => exact absurd hq (h _ _)
  all_goals rfl

theorem State.linkResponse_answered {s : State} {x : Response} {rest : List Slot} (h : s.lli.queue = .answered x :: rest) :
    s.linkResponse = some x.link := by
  unfold State.linkResponse
  rw [h]

theorem State.linkResponse_unanswered {s : State} (h : ∀ x rest, s.lli.queue ≠ .answered x :: rest) : s.linkResponse = none := by
  unfold State.linkResponse
  split
  next hq => exact absurd hq (h _ _)
  all_goals rfl

/-! ## The shape of a request and its first operation (R44, R45, R55, R56) -/

/-- The shape check, spelt out (R45). -/
theorem Request.badShape_iff (r : Request) : r.badShape = true ↔
    r.count = 0 ∨ 8 < r.count ∨ 8 < r.address.toNat % 64 / 8 + r.count ∨ ∃ ws, r.kind = .write ws ∧ ∀ w ∈ ws, w.enables = 0 := by
  unfold Request.badShape Request.isWrite Request.writeWords
  cases r.kind <;> simp [requestFirst, or_assoc]

section
variable {r : Request} {ws : List WriteWord}

/-- Word `w` of the line as the request carries it. -/
theorem Request.wordAt_write (hkind : r.kind = .write ws) (w : Nat) :
    r.wordAt w = if r.names w then ws.getD (w - requestFirst r.address) ⟨0, 0⟩ else ⟨0, 0⟩ := by
  unfold Request.wordAt Request.writeWords
  rw [hkind]

/-- The words of a request of good shape lie in its line: word `i` of the request is word `requestFirst + i` of the line. -/
theorem Request.isMerge_write (hkind : r.kind = .write ws) (hlen : ws.length = r.count)
    (hline : requestFirst r.address + r.count ≤ 8) :
    r.isMerge = true ↔ ∃ w ∈ ws, w.enables ≠ 0 ∧ w.enables ≠ 0xFF := by
  have hwrite : r.isWrite = true := by
    unfold Request.isWrite
    rw [hkind]
  have hpartial : ∀ w, r.partialWord w = true ↔
      ∃ i, w = requestFirst r.address + i ∧ ∃ x, ws[i]? = some x ∧ x.enables ≠ 0 ∧ x.enables ≠ 0xFF := by
    intro w
    rw [Request.partialWord, Request.wordAt_write hkind]
    constructor
    · intro h
      split_ifs at h with hn
      · simp only [Request.names, Bool.and_eq_true, decide_eq_true_eq] at hn
        have hi : w - requestFirst r.address < ws.length := by omega
        refine ⟨w - requestFirst r.address, by omega, ws[w - requestFirst r.address], List.getElem?_eq_getElem hi, ?_⟩
        simpa [List.getD_eq_getElem?_getD, List.getElem?_eq_getElem hi] using h
      · simp at h
    · rintro ⟨i, rfl, x, hx, hpart⟩
      have hi : i < ws.length := (List.getElem?_eq_some_iff.mp hx).1
      have hn : r.names (requestFirst r.address + i) = true := by
        simp [Request.names]
        omega
      simpa [hn, List.getD_eq_getElem?_getD, hx] using hpart
  rw [Request.isMerge, hwrite, Bool.true_and, List.any_eq_true]
  constructor
  · rintro ⟨w, -, hw⟩
    obtain ⟨i, -, x, hx, hpart⟩ := (hpartial w).mp hw
    exact ⟨x, List.mem_of_getElem? hx, hpart⟩
  · rintro ⟨x, hx, hpart⟩
    obtain ⟨i, hi, rfl⟩ := List.mem_iff_getElem.mp hx
    exact ⟨requestFirst r.address + i, List.mem_range.mpr (by simp [Config.wordsPerLine]; omega),
      (hpartial _).mpr ⟨i, rfl, _, List.getElem?_eq_getElem hi, hpart⟩⟩

/-- A full write stores its fully enabled words and no other (R55). -/
theorem Request.fullStore_write (hkind : r.kind = .write ws) :
    r.fullStore = (List.range 8).map fun w =>
      if requestFirst r.address ≤ w ∧ w < requestFirst r.address + r.count then
        match ws[w - requestFirst r.address]? with
        | some x => if x.enables = 0xFF then some (StoreWord.data x.data) else none
        | none => none
      else none := by
  refine List.map_congr_left fun w _ => ?_
  simp only [Request.fullWord, Request.wordAt_write hkind, Request.names, Bool.and_eq_true, decide_eq_true_eq, beq_iff_eq,
    List.getD_eq_getElem?_getD]
  by_cases hn : requestFirst r.address ≤ w ∧ w < requestFirst r.address + r.count
  · simp only [hn, and_self, if_true]
    cases ws[w - requestFirst r.address]? <;> simp
  · simp [hn]

end

/-- A READ begins with its LINE_READ (R51). -/
theorem firstPhase_read {r : Request} (hkind : r.kind = .read) : firstPhase r = .read := by
  unfold firstPhase Request.isWrite
  rw [hkind]
  rfl

/-- A WRITE begins with the LINE_READ of its merge if a word is partial, with its LINE_WRITE if none is (R55, R56). -/
theorem firstPhase_write {r : Request} {ws : List WriteWord} (hkind : r.kind = .write ws) (hlen : ws.length = r.count)
    (hline : requestFirst r.address + r.count ≤ 8) :
    firstPhase r = if ∃ w ∈ ws, w.enables ≠ 0 ∧ w.enables ≠ 0xFF then .mergeRead else .write r.fullStore none := by
  have hwrite : r.isWrite = true := by
    unfold Request.isWrite
    rw [hkind]
  simp only [firstPhase, hwrite, Request.isMerge_write hkind hlen hline, Bool.not_true, Bool.false_eq_true, if_false]

/-! ## The slot that begins (R48, R50) -/

theorem State.beginSlot_config {s : State} (r : Request) (h : s.mode = .config) : s.beginSlot r = .answered ⟨r.tag, .offline⟩ := by
  simp [State.beginSlot, h]

theorem State.beginSlot_bad {s : State} {r : Request} (h : s.mode = .online) (hbad : r.badShape = true) :
    s.beginSlot r = .answered ⟨r.tag, .badreq⟩ := by
  simp [State.beginSlot, h, hbad]

theorem State.beginSlot_executing {s : State} {r : Request} (h : s.mode = .online) (hgood : r.badShape = false) :
    s.beginSlot r = .executing r (firstPhase r) (s.holdTest r) := by
  simp [State.beginSlot, h, hgood]

section
variable {f : Request → Slot} {r : Request} {pre post : List Slot} (hpre : ∀ x ∈ pre, ∃ resp, x = .answered resp)
include hpre

/-- The WAITING slot behind the ANSWERED ones begins. -/
theorem beginOldest_answered : beginOldest f (pre ++ .waiting r :: post) = pre ++ f r :: post := by
  induction pre with
  | nil => rfl
  | cons x rest ih =>
    obtain ⟨resp, rfl⟩ := hpre x List.mem_cons_self
    rw [List.cons_append, beginOldest, ih fun y hy => hpre y (List.mem_cons_of_mem _ hy), List.cons_append]

/-- When it becomes EXECUTING no slot behind it begins. -/
theorem beginDue_waiting {ph : DemandPhase} {step : DemandStep} (hf : f r = .executing r ph step) :
    beginDue f (pre ++ .waiting r :: post) = pre ++ .executing r ph step :: post := by
  induction pre with
  | nil => simp [beginDue, hf]
  | cons x rest ih =>
    obtain ⟨resp, rfl⟩ := hpre x List.mem_cons_self
    rw [List.cons_append, beginDue, ih fun y hy => hpre y (List.mem_cons_of_mem _ hy), List.cons_append]

end

section
variable {s : State} {r : Request} {pre post : List Slot}

/-- No slot executes before the first WAITING one has begun. -/
theorem State.executing_none_of_waiting (hq : s.lli.queue = pre ++ .waiting r :: post)
    (hpre : ∀ x ∈ pre, ∃ resp, x = .answered resp) (hpost : ∀ x ∈ post, ∃ r', x = .waiting r') : s.executing = none := by
  rw [State.executing, hq, List.findSome?_eq_none_iff]
  intro x hx
  rcases List.mem_append.mp hx with hx | hx
  · obtain ⟨resp, rfl⟩ := hpre x hx
    rfl
  · rcases List.mem_cons.mp hx with rfl | hx
    · rfl
    · obtain ⟨r', rfl⟩ := hpost x hx
      rfl

/-- The oldest WAITING request begins when none executes (R48). -/
theorem State.executeRequest_begins (hmode : s.mode ≠ .init) (hq : s.lli.queue = pre ++ .waiting r :: post)
    (hpre : ∀ x ∈ pre, ∃ resp, x = .answered resp) (hpost : ∀ x ∈ post, ∃ r', x = .waiting r') :
    s.executeRequest = { s with lli := { s.lli with queue := pre ++ s.beginSlot r :: post } } := by
  have hexec := State.executing_none_of_waiting hq hpre hpost
  rw [State.executeRequest, hq, beginOldest_answered hpre]
  simp [hmode, hexec]

/-- In ONLINE a request of good shape begins of itself as REQUEST_EXECUTE begins it (log entry 3). -/
theorem State.executeRequest_eq_beginRequests (hmode : s.mode = .online) (hgood : r.badShape = false)
    (hq : s.lli.queue = pre ++ .waiting r :: post)
    (hpre : ∀ x ∈ pre, ∃ resp, x = .answered resp) (hpost : ∀ x ∈ post, ∃ r', x = .waiting r') :
    s.executeRequest = s.beginRequests := by
  have hslot := State.beginSlot_executing hmode hgood
  have hexec := State.executing_none_of_waiting hq hpre hpost
  rw [State.executeRequest_begins (by simp [hmode]) hq hpre hpost, State.beginRequests, if_pos ⟨hmode, by simp [hexec]⟩, hq,
    beginDue_waiting hpre hslot, hslot]

end

/-- While a request executes, and in INIT, REQUEST_EXECUTE begins nothing (R48, R50). -/
theorem State.executeRequest_same {s : State} (h : s.executing ≠ none ∨ s.mode = .init) : s.executeRequest = s := by
  unfold State.executeRequest
  rw [if_pos]
  rcases h with h | h
  · simp [Option.isSome_iff_ne_none.mpr h]
  · simp [h]

end Sys2Proof.Machine

open Sys2Proof Sys2Proof.Machine

/-- Settles O8: the held-off requests are taken as they are from a link that leaves INIT (R47, R50). -/
theorem initCompleteEntersConfig : Obligations.InitCompleteEntersConfig := by
  intro s u hs
  have hexec : exec .initComplete s = .next u.leaveInit := by rw [← hs]; rfl
  rw [hexec]
  exact ⟨fun h => congrArg _ (if_pos h), fun h => congrArg _ (if_neg h)⟩

/-- Settles O12, by the free slots left: none, one for the only request, or any number. -/
theorem requestsAreTakenInOrder : Obligations.RequestsAreTakenInOrder := by
  refine ⟨fun r s u hs => ?_, LinkRequest.request_eq, Request.request_link⟩
  have hexec : exec (.requestTaken r) s = .next (State.takeRequest r u) := by rw [← hs]; rfl
  rw [hexec]
  refine ⟨fun h => ?_, fun h hheld hlen => ?_, fun h hlen => ?_, fun h => ?_⟩
  · rw [State.takeRequest_init r h]
  · rw [State.takeRequest_taken r h, hheld, List.nil_append, LineLink.takeIn_one r hlen]
  · rw [State.takeRequest_taken r h, LineLink.takeIn_full (x := ⟨u.lli.queue, u.lli.heldOff ++ [r]⟩) hlen]
  · rw [State.takeRequest_taken r h]
    rfl

/-- Settles O13, by the state of the oldest slot and, for the codes, by the body of its response. -/
theorem responsesLeaveInOrder : Obligations.ResponsesLeaveInOrder := by
  refine ⟨fun s u hs => ?_, fun s => ⟨fun x rest hq => ?_, State.linkResponse_unanswered⟩⟩
  · have hexec : exec .responseTaken s = .next u.takeResponse := by rw [← hs]; rfl
    rw [hexec]
    refine ⟨fun x rest hq => ?_, fun hq => ?_⟩
    · rw [State.takeResponse_answered hq]
      rfl
    · rw [State.takeResponse_unanswered hq]
  · obtain ⟨tag, body⟩ := x
    rw [State.linkResponse_answered hq]
    cases body with
    | fault w c => cases c <;> rfl
    | _ => rfl

/-- Settles O14: what the oldest WAITING slot becomes, by the mode, the shape check and the fill hold, and that the request's words are its line's words from the first on (R44). -/
theorem requestExecutionBegins : Obligations.RequestExecutionBegins := by
  refine ⟨fun r pre post s hwf hq hpre hpost => ?_, fun s h => congrArg _ (State.executeRequest_same h)⟩
  intro begun lowest bad full first
  have hbegins : s.mode ≠ .init → exec .requestExecute s = begun (s.beginSlot r) := fun hmode =>
    congrArg _ (State.executeRequest_begins hmode hq hpre hpost)
  have hgood : ¬bad → r.badShape = false := fun h => Bool.eq_false_iff.mpr (mt (Request.badShape_iff r).mp h)
  have hphase : ¬bad → firstPhase r = first := by
    intro h
    have hline : requestFirst r.address + r.count ≤ 8 := Nat.not_lt.mp fun hlt => h (.inr (.inr (.inl hlt)))
    cases hkind : r.kind with
    | read =>
      simp only [first, hkind]
      exact firstPhase_read hkind
    | write ws =>
      have hlen : ws.length = r.count := by simpa [Request.wf, hkind] using hwf
      simp only [first, hkind]
      rw [firstPhase_write hkind hlen hline, show r.fullStore = full ws from Request.fullStore_write hkind]
  have hexecuting : s.mode = .online → ¬bad → exec .requestExecute s = begun (.executing r first (s.holdTest r)) := by
    intro hmode h
    rw [hbegins (by simp [hmode]), State.beginSlot_executing hmode (hgood h), hphase h]
  refine ⟨fun hmode => ?_, fun hmode h => ?_, fun hmode h hheld => ?_, fun hmode h hheld => ?_, fun hmode h => ?_⟩
  · rw [hbegins (by simp [hmode]), State.beginSlot_config r hmode]
  · rw [hbegins (by simp [hmode]), State.beginSlot_bad hmode ((Request.badShape_iff r).mpr h)]
  · rw [hexecuting hmode h, (s.holdTest_held r).mpr hheld]
  · rw [hexecuting hmode h, (s.holdTest_cases r).resolve_left (mt (s.holdTest_held r).mp hheld)]
  · exact congrArg _ (State.executeRequest_eq_beginRequests hmode (hgood h) hq hpre hpost)

end

-- ==== Proofs: DemandRead ====
section
/-! SUPPORT. A READ answered by its own words (R46, R51 to R54), and what an UNCORRECTABLE one among them does (R73, R124, R126, R142, R143). -/

namespace Sys2Proof.Machine

/-! ## The response of a READ (R46, R51) -/

section
variable {f : Nat → StoredWord} {ws : List Nat}

theorem badClass_of_clean {x : StoredWord} (h : classify x = .clean) : badClass x = none := by
  simp [badClass, h]

theorem badClass_of_uncorrectable {x : StoredWord} (h : classify x = .uncorrectable) : badClass x = some .uncorrectable := by
  simp [badClass, h]

/-- A CLEAN word has even parity, so it is delivered as stored (R12). -/
theorem deliveredData_of_clean {x : StoredWord} (h : classify x = .clean) : deliveredData x = x.data := by
  refine deliveredData_of_even (Bool.eq_false_iff.mpr fun hodd => ?_)
  simp only [classify, hodd, if_true] at h
  split_ifs at h

/-- Words of which each can be delivered hold none that cannot. -/
theorem firstBad_map_eq_none (h : ∀ w ∈ ws, badClass (f w) = none) : firstBad (ws.map fun w => (w, f w)) = none := by
  induction ws with
  | nil => rfl
  | cons w rest ih =>
    rw [List.map_cons, firstBad, h w List.mem_cons_self]
    exact ih fun v hv => h v (List.mem_cons_of_mem _ hv)

theorem countOfClass_map (c : WordClass) :
    countOfClass c (ws.map fun w => (w, f w)) = (ws.filter fun w => classify (f w) == c).length := by
  rw [countOfClass, List.filter_map, List.length_map]
  rfl

theorem readBody_of_delivered (h : ∀ w ∈ ws, badClass (f w) = none) : readBody (ws.map fun w => (w, f w)) =
    if (ws.filter fun w => classify (f w) == .corrected).length = 0 then .okayRead (ws.map fun w => deliveredData (f w))
    else .fixed (ws.map fun w => deliveredData (f w)) (ws.filter fun w => classify (f w) == .corrected).length := by
  simp only [readBody, firstBad_map_eq_none h, countOfClass_map, List.map_map, Function.comp_def]

/-- All words CLEAN: OKAY, with the data as stored. -/
theorem readBody_of_clean (h : ∀ w ∈ ws, classify (f w) = .clean) :
    readBody (ws.map fun w => (w, f w)) = .okayRead (ws.map fun w => (f w).data) := by
  have hnone : (ws.filter fun w => classify (f w) == .corrected).length = 0 :=
    List.length_eq_zero_iff.mpr (List.filter_eq_nil_iff.mpr fun w hw => by simp [h w hw])
  rw [readBody_of_delivered fun w hw => badClass_of_clean (h w hw), if_pos hnone,
    List.map_congr_left fun w hw => deliveredData_of_clean (h w hw)]

/-- All words delivered and one CORRECTED: FIXED, with the count. -/
theorem readBody_of_corrected (h : ∀ w ∈ ws, badClass (f w) = none) (hsome : ∃ w ∈ ws, classify (f w) = .corrected) :
    readBody (ws.map fun w => (w, f w)) =
      .fixed (ws.map fun w => deliveredData (f w)) (ws.filter fun w => classify (f w) == .corrected).length := by
  obtain ⟨w, hw, hc⟩ := hsome
  rw [readBody_of_delivered h, if_neg]
  exact Nat.ne_of_gt (List.length_pos_of_mem (List.mem_filter.mpr ⟨hw, by simp [hc]⟩))

/-- A word that cannot be delivered: FAULT, with the lowest such word and its class. -/
theorem readBody_of_bad (hs : ws.Pairwise (· < ·)) {w : Nat} {c : BadClass} (hw : w ∈ ws) (hc : badClass (f w) = some c)
    (hlow : ∀ v ∈ ws, v < w → badClass (f v) = none) : readBody (ws.map fun w => (w, f w)) = .fault w c := by
  obtain ⟨x, hx, hwc⟩ := Option.map_eq_some_iff.mp ((firstBad_map_eq_some f ws hs w c).mpr ⟨hw, hc, hlow⟩)
  obtain ⟨rfl, rfl⟩ := Prod.mk.inj hwc
  rw [readBody, hx]

/-- Among ascending words of which one cannot be delivered there is a lowest such. -/
theorem exists_lowest_bad (hs : ws.Pairwise (· < ·)) (h : ∃ w ∈ ws, badClass (f w) ≠ none) :
    ∃ w ∈ ws, badClass (f w) ≠ none ∧ ∀ v ∈ ws, v < w → badClass (f v) = none := by
  have hfirst := firstBad_map_eq_some f ws hs
  cases hbad : firstBad (ws.map fun w => (w, f w)) with
  | none =>
    obtain ⟨w, hw, hc⟩ := h
    have hall := firstBad_map f ws
    rw [hbad] at hall
    exact absurd (hall w hw) hc
  | some x =>
    obtain ⟨hw, hc, hlow⟩ := (hfirst x.1 x.2.2).mp (by rw [hbad]; rfl)
    exact ⟨x.1, hw, by simp [hc], hlow⟩

/-! ## A line of CLEAN words (R52 to R54) -/

/-- CLEAN words bring no count, offer or report to the engines. -/
theorem State.handleWords_of_clean (offer : Bool) (p line : Nat) (s : State) (h : ∀ w ∈ ws, classify (f w) = .clean) :
    State.handleWords offer p line (ws.map fun w => (w, f w)) s = s := by
  induction ws with
  | nil => rfl
  | cons w rest ih =>
    rw [List.map_cons, State.handleWords_cons, State.handleWord, h w List.mem_cons_self]
    exact ih fun v hv => h v (List.mem_cons_of_mem _ hv)

/-- CLEAN words make no fault report. -/
theorem State.reportWords_of_clean (mk : FaultKind → Nat → Byte → FaultReport) (s : State)
    (h : ∀ w ∈ ws, classify (f w) = .clean) : State.reportWords mk (ws.map fun w => (w, f w)) s = s := by
  have hcorrected : firstOfClass .corrected (ws.map fun w => (w, f w)) = none := by
    have hfirst := firstOfClass_map .corrected f ws
    cases hx : firstOfClass .corrected (ws.map fun w => (w, f w)) with
    | none => rfl
    | some x =>
      rw [hx] at hfirst
      obtain ⟨-, hc, pre, post, hws, -⟩ := hfirst
      rw [h x.1 (by rw [hws]; simp)] at hc
      cases hc
  rw [State.reportWords, firstBad_map_eq_none fun w hw => badClass_of_clean (h w hw), hcorrected]
  exact ite_self s

end

/-! ## DEMAND_READ_COMPLETE (R51 to R54) -/

/-- A READ's completion finishes it on the line with its cell changes. -/
theorem exec_demandReadComplete {r : Request} {g : Nat} {d : Option Nat} {op : PortOp} {s u : State} (flips : LineFlips)
    (hs : s.settle = u) (hg : u.aa.grant = some op) (hreq : op.requester = .demand) (hdel : op.deliver = true)
    (hx : u.executing = some (r, .read, .outstanding g d)) : exec (.demandReadComplete flips) s =
      .next (State.finishRead r g op { u with array := Memory.flipLine u.array op.segment op.line flips }) := by
  rw [exec_eq, show effect (.demandReadComplete flips) (found (.demandReadComplete flips) s) = u.completeRead flips
    from by rw [← hs]; rfl]
  simp only [State.completeRead, State.delivered_of hg hreq hdel, hx]
  rfl

/-- A read's steps, on the words `L` that it selects. -/
theorem State.finishRead_of_words (r : Request) (g : Nat) (op : PortOp) (v : State) {L : List (Nat × StoredWord)}
    (h : selectWords r.names (State.readLine op v) = L) : State.finishRead r g op v = State.freePort (State.answer r (readBody L)
      (State.reportWords (demandReport r .demandRead op g) L (State.handleWords true op.segment op.line L v))) := by
  subst h
  rfl

/-- A READ of CLEAN words leaves the state but for the line's changes, the response and the port. -/
theorem State.finishRead_of_clean (r : Request) (g : Nat) (op : PortOp) (u : State) (m : Memory)
    (h : ∀ w ∈ lineWords.filter r.names, classify (m.read (op.segment * 32768 + op.line * 8 + w)) = .clean) :
    State.finishRead r g op { u with array := m } = { u with
      array := m
      lli := { u.lli with queue := u.lli.queue.map (Slot.answered ⟨r.tag, .okayRead ((lineWords.filter r.names).map fun w =>
        (m.read (op.segment * 32768 + op.line * 8 + w)).data)⟩).replaceExec }
      aa := { u.aa with grant := none } } := by
  rw [State.finishRead_of_words r g op _ (selectWords_line _ _ _ _), readBody_of_clean h, State.handleWords_of_clean _ _ _ _ h,
    State.reportWords_of_clean _ _ h]
  rfl

/-- A READ finished, on the array `m` with the line's changes in it (R51 to R54). -/
theorem State.finishRead_spec (r : Request) (g : Nat) (op : PortOp) (u : State) (m : Memory) :
    let word := fun w => m.read (op.segment * 32768 + op.line * 8 + w)
    let ws := lineWords.filter r.names
    let t := State.finishRead r g op { u with array := m }
    t = { u with
      array := m
      lli := { u.lli with
        queue := u.lli.queue.map (Slot.answered ⟨r.tag, readBody (ws.map fun w => (w, word w))⟩).replaceExec }
      aa := { u.aa with grant := none, holdOff := t.aa.holdOff }
      rc := t.rc, me := t.me, se := t.se, ru := t.ru, hm := t.hm, fcu := t.fcu, alu := t.alu, mp := t.mp } ∧
    ReadEffects op.segment word ws u t ∧ OffersInOrder op.segment op.line word ws u t ∧
    ReportsLowest (fun k w => ⟨k, .demandRead, some (⟨op.segment, op.line, w⟩, syndromeByte (word w)), some g,
      some (r.address, r.cls)⟩) word ws u t := by
  intro word ws t
  let v : State := { u with array := m }
  let handled := State.handleWords true op.segment op.line (ws.map fun w => (w, word w)) v
  let reported := State.reportWords (demandReport r .demandRead op g) (ws.map fun w => (w, word w)) handled
  let body := readBody (ws.map fun w => (w, word w))
  have ht : t = State.freePort (State.answer r body reported) := State.finishRead_of_words r g op v (selectWords_line _ _ _ _)
  obtain ⟨hkeep, hdone⟩ := State.reportWords_alu (demandReport r .demandRead op g) (ws.map fun w => (w, word w)) handled
  rw [ht]
  refine ⟨State.eq_of_fields ?_, ?_, ?_, ?_⟩
  · have hfair : handled.aa.fairness = u.aa.fairness := State.handleWords_fairness _ _ _ _ _
    simp [reported, hfair]
    simp [handled, v, body]
  · have hleft : State.freePort (State.answer r body reported) =
        { handled with
          fcu := reported.fcu, alu := reported.alu, aa := { handled.aa with grant := none }
          lli := { handled.lli with queue := handled.lli.queue.map (Slot.answered ⟨r.tag, body⟩).replaceExec } } :=
      State.eq_of_fields (by simp [reported])
    rw [hleft]
    exact (State.handleWords_effects true op.segment op.line word ws v).carried hkeep hdone
  · have hru : (State.freePort (State.answer r body reported)).ru = handled.ru := by simp [reported]
    have hoffers : OffersInOrder op.segment op.line word ws v handled := State.handleWords_offers _ _ _ _ _
    exact hru.trans (hoffers.trans (State.OffersAlike.offers (s := v) (t := u) (.of_eq rfl rfl) _ _ _ _))
  · exact (State.reportWords_reports (demandReport r .demandRead op g) (fun _ _ _ => rfl) word ws (lineWords_filter_ascend _)
      handled).carried (by simp [handled, v]) (by simp [handled, v]) (by simp [reported]) (by simp [reported])

/-! ## What an UNCORRECTABLE word of a read does (R54, R124, R126, R142, R143) -/

section
variable {p : Nat} {word : Nat → StoredWord} {ws : List Nat} {u t : State}

/-- The report of a read with a word that cannot be delivered sets UNCORRECTABLE_SEEN (R53, R175). -/
theorem ReportsLowest.uncorrectableSeen {mk : FaultKind → Nat → FaultReport} (h : ReportsLowest mk word ws u t)
    (hs : ws.Pairwise (· < ·)) (hbad : ∃ w ∈ ws, badClass (word w) ≠ none) : t.alu.isSet .uncorrectableSeen = true := by
  obtain ⟨hfault, -⟩ := h
  obtain ⟨w, hw, hc, hlow⟩ := exists_lowest_bad hs hbad
  obtain ⟨huncorrectable, hpoison⟩ := hfault w hw hlow
  cases hclass : classify (word w) with
  | uncorrectable => exact (huncorrectable hclass).2
  | poison => exact (hpoison hclass).2
  | clean => exact absurd (badClass_of_clean hclass) hc
  | corrected => exact absurd (by simp [badClass, hclass]) hc

/-- A tracked record is in ALARM after an UNCORRECTABLE word: moved there, or there before (R124, R126). -/
theorem HandlesUncorrectable.alarmed (h : HandlesUncorrectable p word ws u t)
    (hmet : ∃ w ∈ ws, classify (word w) = .uncorrectable) (htracked : (u.health p).tracked = true) :
    ∃ reason, (t.health p).state = .alarm reason := by
  obtain ⟨-, -, hmoved, hkept, -⟩ := h
  by_cases hjudged : (u.health p).state = .untracked ∨ ∃ reason, (u.health p).state = .alarm reason
  · have hrec := congrArg HealthRecord.state (hkept (.inr hjudged))
    rcases hjudged with hun | ⟨reason, hreason⟩
    · simp [HealthRecord.tracked, hun] at htracked
    · exact ⟨reason, hrec.trans hreason⟩
  · exact ⟨.uncorrectable, congrArg HealthRecord.state (hmoved hmet hjudged).2⟩

end

end Sys2Proof.Machine

open Sys2Proof Sys2Proof.Machine

/-- Settles O22: the completed READ's effects and report, and its response by the classes of its words. -/
theorem readIsAnsweredByItsWords : Obligations.ReadIsAnsweredByItsWords := by
  intro r g d op flips s u hs hg hreq hdel hx array word ws answered
  rw [exec_demandReadComplete flips hs hg hreq hdel hx]
  have hascend : ws.Pairwise (· < ·) := lineWords_filter_ascend r.names
  obtain ⟨hframe, ⟨hcounts, hmet, hcal, hdone, hpatrol, hretire⟩, hoffers, hreport⟩ := State.finishRead_spec r g op u array
  have hqueue := congrArg (fun x => x.lli.queue) hframe
  refine ⟨fun hclean => congrArg _ (State.finishRead_of_clean r g op u array hclean), _, rfl, ?_, ?_, ?_, hcounts, hmet, hcal, hdone,
    hpatrol, hretire, hoffers, hreport⟩
  · rw [hqueue]
    exact hframe
  · intro hall hsome
    exact hqueue.trans (congrArg answered (readBody_of_corrected hall hsome))
  · intro w hw c hc hlow
    exact hqueue.trans (congrArg answered (readBody_of_bad hascend hw hc hlow))

/-- Settles O23: the effects of a READ with an UNCORRECTABLE word, by whether its segment's record is in BASELINE and is the last of a CALIBRATE. -/
theorem uncorrectableWordsAreReported : Obligations.UncorrectableWordsAreReported := by
  intro r g d op flips s u hs hg hreq hdel hx array word ws old held offered ends
  obtain ⟨-, ⟨-, hmet, ⟨-, hcalSame, hcalCounted, hcalEnds, -⟩, ⟨hdone, hmpSame⟩, ⟨-, hseSame⟩, hretire, -⟩, -, hreport⟩ :=
    State.finishRead_spec r g op u array
  have halarmed := hmet.alarmed
  obtain ⟨hstarts, hkeeps, hmoved, -, -⟩ := hmet
  refine ⟨_, exec_demandReadComplete flips hs hg hreq hdel hx, fun hunc => ?_, fun hnone => hkeeps ?_⟩
  · have hhold := hstarts hunc
    refine ⟨hhold, halarmed hunc, fun huntracked hnoalarm => ?_, fun left hleft => ?_, fun hnoleft => ?_, ?_⟩
    · have hopen : ¬((u.health op.segment).state = .untracked ∨ ∃ reason, (u.health op.segment).state = .alarm reason) := by
        rintro (h | ⟨reason, h⟩)
        · exact huntracked h
        · exact hnoalarm reason h
      obtain ⟨halarm, hrec⟩ := hmoved hunc hopen
      obtain ⟨hme, hrc, hspare⟩ := hretire hunc hopen
      rw [hhold] at hme hrc hspare
      exact ⟨hrec, halarm, hme, hrc, hspare⟩
    · have hleaves : LeavesBaseline op.segment word ws u := ⟨hunc, left, hleft⟩
      by_cases hends : ends
      · have hendsCal : EndsCalibration op.segment word ws u := ⟨hleaves, hends⟩
        obtain ⟨hcal, htimer⟩ := hcalEnds hendsCal
        obtain ⟨hset, hmp⟩ := hdone hendsCal
        refine ⟨?_, fun _ => ⟨hset, hmp, htimer⟩, fun h => absurd hends h⟩
        rw [if_pos hends]
        exact hcal
      · have hstays : ¬EndsCalibration op.segment word ws u := fun h => hends h.2
        refine ⟨?_, fun h => absurd h hends, fun _ => ⟨(hmpSame hstays).1, hseSame hstays⟩⟩
        rw [if_neg hends]
        exact hcalCounted hleaves hstays
    · have hstays : ¬LeavesBaseline op.segment word ws u := fun ⟨_, left, hleft⟩ => hnoleft left hleft
      have hnotEnds : ¬EndsCalibration op.segment word ws u := fun h => hstays h.1
      exact ⟨hcalSame hstays, (hmpSame hnotEnds).1, hseSame hnotEnds⟩
    · obtain ⟨w, hw, hc⟩ := hunc
      exact hreport.uncorrectableSeen (lineWords_filter_ascend r.names) ⟨w, hw, ne_of_eq_of_ne (badClass_of_uncorrectable hc) (by simp)⟩
  · rintro ⟨w, hw, hc⟩
    exact hnone w hw hc

end

-- ==== Proofs: DemandWrite ====
section
/-! SUPPORT. The LINE_WRITE of a demand operation and its dual write, as they complete (R55, R58, R59, R72). -/

namespace Sys2Proof.Machine

section
variable {r : Request} {store : LineStore} {failed : Option (Nat × BadClass)} {g : Nat} {d : Option Nat} {op : PortOp}
  {ws : List (Option StoredWord)} {s u : State}
  (hs : s.settle = u) (hg : u.aa.grant = some op) (hreq : op.requester = .demand) (hdel : op.deliver = true)
  (hw : op.write = some ws)
include hs hg hreq hdel hw

/-- A source write's completion finishes it on the line written. -/
theorem exec_demandWriteComplete (hx : u.executing = some (r, .write store failed, .outstanding g d)) :
    exec .demandWriteComplete s = .next (State.finishWrite r store failed g d op
      { u with array := Memory.storeLine u.array op.segment op.line ws }) := by
  rw [exec_eq, show effect .demandWriteComplete (found .demandWriteComplete s) = u.completeWrite from by rw [← hs]; rfl]
  simp only [State.completeWrite, State.delivered_of hg hreq hdel, hx, State.storeLine_eq hw]

/-- A dual write's completion forms the response. -/
theorem exec_dualWriteComplete (hx : u.executing = some (r, .dual failed, .outstanding g d)) :
    exec .dualWriteComplete s = .next (State.freePort (State.answer r (writeBody failed)
      { u with array := Memory.storeLine u.array op.segment op.line ws })) := by
  rw [exec_eq, show effect .dualWriteComplete (found .dualWriteComplete s) = u.completeDual from by rw [← hs]; rfl]
  simp only [State.completeDual, State.delivered_of hg hreq hdel, hx, State.storeLine_eq hw]

end

/-- No dual write was to come. -/
theorem State.dualStillDue_none (s : State) : s.dualStillDue none = none := rfl

/-- The migration it was issued for has ended, or has another target (R59). -/
theorem State.dualStillDue_ended {s : State} {t : Nat} (h : ∀ i e, s.copying = some (i, e) → e.target ≠ t) :
    s.dualStillDue (some t) = none := by
  cases hc : s.copying with
  | none => simp [State.dualStillDue, hc]
  | some x => simpa [State.dualStillDue, hc] using h x.1 x.2 hc

/-- The migration it was issued for still runs (R59). -/
theorem State.dualStillDue_running {s : State} {i : Nat} {e : CopyingEntry} (h : s.copying = some (i, e)) :
    s.dualStillDue (some e.target) = some e.target := by
  simp [State.dualStillDue, h]

/-- A source write after which no dual write is due answers its request (R55, R58). -/
theorem State.finishWrite_answers {r : Request} {store : LineStore} {failed : Option (Nat × BadClass)} {g : Nat} {d : Option Nat}
    {op : PortOp} {s : State} (h : s.dualStillDue d = none) :
    State.finishWrite r store failed g d op s = State.freePort (State.answer r (writeBody failed) s) := by
  rw [State.finishWrite, h]

/-- A source write after which one is due issues it (R59, R72). -/
theorem State.finishWrite_issues {r : Request} {store : LineStore} {failed : Option (Nat × BadClass)} {g : Nat} {d : Option Nat}
    {op : PortOp} {s : State} {t : Nat} (h : s.dualStillDue d = some t) :
    State.finishWrite r store failed g d op s = State.issueDual r store failed g t op.line s := by
  rw [State.finishWrite, h]

end Sys2Proof.Machine

open Sys2Proof Sys2Proof.Machine

/-- Settles O25, by whether a dual write was to come and, if so, whether its migration still runs. -/
theorem writesAreCarriedToTheTarget : Obligations.WritesAreCarriedToTheTarget := by
  intro r store failed g d op ws s u hs hg hreq hdel hw array body done
  let written : State := { u with array := array }
  have hdone : Host.Outcome.next (State.freePort (State.answer r (writeBody failed) written)) = done := by
    cases failed <;> rfl
  have hanswers : u.executing = some (r, .write store failed, .outstanding g d) → written.dualStillDue d = none →
      exec .demandWriteComplete s = done := fun hx hdue => by
    rw [exec_demandWriteComplete hs hg hreq hdel hw hx, State.finishWrite_answers hdue]
    exact hdone
  refine ⟨fun hx hd => ?_, fun t hx hd hended => ?_, fun t i e hx hd hcopying htarget => ?_, fun hx => ?_⟩
  · exact hanswers hx (by rw [hd]; exact written.dualStillDue_none)
  · exact hanswers hx (by rw [hd]; exact State.dualStillDue_ended hended)
  · subst hd htarget
    have hdue : written.dualStillDue (some e.target) = some e.target := State.dualStillDue_running hcopying
    rw [exec_demandWriteComplete hs hg hreq hdel hw hx, State.finishWrite_issues hdue]
    exact ⟨_, _, rfl, rfl, rfl, rfl, rfl⟩
  · rw [exec_dualWriteComplete hs hg hreq hdel hw hx]
    exact hdone

end

-- ==== Proofs: FillStart ====
section
/-! SUPPORT. The command FILL: its checks in order, and the first segment under fill (R61, R62, R91, R95 to R97). -/

namespace Sys2Proof.Machine

/-! ## The range and the checks (R96) -/

section
variable {s : State} {f n : Nat}

/-- A count `n` of segments from `f` on, where 0 reaches L. -/
theorem State.rangeEnd_eq (c : BitVec 16) (h : f ≤ s.numL) :
    s.rangeEnd f c.toNat = f + (if c = 0 then s.numL - f else c.toNat) := by
  by_cases hc : c = 0
  · subst hc
    simp [State.rangeEnd, Nat.add_sub_cancel' h]
  · have hpos : c.toNat ≠ 0 := fun h0 => hc (BitVec.eq_of_toNat_eq h0)
    rw [State.rangeEnd, if_neg hpos, if_neg hc]

/-- An entry is COPYING for a logical segment of the range. -/
theorem State.copying_inRange_iff (s : State) (f last : Nat) :
    (s.rc.remap.any fun x => match x.copying? with
      | some c => f ≤ c.logical && c.logical < last
      | none => false) = true ↔ ∃ e, RemapEntry.copying e ∈ s.rc.remap ∧ f ≤ e.logical ∧ e.logical < last := by
  rw [List.any_eq_true]
  constructor
  · rintro ⟨x, hx, hin⟩
    cases x with
    | copying e => exact ⟨e, hx, by simpa [RemapEntry.copying?] using hin⟩
    | _ => cases hin
  · rintro ⟨e, he, hin⟩
    exact ⟨_, he, by simpa [RemapEntry.copying?] using hin⟩

theorem State.checkFill_offline (h : s.mode ≠ .online) : s.checkFill f n = some .notOnline := by
  simp [State.checkFill, h]

theorem State.checkFill_badRange (h : s.mode = .online) (hrange : s.numL ≤ f ∨ s.numL < s.rangeEnd f n) :
    s.checkFill f n = some .badParameter := by
  simp [State.checkFill, h, hrange]

theorem State.checkFill_copying (h : s.mode = .online) (hrange : ¬(s.numL ≤ f ∨ s.numL < s.rangeEnd f n))
    (hcopying : ∃ e, RemapEntry.copying e ∈ s.rc.remap ∧ f ≤ e.logical ∧ e.logical < s.rangeEnd f n) :
    s.checkFill f n = some .segmentBusy := by
  unfold State.checkFill
  rw [if_neg (by simp [h]), if_neg hrange]
  exact if_pos ((s.copying_inRange_iff f _).mpr hcopying)

theorem State.checkFill_starts (h : s.mode = .online) (hrange : ¬(s.numL ≤ f ∨ s.numL < s.rangeEnd f n))
    (hcopying : ¬∃ e, RemapEntry.copying e ∈ s.rc.remap ∧ f ≤ e.logical ∧ e.logical < s.rangeEnd f n) :
    s.checkFill f n = none := by
  unfold State.checkFill
  rw [if_neg (by simp [h]), if_neg hrange]
  exact if_neg (mt (s.copying_inRange_iff f _).mp hcopying)

end

section
variable {s : State}

theorem State.takeFill_refused {o : CmdOutcome} (h : s.checkFill s.mp.param0.toNat s.mp.param1.toNat = some o) :
    s.takeFill = State.leaveResults noResults (State.answerLong 0x10 o s) := by
  rw [State.takeFill, h]

theorem State.takeFill_starts (h : s.checkFill s.mp.param0.toNat s.mp.param1.toNat = none) :
    s.takeFill = State.startFill s.mp.param0.toNat s.mp.param1.toNat s := by
  rw [State.takeFill, h]

end

/-! ## The start (R91, R95, R97) -/

/-- While a FILL or VERIFY runs a RAISED patrol read is withdrawn (R91, R95). -/
theorem State.recheckPatrol_suspended {s : State} (h : s.inPatrol = false) : s.recheckPatrol =
    { s with se := { s.se with patrolPending := if s.se.patrolPending = .raised then .none else s.se.patrolPending } } := by
  have hinactive : s.patrolActive = false := by simp [State.patrolActive, h]
  unfold State.recheckPatrol
  rw [hinactive]
  by_cases hraised : s.se.patrolPending = .raised <;> simp [hraised]

section
variable {s : State} {f n : Nat}

/-- Behind an outstanding patrol read the FILL waits, with no segment under fill. -/
theorem State.startFill_waits (h : s.se.patrolPending = .outstanding) : State.startFill f n s =
    { State.startLong 0x10 s with se := { s.se with mode := .fill ⟨f, s.rangeEnd f n - 1, 0, none, .none⟩ } } := by
  simp only [State.startFill]
  rw [State.recheckPatrol_suspended rfl]
  simp [h, State.startLong, State.rangeEnd, State.numL]

/-- The FILL with its first segment under fill, before the hold is tested again. -/
def State.fillStarted (f n : Nat) (s : State) : State :=
  { State.startLong 0x10 s with se := { s.se with
    mode := .fill ⟨f, s.rangeEnd f n - 1, 0, some ⟨f, s.physOf f, 0⟩, .raised⟩
    patrolPending := .none } }

/-- With none outstanding the first segment is under fill at once. -/
theorem State.startFill_starts (h : s.se.patrolPending ≠ .outstanding) :
    State.startFill f n s = (s.fillStarted f n).retestHold := by
  have hnone : (if s.se.patrolPending = .raised then .none else s.se.patrolPending) = OpStep.none := by
    cases hp : s.se.patrolPending with
    | outstanding => exact absurd hp h
    | _ => rfl
  simp only [State.startFill]
  rw [State.recheckPatrol_suspended rfl]
  simp only [State.startLong_fields, hnone]
  rfl

end

/-- The EXECUTING slot that takes an EXECUTING one's place is the one found. -/
theorem findSome_replaceExec {r : Request} {ph : DemandPhase} {step : DemandStep} {q : List Slot} (h : q.findSome? Slot.exec? ≠ none) :
    (q.map (Slot.executing r ph step).replaceExec).findSome? Slot.exec? = some (r, ph, step) := by
  induction q with
  | nil => exact (h rfl).elim
  | cons x rest ih =>
    cases x with
    | executing r' ph' step' => rfl
    | waiting r' => exact ih h
    | answered resp => exact ih h

theorem State.putExec_executing {s : State} {r : Request} {ph : DemandPhase} {step : DemandStep} (h : s.executing ≠ none) :
    (State.putExec (.executing r ph step) s).executing = some (r, ph, step) := findSome_replaceExec h

end Sys2Proof.Machine

open Sys2Proof Sys2Proof.Machine

/-- Settles O42, by R96's conditions in their order and, for a FILL that starts, by whether a patrol read is outstanding. -/
theorem fillIsCheckedAndStarts : Obligations.FillIsCheckedAndStarts := by
  intro s u hs hbusy hinit f L n inRange copying refused
  have htaken : exec .fill s = .next (State.takeFill u.clearRefusal) := exec_taken rfl hs hinit hbusy
  have hrefused : ∀ o, u.checkFill f u.mp.param1.toNat = some o → exec .fill s = refused o := by
    intro o ho
    rw [htaken, State.takeFill_refused (s := u.clearRefusal) ho]
    refine congrArg _ (State.eq_of_fields ?_)
    simp [AlertUnit.set_commandDone, noResults, hbusy]
  have hbound : f < L → u.rangeEnd f u.mp.param1.toNat = f + n := fun h => State.rangeEnd_eq _ (Nat.le_of_lt h)
  have hrange : (u.numL ≤ f ∨ u.numL < u.rangeEnd f u.mp.param1.toNat) ↔ ¬inRange := by
    by_cases h : f < L
    · rw [hbound h]
      simp only [inRange, L] at *
      omega
    · simp only [inRange, L] at *
      omega
  have hcopying : inRange → ((∃ e, RemapEntry.copying e ∈ u.rc.remap ∧ f ≤ e.logical ∧
      e.logical < u.rangeEnd f u.mp.param1.toNat) ↔ copying) := fun h => by rw [hbound h.1]
  refine ⟨fun hmode => hrefused _ (State.checkFill_offline hmode),
    fun hmode h => hrefused _ (State.checkFill_badRange hmode (hrange.mpr h)),
    fun hmode h hc => hrefused _ (State.checkFill_copying hmode (fun h' => hrange.mp h' h) ((hcopying h).mpr hc)),
    fun hmode h hc => ?_⟩
  have hcheck : u.checkFill f u.mp.param1.toNat = none :=
    State.checkFill_starts hmode (fun h' => hrange.mp h' h) (mt (hcopying h).mp hc)
  have hstart : exec .fill s = .next (State.startFill f u.mp.param1.toNat u.clearRefusal) :=
    htaken.trans (congrArg _ (State.takeFill_starts (s := u.clearRefusal) hcheck))
  have hlast : u.clearRefusal.rangeEnd f u.mp.param1.toNat = f + n := hbound h.1
  by_cases hp : u.se.patrolPending = .outstanding
  · rw [hstart, State.startFill_waits (s := u.clearRefusal) hp, hlast]
    exact ⟨_, rfl, rfl, rfl, rfl, rfl, rfl, fun _ => ⟨rfl, hp, rfl⟩, fun h => absurd hp h⟩
  · let started := u.clearRefusal.fillStarted f u.mp.param1.toNat
    have htranslate : started.translate = u.translate := State.translate_congr rfl rfl
    have hfill : started.underFill = some f := rfl
    have hse : started.retestHold.se = { u.se with
        mode := .fill ⟨f, f + n - 1, 0, some ⟨f, u.physOf f, 0⟩, .raised⟩, patrolPending := .none } := by
      have hkept : started.retestHold.se = started.se := by simp
      rw [hkept, ← hlast]
      rfl
    refine ⟨started.retestHold, hstart.trans (congrArg _ (State.startFill_starts hp)), State.eq_of_fields ?_, ?_, by rw [hse],
      by rw [hse], by rw [hse], fun h => absurd h hp,
      fun _ => ⟨by rw [hse], by rw [hse], State.retestHold_retests (v := started) rfl htranslate hfill rfl, ?_⟩⟩
    · simp [started, State.fillStarted]
    · simp [started, State.fillStarted]
    · intro r ph hx htr
      have hx' : started.executing = some (r, ph, .raised) := hx
      have hheld : started.holdTest r = .held := (started.holdTest_held r).mpr ⟨f, by rw [htranslate]; exact htr, hfill⟩
      rw [State.retestHold_of_waiting started hx' (.inr rfl), hheld]
      exact State.putExec_executing (by simp [hx'])

end

-- ==== Proofs: CommandsAnswered ====
section
/-! SUPPORT. Every command is answered and leaves the queue of commands (log entries 20, 25). -/

namespace Sys2Proof.Machine

@[simp] theorem State.takeCommand_pending {code : Byte} {body : State → State} {s : State}
    (h : ∀ t, (body t).pending = t.pending) : (State.takeCommand code body s).pending = s.pending :=
  State.takeCommand_keeps State.pending code body s rfl rfl h

/-- A power-on reset leaves the queue of commands to its sender (log entry 9). -/
@[simp] theorem State.powerOn_pending (asel : BitVec 2) (kept : Byte) (s : State) : (s.powerOn asel kept).pending = s.pending := rfl

@[simp] theorem State.leaveInit_pending (s : State) : s.leaveInit.pending = s.pending := by
  unfold State.leaveInit
  split <;> rfl

/-- The internal events due touch no command. -/
theorem found_pending (c : Instr) (s : State) : (found c s).pending = s.pending := by
  cases c <;> simp [found]

/-- No command's effect touches the commands behind it. -/
theorem effect_pending (c : Instr) (s : State) : (effect c s).pending = s.pending := by
  cases c <;> simp [effect]

end Sys2Proof.Machine

open Sys2Proof Sys2Proof.Machine

/-- Settles O3: a command's answer is its effect on the state its event finds. -/
theorem everyCommandIsAnswered : Obligations.EveryCommandIsAnswered := by
  intro c s
  refine ⟨effect c (found c s), exec_eq c s, ?_⟩
  rw [effect_pending, found_pending]

end


-- ==== Proofs: Settling ====
section
/-! SUPPORT. The internal events due, one by one: what leaves a request, a start, a grant or a QUIESCE due, and that none is due after settling (log entries 3, 4). -/

namespace Sys2Proof.Machine

/-! ## No request is due to begin (R48) -/

/-- In ONLINE, with none executing, every request has been answered. -/
def State.NoRequestDue (s : State) : Prop :=
  s.mode = .online → s.executing = none → ∀ x ∈ s.lli.queue, ∃ resp, x = .answered resp

theorem State.NoRequestDue.congr {s t : State} (h : s.NoRequestDue) (hmode : t.mode = s.mode) (hlli : t.lli = s.lli) :
    t.NoRequestDue := by
  unfold State.NoRequestDue State.executing at *
  rwa [hmode, hlli]

/-- With none due, none begins. -/
theorem State.beginRequests_of_noRequestDue {s : State} (h : s.NoRequestDue) : s.beginRequests = s := by
  unfold State.beginRequests
  split_ifs with hidle
  · obtain ⟨hmode, hnone⟩ := hidle
    rw [beginDue_answered _ _ (h hmode (by simpa using hnone))]
  · rfl

/-- A request that begins is WAITING no more. -/
theorem State.beginSlot_ne_waiting (s : State) (r r' : Request) : s.beginSlot r ≠ .waiting r' := by
  unfold State.beginSlot
  split_ifs <;> simp

/-- Where the requests that begin leave none executing, all have been answered. -/
theorem beginDue_all_answered {f : Request → Slot} (hf : ∀ r r', f r ≠ .waiting r') {q : List Slot}
    (h : (beginDue f q).findSome? Slot.exec? = none) : ∀ x ∈ beginDue f q, ∃ resp, x = .answered resp := by
  induction q with
  | nil => exact fun x hx => nomatch hx
  | cons x rest ih =>
    cases x with
    | executing r ph step => simp [beginDue, Slot.exec?] at h
    | answered resp => exact List.forall_mem_cons.mpr ⟨⟨resp, rfl⟩, ih h⟩
    | waiting r =>
      cases hr : f r with
      | waiting r' => exact absurd hr (hf r r')
      | executing r' ph step => simp [beginDue, hr, Slot.exec?] at h
      | answered resp =>
        simp only [beginDue, hr] at h ⊢
        exact List.forall_mem_cons.mpr ⟨⟨resp, rfl⟩, ih h⟩

/-- After requests have begun none is due. -/
theorem State.beginRequests_noRequestDue (s : State) : s.beginRequests.NoRequestDue := by
  intro hmode hnone
  by_cases hexec : s.executing = none
  · have hbegun : s.beginRequests = { s with lli := { s.lli with queue := beginDue s.beginSlot s.lli.queue } } :=
      if_pos ⟨by simpa using hmode, by simp [hexec]⟩
    rw [hbegun] at hnone ⊢
    exact beginDue_all_answered s.beginSlot_ne_waiting hnone
  · rw [State.beginRequests_executing s hexec] at hnone
    exact absurd hnone hexec

/-! ## The arbiter's turns (R70) -/

/-- DEMAND is raised for a dual write, which is issued at its source write's completion and takes no grant of its own (R59, R72). -/
def State.DualRaised (s : State) : Prop :=
  ∃ r failed g, s.executing = some (r, .dual failed, .raised) ∧ s.translate r.cls r.address = some g

theorem State.grantDemand_dual {s : State} (h : s.DualRaised) : s.grantDemand = s := by
  obtain ⟨r, failed, g, hx, ht⟩ := h
  rw [State.grantDemand_translated hx ht]
  rfl

/-- DEMAND, once chosen, has its request at the raised step. -/
theorem State.executing_raised {s : State} (h : s.choice = some .demand) : ∃ r ph, s.executing = some (r, ph, .raised) := by
  have hraised : s.demandRaised = true := by
    by_contra hd
    have hbackground : s.backgroundChoice ≠ some .demand := by
      unfold State.backgroundChoice
      split_ifs <;> simp
    rw [State.choice, if_neg hd] at h
    exact hbackground h
  unfold State.demandRaised at hraised
  split at hraised
  next r ph hx => exact ⟨r, ph, hx⟩
  all_goals cases hraised

/-- With DEMAND not chosen the choice is the background's. -/
theorem State.choice_eq_background {s : State} (h : s.choice ≠ some .demand) : s.choice = s.backgroundChoice := by
  unfold State.choice at h ⊢
  split_ifs at h ⊢
  · rfl
  · exact absurd rfl h
  · rfl

theorem State.chooseFrom_background {s : State} (n : Nat) (h : s.choice ≠ some .demand) :
    State.chooseFrom (n + 1) s = s.grantBackground := by
  have hchoice := State.choice_eq_background h
  rw [State.chooseFrom_turn, State.grantBackground, ← hchoice]
  cases hc : s.choice with
  | none => rfl
  | some q =>
    cases q with
    | demand => exact absurd hc h
    | _ => rfl

/-- A DEMAND that takes no grant leaves the port to the others. -/
theorem State.chooseFrom_dual {s : State} (n : Nat) (hfree : s.aa.grant = none) (hc : s.choice = some .demand) (h : s.DualRaised) :
    State.chooseFrom n s = s.grantBackground := by
  induction n with
  | zero => rfl
  | succ n ih =>
    have hbusy := s.executing_of_choice hc
    rw [State.chooseFrom_turn, hc]
    simp only [State.grantDemand_dual h, hfree, State.beginRequests_executing s hbusy, ih]

/-- An answer leaves fewer slots to answer. -/
theorem State.answerNoaddr_fewer {s : State} {r : Request} {ph : DemandPhase} (hx : s.executing = some (r, ph, .raised)) :
    unanswered (s.answerNoaddr r).beginRequests.lli.queue < unanswered s.lli.queue := by
  have hcount := replaceExec_unanswered ⟨r.tag, .noaddr⟩ s.lli.queue
  have hexec : (s.lli.queue.findSome? Slot.exec?).isSome = true := Option.isSome_of_eq_some hx
  rw [if_pos hexec] at hcount
  refine Nat.lt_of_le_of_lt (s.answerNoaddr r).beginRequests_eq.2.2 ?_
  rw [State.answerNoaddr_eq]
  exact hcount

theorem State.answerNoaddr_beginRequests_aa (r : Request) (s : State) : (s.answerNoaddr r).beginRequests.aa = s.aa := by
  rw [(s.answerNoaddr r).beginRequests_eq.1]
  rfl

/-- What the arbiter's choice at a FREE port comes to: requests that end NOADDR are answered (`P` holds throughout), and then a DEMAND operation is issued or the
port is the background's (`Q` holds of both). -/
theorem State.arrayGrant_holds {P Q : State → Prop} (hfree : ∀ s, P s → s.aa.grant = none)
    (hanswer : ∀ s r ph, P s → s.executing = some (r, ph, .raised) → P (s.answerNoaddr r).beginRequests)
    (hissue : ∀ s r ph g, P s → s.executing = some (r, ph, .raised) → (State.issueDemand r ph g s).aa.grant ≠ none →
      Q (State.issueDemand r ph g s))
    (hbackground : ∀ s, P s → (s.choice = some .demand → s.DualRaised) → Q s.grantBackground) {s : State} (hs : P s) :
    Q s.arrayGrant := by
  suffices h : ∀ n s, P s → unanswered s.lli.queue < n → Q (State.chooseFrom n s) by
    have hle := unanswered_le s.lli.queue
    have := h (s.lli.queue.length + 1) s hs (by omega)
    simpa only [State.arrayGrant, hfree s hs] using this
  intro n
  induction n with
  | zero => exact fun s _ h => absurd h (by omega)
  | succ n ih =>
    intro s hs hn
    by_cases hc : s.choice = some .demand
    · obtain ⟨r, ph, hx⟩ := State.executing_raised hc
      cases ht : s.translate r.cls r.address with
      | none =>
        have hgrant : (s.answerNoaddr r).aa.grant = none := hfree s hs
        have hturn : State.chooseFrom (n + 1) s = State.chooseFrom n (s.answerNoaddr r).beginRequests := by
          simp only [State.chooseFrom_turn, hc, State.grantDemand_noaddr hx ht, hgrant]
        rw [hturn]
        exact ih _ (hanswer s r ph hs hx) (by have := State.answerNoaddr_fewer hx; omega)
      | some g =>
        by_cases hdual : ∃ failed, ph = .dual failed
        · obtain ⟨failed, rfl⟩ := hdual
          have hraised : s.DualRaised := ⟨r, failed, g, hx, ht⟩
          rw [State.chooseFrom_dual _ (hfree s hs) hc hraised]
          exact hbackground s hs fun _ => hraised
        · obtain ⟨op, hop⟩ : ∃ op, (State.issueDemand r ph g s).aa.grant = some op := by
            cases ph with
            | dual failed => exact absurd ⟨failed, rfl⟩ hdual
            | _ => exact ⟨_, rfl⟩
          have hturn : State.chooseFrom (n + 1) s = State.issueDemand r ph g s := by
            simp only [State.chooseFrom_turn, hc, State.grantDemand_translated hx ht, hop]
          rw [hturn]
          exact hissue s r ph g hs hx (by simp [hop])
    · rw [State.chooseFrom_background n hc]
      exact hbackground s hs fun h => absurd h hc

/-- At a BUSY port the arbiter grants nothing. -/
theorem State.arrayGrant_busy {s : State} (h : s.aa.grant ≠ none) : s.arrayGrant = s := by
  obtain ⟨op, hop⟩ := Option.ne_none_iff_exists'.mp h
  simp only [State.arrayGrant, hop]

/-- What an issue and a background grant keep, and answers keep, the arbiter's choice keeps. -/
theorem State.arrayGrant_keeps_of {P : State → Prop}
    (hanswer : ∀ s r ph, P s → s.executing = some (r, ph, .raised) → P (s.answerNoaddr r).beginRequests)
    (hissue : ∀ s r ph g, P s → s.executing = some (r, ph, .raised) → P (State.issueDemand r ph g s))
    (hbackground : ∀ s, P s → P s.grantBackground) {s : State} (hs : P s) : P s.arrayGrant := by
  by_cases hfree : s.aa.grant = none
  · refine State.arrayGrant_holds (P := fun s => s.aa.grant = none ∧ P s) (fun s h => h.1) ?_ ?_ ?_ ⟨hfree, hs⟩
    · rintro s r ph ⟨hnone, h⟩ hx
      refine ⟨?_, hanswer s r ph h hx⟩
      rwa [State.answerNoaddr_beginRequests_aa]
    · exact fun s r ph g h hx _ => hissue s r ph g h.2 hx
    · exact fun s h _ => hbackground s h.2
  · rwa [State.arrayGrant_busy hfree]


/-! ## What no migration start being due depends on (R150, R151) -/

/-- What the start test looks at is the same. -/
structure State.SameStart (s t : State) : Prop where
  mode : t.mode = s.mode
  idle : t.me.state = .idle ↔ s.me.state = .idle
  quiesced : t.me.quiesced = s.me.quiesced
  queue : t.me.queue = s.me.queue
  fill : t.inRemainingFill = s.inRemainingFill
  rc : t.rc = s.rc
  holdOff : t.aa.holdOff = s.aa.holdOff

theorem State.SameStart.trans {s t u : State} (h : s.SameStart t) (h' : t.SameStart u) : s.SameStart u :=
  ⟨h'.mode.trans h.mode, h'.idle.trans h.idle, h'.quiesced.trans h.quiesced, h'.queue.trans h.queue, h'.fill.trans h.fill,
    h'.rc.trans h.rc, h'.holdOff.trans h.holdOff⟩

theorem State.inRemainingFill_congr {s t : State} (h : t.se = s.se) : t.inRemainingFill = s.inRemainingFill := by
  funext g
  unfold State.inRemainingFill
  rw [h]

theorem State.SameStart.of_eq {s t : State} (hmode : t.mode = s.mode) (hme : t.me = s.me) (hse : t.se = s.se) (hrc : t.rc = s.rc)
    (hhold : t.aa.holdOff = s.aa.holdOff) : s.SameStart t :=
  ⟨hmode, by rw [hme], by rw [hme], by rw [hme], State.inRemainingFill_congr hse, hrc, hhold⟩

theorem State.SameStart.noStartDue {s t : State} (h : s.SameStart t) (hnone : s.NoStartDue) : t.NoStartDue := by
  have hmay : t.mayStart = true → s.mayStart = true := by
    rw [State.mayStart_iff, State.mayStart_iff, h.mode, h.idle, h.quiesced, h.holdOff]
    exact id
  have hlooked := fun hm => hnone (hmay hm)
  unfold State.NoStartDue State.lowestSpare State.startEntry State.entryIndex State.entryAt at *
  rw [h.queue, h.fill, h.rc]
  exact hlooked

theorem beginRequests_sameStart (s : State) : s.SameStart s.beginRequests :=
  .of_eq (by simp) (by simp) (by simp) (by simp) (by simp)

/-- A redo mark leaves the engine where it is. -/
theorem markRedo_sameStart (p n : Nat) (s : State) : s.SameStart (State.markRedo p n s) := by
  obtain ⟨hqueue, -, hquiesced⟩ := State.markRedo_me p n s
  exact ⟨by simp, (markRedo_sameMoves p n s).idle, hquiesced, hqueue, State.inRemainingFill_congr (by simp), by simp, by simp⟩

theorem issueDemand_sameStart (r : Request) (ph : DemandPhase) (g : Nat) (s : State) : s.SameStart (State.issueDemand r ph g s) := by
  cases ph with
  | write st failed =>
    refine State.SameStart.trans ?_ (State.SameStart.trans (markRedo_sameStart (s.physOf g) (requestLine r.address) _)
      (.of_eq rfl rfl rfl rfl rfl))
    exact .of_eq (by simp) (by simp) (by simp) (by simp) (by simp)
  | _ => exact .of_eq rfl rfl rfl rfl rfl

theorem grantMigration_sameStart (s : State) : s.SameStart s.grantMigration := by
  have hidle := (grantMigration_sameMoves s).idle
  refine ⟨by simp, hidle, ?_, ?_, State.inRemainingFill_congr (by simp), by simp, ?_⟩
  all_goals
    unfold State.grantMigration
    repeat' split
    all_goals rfl

/-- A grant to SWEEP leaves a FILL at its position. -/
theorem grantSweep_sameStart (s : State) : s.SameStart s.grantSweep := by
  refine ⟨by simp, (grantSweep_sameMoves s).idle, by simp, by simp, ?_, by simp, ?_⟩
  · funext g
    unfold State.grantSweep
    split_ifs
    · rfl
    · split
      · rfl
      all_goals
        next hmode =>
          split
          · simp [State.inRemainingFill, hmode]
          · rfl
  · unfold State.grantSweep
    repeat' split
    all_goals rfl

theorem grantRepair_sameStart (s : State) : s.SameStart s.grantRepair := by
  unfold State.grantRepair
  split <;> exact .of_eq rfl rfl rfl rfl rfl

theorem grantBackground_sameStart (s : State) : s.SameStart s.grantBackground := by
  unfold State.grantBackground
  split
  · exact grantRepair_sameStart s
  · exact grantMigration_sameStart s
  · exact grantSweep_sameStart s
  all_goals exact .of_eq rfl rfl rfl rfl rfl

theorem arrayGrant_sameStart (s : State) : s.SameStart s.arrayGrant :=
  State.arrayGrant_keeps_of (P := s.SameStart)
    (fun t r _ h _ => h.trans (.trans (.of_eq (t := t.answerNoaddr r) rfl rfl rfl rfl rfl) (beginRequests_sameStart _)))
    (fun t r ph g h _ => h.trans (issueDemand_sameStart r ph g t)) (fun t h => h.trans (grantBackground_sameStart t))
    (.of_eq rfl rfl rfl rfl rfl)

/-! ## What a completing QUIESCE leaves (R166) -/

/-- QUIESCE_COMPLETE writes the Maintenance Port and the Alarm Unit alone. -/
theorem State.quiesceComplete_eq (s : State) :
    s.quiesceComplete = { s with mp := s.quiesceComplete.mp, alu := s.quiesceComplete.alu } := by
  unfold State.quiesceComplete
  split_ifs <;> rfl

/-- A QUIESCE that completes does not wait any more. -/
theorem State.quiesceComplete_twice (s : State) : s.quiesceComplete.quiesceComplete = s.quiesceComplete := by
  by_cases h : (s.running 0x22 && s.quiet) = true
  · rw [show s.quiesceComplete = State.completeLong .ok s from if_pos h]
    rfl
  · have hid : s.quiesceComplete = s := if_neg h
    rw [hid, hid]

theorem quiesceComplete_sameStart (s : State) : s.SameStart s.quiesceComplete :=
  .of_eq (by simp) (by simp) (by simp) (by simp) (by simp)

/-! ## No grant is due (R70) -/

/-- At a FREE port the arbiter has nothing to issue: none of the others is granted, and DEMAND at most for a dual write. -/
def State.NoGrantDue (s : State) : Prop :=
  s.aa.grant = none → s.grantBackground = s ∧ (s.choice = some .demand → s.DualRaised)

/-- With none due, the arbiter issues nothing. -/
theorem State.arrayGrant_of_noGrantDue {s : State} (h : s.NoGrantDue) : s.arrayGrant = s := by
  by_cases hfree : s.aa.grant = none
  · obtain ⟨hback, hdual⟩ := h hfree
    have hturn : s.arrayGrant = State.chooseFrom (s.lli.queue.length + 1) s := by simp only [State.arrayGrant, hfree]
    by_cases hc : s.choice = some .demand
    · rw [hturn, State.chooseFrom_dual _ hfree hc (hdual hc), hback]
    · rw [hturn, State.chooseFrom_background _ hc, hback]
  · exact State.arrayGrant_busy hfree

/-- A background grant that leaves the port FREE was none. -/
theorem State.grantBackground_of_free {s : State} (h : s.grantBackground.aa.grant = none) : s.grantBackground = s := by
  unfold State.grantBackground State.grantRepair State.grantMigration State.grantSweep at h ⊢
  repeat' split
  all_goals simp_all

/-- After the arbiter's choice none is due. -/
theorem State.arrayGrant_noGrantDue (s : State) : s.arrayGrant.NoGrantDue := by
  by_cases hfree : s.aa.grant = none
  · refine State.arrayGrant_holds (P := fun s => s.aa.grant = none) (fun s h => h) ?_ ?_ ?_ hfree
    · intro t r ph h _
      rwa [State.answerNoaddr_beginRequests_aa]
    · exact fun t r ph g _ _ hbusy h => absurd h hbusy
    · intro t _ hdual hnone
      have hid := State.grantBackground_of_free hnone
      rw [hid]
      exact ⟨hid, hdual⟩
  · rw [State.arrayGrant_busy hfree]
    exact fun h => absurd h hfree

/-- A background grant does not look at the Maintenance Port or the Alert Unit. -/
theorem State.grantBackground_port (mp : MgmtPort) (alu : AlertUnit) (s : State) :
    State.grantBackground { s with mp, alu } = { s.grantBackground with mp, alu } := by
  have hrepair : State.grantRepair { s with mp, alu } = { s.grantRepair with mp, alu } := by
    unfold State.grantRepair
    dsimp only
    cases s.ru.queue <;> rfl
  have hmigration : State.grantMigration { s with mp, alu } = { s.grantMigration with mp, alu } := by
    have hcopying : State.copying { s with mp, alu } = s.copying := rfl
    unfold State.grantMigration
    rw [hcopying]
    cases s.copying with
    | none => rfl
    | some ie => dsimp only; cases s.me.state <;> rfl
  have hsweep : State.grantSweep { s with mp, alu } = { s.grantSweep with mp, alu } := by
    unfold State.grantSweep
    dsimp only
    split_ifs
    · rfl
    · cases s.se.mode with
      | patrol => rfl
      | fill run => dsimp only; cases run.pos <;> rfl
      | verify run => dsimp only; cases run.pos <;> rfl
  have hchoice : State.backgroundChoice { s with mp, alu } = s.backgroundChoice := rfl
  unfold State.grantBackground
  rw [hchoice, hrepair, hmigration, hsweep]
  cases s.backgroundChoice with
  | none => rfl
  | some q => cases q <;> rfl

theorem State.NoGrantDue.quiesceComplete {s : State} (h : s.NoGrantDue) : s.quiesceComplete.NoGrantDue := by
  rw [s.quiesceComplete_eq]
  intro hfree
  obtain ⟨hback, hdual⟩ := h hfree
  exact ⟨by rw [State.grantBackground_port, hback], hdual⟩

/-! ## Nothing is due after settling -/

/-- An issue leaves the request executing. -/
theorem State.issueDemand_executing {s : State} {r : Request} {ph : DemandPhase} (hx : s.executing = some (r, ph, .raised)) (g : Nat) :
    (State.issueDemand r ph g s).executing ≠ none := by
  have hexec : s.executing ≠ none := by simp [hx]
  have hput : ∀ step, (State.putExec (.executing r ph step) s).executing ≠ none := fun step => by
    simp [State.putExec_executing hexec]
  cases ph with
  | write st failed =>
    have hlli : (State.issueDemand r (.write st failed) g s).lli = _ := (State.issueDemand_write_fields r st failed g s).2.1
    unfold State.executing
    rw [hlli]
    exact hput _
  | dual failed => exact hexec
  | _ => exact hput _

theorem State.arrayGrant_noRequestDue {s : State} (h : s.NoRequestDue) : s.arrayGrant.NoRequestDue :=
  State.arrayGrant_keeps_of (P := State.NoRequestDue) (fun t r _ _ _ => (t.answerNoaddr r).beginRequests_noRequestDue)
    (fun t r ph g _ hx _ hnone => absurd hnone (State.issueDemand_executing hx g))
    (fun t ht => ht.congr (by simp) (by simp)) h

/-- After settling no request is due to begin, no migration to start and no grant. -/
theorem State.settle_noneDue (s : State) : s.settle.NoRequestDue ∧ s.settle.NoStartDue ∧ s.settle.NoGrantDue := by
  have hrequest : s.beginRequests.migrationStart.NoRequestDue := s.beginRequests_noRequestDue.congr (by simp) (by simp)
  have hstart := (arrayGrant_sameStart _).noStartDue s.beginRequests.migrationStart_noStartDue
  refine ⟨(State.arrayGrant_noRequestDue hrequest).congr (by simp [State.settle]) (by simp [State.settle]), ?_, ?_⟩
  · exact (quiesceComplete_sameStart _).noStartDue hstart
  · exact (State.arrayGrant_noGrantDue _).quiesceComplete

end Sys2Proof.Machine

open Sys2Proof Sys2Proof.Machine

/-- Settles O4: each of the four internal events leaves none of its own due, and none of them makes an earlier one due. -/
theorem settlingLeavesNothingDue : Obligations.SettlingLeavesNothingDue := by
  intro s
  obtain ⟨hrequest, hstart, hgrant⟩ := s.settle_noneDue
  have hquiesce : s.settle.quiesceComplete = s.settle := State.quiesceComplete_twice _
  calc s.settle.settle
      = s.settle.beginRequests.migrationStart.arrayGrant.quiesceComplete := rfl
    _ = s.settle := by
      rw [State.beginRequests_of_noRequestDue hrequest, State.migrationStart_of_noStartDue hstart,
        State.arrayGrant_of_noGrantDue hgrant, hquiesce]

end

-- ==== Proofs: Periods ====
section
/-! SUPPORT. One REFCLK period with no command waiting: the timers counted down, those at their end taken, INIT's periods (R73, R89, R110, R188). -/

namespace Sys2Proof.Machine

/-- The internal events due leave the hold-off as it is. -/
theorem State.settle_holdOff (s : State) : s.settle.aa.holdOff = s.aa.holdOff := by
  unfold State.settle
  rw [(quiesceComplete_sameStart _).holdOff, (arrayGrant_sameStart _).holdOff]
  simp

theorem step_empty {s : State} (h : s.pending = []) : step s = .next s.tick := by
  simp only [step, h]

theorem State.tick_init {s : State} (h : s.settle.mode = .init) : s.tick = s.settle.initPeriod := by
  have hmode : s.mode = .init := by simpa using h
  rw [State.tick, if_pos hmode]

theorem State.tick_running {s : State} (h : s.settle.mode ≠ .init) : s.tick = s.settle.countTimers.expireTimers := by
  have hmode : s.mode ≠ .init := by simpa using h
  rw [State.tick, if_neg hmode]

theorem State.leaveInit_mode {s : State} (h : s.mode = .init) : s.leaveInit.mode = .config := by
  rw [State.leaveInit, if_pos h]

/-- A timer that is not at its last period does not reach zero. -/
theorem countDown_ne_zero {t : Option Nat} (h : ∀ n, t = some n → 2 ≤ n) : countDown t ≠ some 0 := by
  intro hzero
  obtain ⟨n, hn, hlast⟩ := Option.map_eq_some_iff.mp hzero
  have := h n hn
  omega

/-- An end that leaves the hold-off alone leaves it alone with all that is then due. -/
theorem State.expire_holdOff {t : State → Option Nat} {e : State → State} (he : ∀ s, (e s).aa.holdOff = s.aa.holdOff) (s : State) :
    (State.expire t e s).aa.holdOff = s.aa.holdOff := by
  unfold State.expire
  split_ifs
  · rw [State.settle_holdOff, he]
  · rfl

/-- With no timer at zero, none ends. -/
theorem State.expireTimers_of_none {s : State} (hhold : s.aa.holdOff ≠ some 0) (hpatrol : s.se.patrolTimer ≠ some 0)
    (hepoch : s.hm.epochTimer ≠ some 0) : s.expireTimers = s := by
  simp only [State.expireTimers, State.expire, hhold, hpatrol, hepoch, if_false]

/-- A hold-off at zero ends, and neither of the other timers' ends starts one. -/
theorem State.expireTimers_holdOff {s : State} (h : s.aa.holdOff = some 0) : s.expireTimers.aa.holdOff = none := by
  have hended : State.expire (fun x => x.aa.holdOff) State.endHoldOff s = s.endHoldOff.settle := if_pos h
  unfold State.expireTimers
  rw [State.expire_holdOff (fun s => by simp), State.expire_holdOff (fun s => by simp), hended, State.settle_holdOff]
  rfl

end Sys2Proof.Machine

open Sys2Proof Sys2Proof.Machine

/-- Settles O2: in INIT its periods are counted; outside it no timer ends before its last period, and a hold-off that ends starts no other. -/
theorem emptyQueueStepIsOnePeriod : Obligations.EmptyQueueStepIsOnePeriod := by
  rintro s u hqueue rfl
  rw [step_empty hqueue]
  refine ⟨fun hmode hhold hpatrol hepoch => ?_, fun hmode hlast _ _ => ?_, fun hmode hmore => ?_, fun hmode hend => ?_⟩
  · rw [State.tick_running hmode, State.expireTimers_of_none (countDown_ne_zero hhold) (countDown_ne_zero hpatrol) (countDown_ne_zero hepoch)]
    rfl
  · rw [State.tick_running hmode]
    have hzero : s.settle.countTimers.aa.holdOff = some 0 := congrArg countDown hlast
    exact ⟨_, rfl, State.expireTimers_holdOff hzero⟩
  · have hbound : ¬Config.initBound ≤ s.settle.initElapsed + 1 := by simp only [Config.initBound]; omega
    rw [State.tick_init hmode, State.initPeriod, if_neg hbound]
  · have hbound : Config.initBound ≤ s.settle.initElapsed + 1 := by simp only [Config.initBound]; omega
    rw [State.tick_init hmode, State.initPeriod, if_pos hbound]
    exact ⟨_, rfl, State.leaveInit_mode hmode⟩

end

-- ==== Proofs: BackgroundGrants ====
section
/-! SUPPORT. Grants to REPAIR, MIGRATION and SWEEP: which of them the arbiter chooses, and what it issues (R69 to R74, R82, R83). -/

namespace Sys2Proof.Machine

section
variable {s : State}

/-! ## The choice among the others (R69, R70, R74) -/

theorem State.repairRaised_eq_true : s.repairRaised = true ↔ s.ru.queue ≠ [] ∧ s.ru.record = none := by
  simp [State.repairRaised]

/-- With the queue empty or a repair write outstanding, REPAIR is not raised. -/
theorem State.repairRaised_not (h : s.ru.queue = [] ∨ s.ru.record ≠ none) : ¬s.repairRaised = true := by
  rw [State.repairRaised_eq_true]
  tauto

theorem State.migrationRaised_eq_true : s.migrationRaised = true ↔ s.me.step = .raised := by
  simp [State.migrationRaised]

theorem State.sweepRaised_eq_true : s.sweepRaised = true ↔ s.se.patrolPending = .raised ∨ s.sweepRunRaised = true := by
  simp [State.sweepRaised]

theorem State.backgroundChoice_repair (h : s.repairRaised = true) : s.backgroundChoice = some .repair := if_pos h

theorem State.backgroundChoice_migration (hrepair : ¬s.repairRaised = true) (hhold : s.aa.holdOff = none) (h : s.migrationRaised = true) :
    s.backgroundChoice = some .migration := by
  simp [State.backgroundChoice, hrepair, hhold, h]

theorem State.backgroundChoice_sweep (hrepair : ¬s.repairRaised = true) (hhold : s.aa.holdOff = none) (hmigration : ¬s.migrationRaised = true)
    (h : s.sweepRaised = true) : s.backgroundChoice = some .sweep := by
  simp [State.backgroundChoice, hrepair, hhold, hmigration, h]

/-- The hold-off leaves REPAIR alone to be chosen. -/
theorem State.backgroundChoice_holdOff (h : s.aa.holdOff ≠ none) : s.backgroundChoice = some .repair ∨ s.backgroundChoice = none := by
  have hruns : s.aa.holdOff.isSome = true := Option.isSome_iff_ne_none.mpr h
  unfold State.backgroundChoice
  rw [if_pos hruns]
  split_ifs
  · exact .inl rfl
  · exact .inr rfl

/-- With DEMAND not raised, or at the fairness turn, the chosen of the others is granted. -/
theorem State.arrayGrant_background {q : Requester} (hfree : s.aa.grant = none) (hturn : s.demandRaised = false ∨ 8 ≤ s.aa.fairness)
    (hq : s.backgroundChoice = some q) : s.arrayGrant = s.grantBackground := by
  have hnot : s.backgroundChoice ≠ some .demand := by
    unfold State.backgroundChoice
    split_ifs <;> simp
  have hchoice : s.choice ≠ some .demand := by
    obtain hdemand | hfair := hturn
    · simpa [State.choice, hdemand] using hnot
    · have hlimit : Config.fairnessLimit ≤ s.aa.fairness := hfair
      unfold State.choice
      simpa [hlimit, hq] using hnot
  simp only [State.arrayGrant, hfree, State.chooseFrom_background _ hchoice]

/-! ## What is issued (R71, R82, R83, R152, R155) -/

theorem State.grantBackground_repair {e : RepairEntry} {rest : List RepairEntry} (hq : s.ru.queue = e :: rest) (hr : s.ru.record = none) :
    s.backgroundChoice = some .repair ∧ s.grantBackground =
      State.issue .repair e.addr.segment e.addr.line (some (repairWords e)) { s with ru := { s.ru with record := some e.addr } } := by
  have hchoice := State.backgroundChoice_repair (State.repairRaised_eq_true.mpr ⟨by simp [hq], hr⟩)
  refine ⟨hchoice, ?_⟩
  simp only [State.grantBackground, hchoice, State.grantRepair, hq]

/-- The repair write holds the entry's word alone. -/
theorem repairWords_getD (e : RepairEntry) {w : Nat} (hw : w < 8) :
    (repairWords e).getD w none = if w = e.addr.word then some (encodeWord e.data) else none := by
  unfold repairWords lineWords
  simp [List.getD, hw]

/-- All the words of a line buffer are stored. -/
theorem encode_buffer (b : List StoreWord) : LineStore.encode (b.map some) = b.map fun x => some x.encode := by
  simp [LineStore.encode]

/-- A FILL writes zeros with check byte 0 (R98). -/
theorem fillWords_eq : fillWords = List.replicate 8 (some ⟨0, 0⟩) := by decide +kernel

theorem fillWords_covers (w : Nat) : (fillWords.getD w none).isSome = decide (w < 8) := by
  rw [fillWords_eq, List.getD_eq_getElem?_getD, List.getElem?_replicate]
  split_ifs with hw <;> simp [hw]

/-- At a FREE port DEMAND's issue grants DEMAND. -/
theorem State.issueDemand_requester {r : Request} {ph : DemandPhase} {g : Nat} {op : PortOp} (hfree : s.aa.grant = none)
    (hop : (State.issueDemand r ph g s).aa.grant = some op) : op.requester = .demand := by
  cases ph with
  | write st failed =>
    have haa := (State.issueDemand_write_fields r st failed g s).1
    rw [haa] at hop
    cases hop
    rfl
  | dual failed => exact nomatch hfree.symm.trans hop
  | _ =>
    cases hop
    rfl

/-- While the hold-off runs, a grant to one of the others is REPAIR's. -/
theorem State.grantBackground_requester {op : PortOp} (hfree : s.aa.grant = none) (hhold : s.aa.holdOff ≠ none)
    (hop : s.grantBackground.aa.grant = some op) : op.requester = .repair := by
  obtain hchoice | hchoice := State.backgroundChoice_holdOff hhold
  · have hrepair : s.grantBackground = s.grantRepair := by simp only [State.grantBackground, hchoice]
    rw [hrepair] at hop
    unfold State.grantRepair at hop
    split at hop
    · cases hop
      rfl
    · exact nomatch hfree.symm.trans hop
  · have hnone : s.grantBackground = s := by simp only [State.grantBackground, hchoice]
    rw [hnone] at hop
    exact nomatch hfree.symm.trans hop

end

end Sys2Proof.Machine

open Sys2Proof Sys2Proof.Machine

/-- Settles O19: with REPAIR raised it is chosen first; with it not raised and no hold-off running, MIGRATION is. -/
theorem repairAndMigrationAreGranted : Obligations.RepairAndMigrationAreGranted := by
  intro s u hs hfree hturn
  have hexec : exec .arrayGrant s = .next u.arrayGrant := by rw [exec_eq, effect, found, hs]
  rw [hexec]
  refine ⟨fun e rest hq hr => ?_, fun i e hrepair hhold hstep hcopying => ?_⟩
  · obtain ⟨hchoice, hgrant⟩ := State.grantBackground_repair hq hr
    rw [State.arrayGrant_background hfree hturn hchoice, hgrant]
    exact ⟨_, repairWords e, rfl, rfl, rfl, fun w hw => repairWords_getD e hw⟩
  · have hchoice := State.backgroundChoice_migration (State.repairRaised_not hrepair) hhold (State.migrationRaised_eq_true.mpr hstep)
    have hgrant : u.arrayGrant = u.grantMigration := by
      rw [State.arrayGrant_background hfree hturn hchoice, State.grantBackground, hchoice]
    rw [hgrant]
    refine ⟨fun redo hst => ?_, fun b redo hst => ?_, fun b redo hst => ?_⟩
    · simp [State.grantMigration, hcopying, hst, State.issue, hhold]
    · simp [State.grantMigration, hcopying, hst, State.issue, hhold]
    · refine ⟨_, rfl, ?_⟩
      simp only [State.grantMigration, hcopying, hst, encode_buffer]
      refine ⟨rfl, ?_, fun x hx hseg => ?_, fun x hx => List.mem_of_mem_filter hx⟩
      · rw [← hhold]
        rfl
      · exact List.mem_filter.mpr ⟨hx, by simp [hseg]⟩

/-- Settles O20: with neither REPAIR nor MIGRATION raised and no hold-off running SWEEP is chosen, the patrol read before a FILL or a VERIFY. -/
theorem sweepIsGranted : Obligations.SweepIsGranted := by
  intro s u hs hfree hhold hturn hrepair hstep
  have hgrant : u.sweepRaised = true → exec .arrayGrant s = .next u.grantSweep := fun hraised => by
    have hchoice := State.backgroundChoice_sweep (State.repairRaised_not hrepair) hhold (mt State.migrationRaised_eq_true.mp hstep) hraised
    rw [exec_eq, effect, found, hs, State.arrayGrant_background hfree hturn hchoice, State.grantBackground, hchoice]
  refine ⟨fun hp => ?_, fun run pos hp hmode hraised hpos => ?_, fun run pos hp hmode hraised hpos => ?_⟩
  · rw [hgrant (State.sweepRaised_eq_true.mpr (.inl hp)), State.grantSweep, if_pos hp, ← hhold]
    rfl
  · have hrun : u.sweepRunRaised = true := by simp [State.sweepRunRaised, hmode, hraised]
    refine ⟨_, hgrant (State.sweepRaised_eq_true.mpr (.inr hrun)), ?_⟩
    rw [State.grantSweep, if_neg hp]
    simp only [hmode, hpos]
    refine ⟨rfl, ?_, rfl, ?_⟩
    · rw [← hhold, ← fillWords_eq]
      rfl
    · simp only [← fillWords_covers]
      rfl
  · have hrun : u.sweepRunRaised = true := by simp [State.sweepRunRaised, hmode, hraised]
    rw [hgrant (State.sweepRaised_eq_true.mpr (.inr hrun)), State.grantSweep, if_neg hp]
    simp only [hmode, hpos]
    rw [← hhold]
    rfl

/-- Settles O21: the answers before the choice leave the hold-off running, and the others are then granted as REPAIR at most. -/
theorem holdOffBlocksMigrationAndSweep : Obligations.HoldOffBlocksMigrationAndSweep := by
  refine ⟨fun s t op hhold hfree ht hop => ?_, ?_⟩
  · rw [exec_eq, effect, found] at ht
    obtain rfl : s.beginRequests.migrationStart.arrayGrant = t := by simpa using ht
    revert op
    refine State.arrayGrant_holds (P := fun v => v.aa.grant = none ∧ v.aa.holdOff ≠ none)
      (Q := fun t => ∀ op, t.aa.grant = some op → op.requester = .demand ∨ op.requester = .repair) (fun v hv => hv.1) ?_ ?_ ?_
      ⟨by simpa using hfree, by simpa using hhold⟩
    · intro v r ph hv _
      rwa [State.answerNoaddr_beginRequests_aa]
    · exact fun v r ph g hv _ _ op hop => .inl (State.issueDemand_requester hv.1 hop)
    · exact fun v hv _ op hop => .inr (State.grantBackground_requester hv.1 hv.2 hop)
  · rintro s u rfl
    rfl

end

-- ==== Proofs: RepairWrites ====
section
/-! SUPPORT. Completions that need no more than the port's record: the repair write, and what the part no longer waits for (R67, R76, R82). -/

namespace Sys2Proof.Machine

theorem State.completeRepair_eq {s : State} {op : PortOp} {ws : List (Option StoredWord)} (hop : s.delivered .repair = some op)
    (hw : op.write = some ws) : s.completeRepair = { s with
      array := Memory.storeLine s.array op.segment op.line ws
      ru := s.ru.written
      aa := { s.aa with grant := none } } := by
  simp only [State.completeRepair, hop, State.storeLine_eq hw]
  rfl

/-- An operation whose delivery mark is cleared leaves the port; only a LINE_WRITE reaches the array (R67). -/
theorem State.discardCompletion_eq {s : State} {op : PortOp} (hop : s.aa.grant = some op) (hd : op.deliver = false) :
    s.discardCompletion = State.freePort (State.storeLine op s) := by
  simp [State.discardCompletion, hop, hd]

theorem State.storeLine_read {s : State} {op : PortOp} (h : op.write = none) : State.storeLine op s = s := by
  simp [State.storeLine, h]

end Sys2Proof.Machine

open Sys2Proof Sys2Proof.Machine

/-- Settles O26: a delivered repair write is stored and its entry removed; of a discarded operation the stored line is all that stays. -/
theorem repairsAndDiscardedOperationsComplete : Obligations.RepairsAndDiscardedOperationsComplete := by
  rintro op s u rfl hgrant
  have hrepaired : exec .repairWriteComplete s = .next s.settle.completeRepair := exec_eq _ s
  have hdiscarded : exec .discardedCompletion s = .next s.settle.discardCompletion := exec_eq _ s
  refine ⟨fun ws hreq hdel hw => ?_, fun ws hdel hw => ?_, fun hdel hw => ?_⟩
  · rw [hrepaired, State.completeRepair_eq (State.delivered_of hgrant hreq hdel) hw]
    rfl
  · rw [hdiscarded, State.discardCompletion_eq hgrant hdel, State.storeLine_eq hw]
    rfl
  · rw [hdiscarded, State.discardCompletion_eq hgrant hdel, State.storeLine_read hw]
    rfl

end

-- ==== Proofs: CopyLoop ====
section
/-! SUPPORT. The line loop's copy read and copy write (R153 to R155), and a retire offer that finds the ME at work (R125, R150). -/

namespace Sys2Proof.Machine

/-! ## A retire offer while a migration is in progress (R125, R150) -/

theorem State.migrationStart_atWork {s : State} (h : s.me.state ≠ .idle) : s.migrationStart = s :=
  if_neg fun hmay => h (State.mayStart_iff.mp hmay).2.1

/-- With the ME at work an offer starts nothing, so it is the same whatever the hold-off is. -/
theorem State.retireOffer_atWork (p : Nat) {s : State} (h : s.me.state ≠ .idle) : ∃ me alu, ∀ hold,
    State.retireOffer p { s with aa := { s.aa with holdOff := hold } } =
      { s with aa := { s.aa with holdOff := hold }, me := me, alu := alu } := by
  have hlogical : ∀ hold, State.logicalOf { s with aa := { s.aa with holdOff := hold } } p = s.logicalOf p := fun _ => rfl
  cases hg : s.logicalOf p with
  | none => exact ⟨s.me, s.alu, fun hold => by rw [State.retireOffer, hlogical, hg]⟩
  | some g =>
    have hoffer : ∀ hold, State.retireOffer p { s with aa := { s.aa with holdOff := hold } } =
        if !s.settings.autoRetire then { s with aa := { s.aa with holdOff := hold } }
        else if s.queuedForRetire g || s.isCopying g then { s with aa := { s.aa with holdOff := hold } }
        else if s.lowestSpare.isNone then State.setCause .sparesExhausted { s with aa := { s.aa with holdOff := hold } }
        else if Config.retireQueueEntries ≤ s.me.queue.length then { s with aa := { s.aa with holdOff := hold } }
        else State.appendRetire g .auto { s with aa := { s.aa with holdOff := hold } } := fun hold => by
      have hstart := State.migrationStart_atWork (s := State.appendRetire g .auto { s with aa := { s.aa with holdOff := hold } }) h
      rw [State.retireOffer, hlogical, hg]
      dsimp only
      rw [hstart]
      rfl
    simp only [hoffer]
    split_ifs
    · exact ⟨s.me, s.alu, fun _ => rfl⟩
    · exact ⟨s.me, s.alu, fun _ => rfl⟩
    · exact ⟨s.me, (State.setCause .sparesExhausted s).alu, fun _ => rfl⟩
    · exact ⟨s.me, s.alu, fun _ => rfl⟩
    · exact ⟨(State.appendRetire g .auto s).me, s.alu, fun _ => rfl⟩

/-- The offer of a read that finds the ME at work changes the Retire Queue at most. -/
theorem OffersRetirement.atWork {p : Nat} {word : Nat → StoredWord} {ws : List Nat} {u t : State} (h : OffersRetirement p word ws u t)
    (hwork : u.me.state ≠ .idle) :
    let moved := (∃ w ∈ ws, classify (word w) = .uncorrectable) ∧ (u.health p).state ≠ .untracked ∧
      ∀ reason, (u.health p).state ≠ .alarm reason
    t.rc = u.rc ∧ (moved → t.me = (State.retireOffer p u).me) ∧ (¬moved → t.me = u.me) := by
  intro moved
  obtain ⟨hmoves, hstays⟩ := h
  obtain ⟨me, alu, hoffer⟩ := State.retireOffer_atWork p hwork
  have hoffered : State.retireOffer p u = _ := hoffer u.aa.holdOff
  have hiff : moved ↔ (∃ w ∈ ws, classify (word w) = .uncorrectable) ∧
      ¬((u.health p).state = .untracked ∨ ∃ reason, (u.health p).state = .alarm reason) := by
    simp only [moved, not_or, not_exists, ne_eq]
  by_cases hmoved : moved
  · obtain ⟨hunc, hopen⟩ := hiff.mp hmoved
    obtain ⟨hme, hrc, -⟩ := hmoves hunc hopen
    rw [hoffer] at hme hrc
    exact ⟨hrc, fun _ => by rw [hme, hoffered], fun h => absurd hmoved h⟩
  · obtain ⟨hme, hrc⟩ := hstays (by rwa [hiff, not_and_or, not_not] at hmoved)
    exact ⟨hrc, fun h => absurd h hmoved, fun _ => hme⟩

/-! ## The line buffer and the report of a copy read (R153, R154) -/

section
variable {f : Nat → StoredWord} {ws : List Nat}

theorem bufferWord_eq (x : StoredWord) : bufferWord x = if badClass x = none then .data (deliveredData x) else .poison := by
  unfold bufferWord
  cases badClass x <;> rfl

/-- The report of a copy read is for its lowest UNCORRECTABLE word (R154). -/
theorem State.reportCopy_lowest (e : CopyingEntry) (op : PortOp) (s : State) (hs : ws.Pairwise (· < ·)) {w : Nat} (hw : w ∈ ws)
    (hc : classify (f w) = .uncorrectable) (hlow : ∀ v ∈ ws, v < w → classify (f v) ≠ .uncorrectable) :
    State.reportCopy e op (ws.map fun w => (w, f w)) s = State.report (copyReport e op w (f w)) s := by
  have hfirst := firstOfClass_map .uncorrectable f ws
  unfold State.reportCopy
  split at hfirst
  · exact absurd hc (hfirst w hw)
  next v x heq =>
    obtain ⟨rfl, hv, pre, post, hws, hpre⟩ := hfirst
    obtain rfl : w = v := eq_of_first (bad := fun w => classify (f w) = .uncorrectable) hs hws hpre hv hw hc hlow
    rw [heq]

theorem State.reportCopy_none (e : CopyingEntry) (op : PortOp) (s : State) (h : ∀ w ∈ ws, classify (f w) ≠ .uncorrectable) :
    State.reportCopy e op (ws.map fun w => (w, f w)) s = s := by
  have hfirst := firstOfClass_map .uncorrectable f ws
  unfold State.reportCopy
  split at hfirst
  next heq => rw [heq]
  next v x heq =>
    obtain ⟨-, hv, pre, post, hws, -⟩ := hfirst
    exact absurd hv (h v (by simp [hws]))

theorem State.reportCopy_alu (e : CopyingEntry) (op : PortOp) (ws : List (Nat × StoredWord)) (s : State) :
    s.KeepsCauses (State.reportCopy e op ws s) ∧ (State.reportCopy e op ws s).alu.isSet .commandDone = s.alu.isSet .commandDone := by
  unfold State.reportCopy
  split
  · exact State.report_alu _ s
  · exact ⟨.of_alu rfl, rfl⟩

end

/-! ## COPY_READ_COMPLETE and COPY_WRITE_COMPLETE (R153 to R155) -/

/-- A copy read's steps, on the words `L` of its line. -/
theorem State.finishCopyRead_of_words (redo : Bool) (e : CopyingEntry) (op : PortOp) (v : State) {L : List (Nat × StoredWord)}
    (h : selectWords (fun _ => true) (State.readLine op v) = L) : State.finishCopyRead redo e op v =
      State.freePort (State.setMe (.copyWrite ((State.readLine op v).map bufferWord) redo) .raised
        (State.reportCopy e op L (State.handleWords false op.segment op.line L v))) := by
  subst h
  rfl

/-- A copy read finished, on the array `m` with the line's changes in it: what its words do, and the line buffer (R153, R154). -/
theorem State.finishCopyRead_spec (redo : Bool) (e : CopyingEntry) (op : PortOp) (u : State) (m : Memory) :
    let word := fun w => m.read (op.segment * 32768 + op.line * 8 + w)
    let ws := List.range 8
    let t := State.finishCopyRead redo e op { u with array := m }
    ∃ k : State, ReadEffects op.segment word ws u k ∧
      t = { k with me := { k.me with state := .copyWrite ((Memory.line m op.segment op.line).map bufferWord) redo, step := .raised } } ∧
      k = { u with
        array := m
        aa := { u.aa with grant := none, holdOff := k.aa.holdOff }
        rc := k.rc, me := k.me, se := k.se, hm := k.hm, fcu := k.fcu, alu := k.alu, mp := k.mp } ∧
      (∀ w < 8, classify (word w) = .uncorrectable → (∀ v < w, classify (word v) ≠ .uncorrectable) →
        k.fcu = u.fcu.report (copyReport e op w (word w)) ∧ k.alu.isSet .uncorrectableSeen = true) ∧
      ((∀ w < 8, classify (word w) ≠ .uncorrectable) → k.fcu = u.fcu) := by
  intro word ws t
  let v : State := { u with array := m }
  let handled := State.handleWords false op.segment op.line (ws.map fun w => (w, word w)) v
  let reported := State.reportCopy e op (ws.map fun w => (w, word w)) handled
  have hsel : selectWords (fun _ => true) (State.readLine op v) = ws.map fun w => (w, word w) := selectWords_line _ _ _ _
  have ht : t = State.freePort (State.setMe (.copyWrite ((Memory.line m op.segment op.line).map bufferWord) redo) .raised reported) :=
    State.finishCopyRead_of_words redo e op v hsel
  obtain ⟨hkeep, hdone⟩ := State.reportCopy_alu e op (ws.map fun w => (w, word w)) handled
  have hascend : ws.Pairwise (· < ·) := List.pairwise_lt_range
  have hfcu : handled.fcu = u.fcu := by simp [handled, v]
  refine ⟨reported.freePort, ?_, ht, State.eq_of_fields ?_, fun w hw hc hlow => ?_, fun hnone => ?_⟩
  · have hleft : reported.freePort =
        { handled with fcu := reported.fcu, alu := reported.alu, lli := handled.lli, aa := { handled.aa with grant := none } } :=
      State.eq_of_fields (by simp [reported])
    rw [hleft]
    exact (State.handleWords_effects false op.segment op.line word ws v).carried hkeep hdone
  · have hru : handled.ru = u.ru := State.handleWords_noOffers _ _ _ _
    have hfair : handled.aa.fairness = u.aa.fairness := State.handleWords_fairness _ _ _ _ _
    simp [reported, hru, hfair]
    simp [handled, v]
  · have hreport : reported = State.report (copyReport e op w (word w)) handled :=
      State.reportCopy_lowest e op handled hascend (List.mem_range.mpr hw) hc fun v _ hv => hlow v hv
    rw [hreport, ← hfcu]
    exact ⟨State.report_fcu _ handled, State.report_sets rfl⟩
  · have hreport : reported = handled :=
      State.reportCopy_none e op handled fun w hw => hnone w (List.mem_range.mp hw)
    rw [hreport]
    exact hfcu

end Sys2Proof.Machine

open Sys2Proof Sys2Proof.Machine

/-- Settles O30: a copy read's words are handled with the ME at work, so that an offer starts no migration. -/
theorem copyFollowsTheLineLoop : Obligations.CopyFollowsTheLineLoop := by
  rintro op s u hs hgrant hreq hdel
  have hdelivered := State.delivered_of hgrant hreq hdel
  refine ⟨?_, fun ws b redo hw hstate => ?_⟩
  · intro flips i e redo hcopying hstate array word ws moved
    have hexec : exec (.copyReadComplete flips) s = .next (State.finishCopyRead redo e op { u with array := array }) := by
      rw [exec_eq, show effect (.copyReadComplete flips) (found (.copyReadComplete flips) s) = u.completeCopyRead flips from by rw [← hs]; rfl]
      simp only [State.completeCopyRead, hdelivered, hcopying, hstate]
      rfl
    obtain ⟨k, ⟨hcounts, hmet, hcal, hends, hpatrol, hretire⟩, ht, hframe, hlowest, hnone⟩ :=
      State.finishCopyRead_spec redo e op u array
    have hmoved : moved ↔ (∃ w ∈ ws, classify (word w) = .uncorrectable) ∧ (u.health op.segment).state ≠ .untracked ∧
        ∀ reason, (u.health op.segment).state ≠ .alarm reason := by simp [moved, ws]
    obtain ⟨hrc, hoffered, hsame⟩ := hretire.atWork (by simp [hstate])
    rw [hexec, ht]
    refine ⟨_, (Memory.line array op.segment op.line).map bufferWord, rfl, ?_, fun hnot => ?_, fun hyes => ?_,
      by simp [Memory.line, lineWords], fun w hw => ?_, hcounts, hmet, hcal, hends, hpatrol, hlowest, hnone⟩
    · rw [← hrc]
      exact congrArg (fun x : State => { x with
        me := { k.me with state := .copyWrite ((Memory.line array op.segment op.line).map bufferWord) redo, step := .raised } }) hframe
    · rw [← hsame (mt hmoved.mpr hnot)]
    · rw [← hoffered (hmoved.mp hyes)]
    · rw [← bufferWord_eq]
      simp [Memory.line, lineWords, hw, word, wordNumber]
  · have hexec : exec .copyWriteComplete s = .next u.completeCopyWrite := by
      rw [← hs]
      exact exec_eq _ s
    rw [hexec]
    simp only [State.completeCopyWrite, hdelivered, hstate, State.storeLine_eq hw]
    rfl

end

-- ==== Proofs: SameService ====
section
/-! SUPPORT. A migration's start changes neither the segments eligible for the patrol nor the segment that serves a logical one (R19, R22, R90, R151): what a sweep looks at after its read's
words have made their retire offer. -/

namespace Sys2Proof.Machine

/-- An element replaced by one that the search answers alike leaves what the search finds. -/
theorem findIdx?_set_of_eq {α : Type} {p : α → Bool} {l : List α} {i : Nat} {x : α} (h : ∀ y, l[i]? = some y → p x = p y) :
    (l.set i x).findIdx? p = l.findIdx? p := by
  have hbits : (l.set i x).map p = l.map p := by
    refine List.ext_getElem? fun n => ?_
    rw [List.getElem?_map, List.getElem?_map, List.getElem?_set]
    split_ifs with hn hlt
    · subst hn
      obtain ⟨y, hy⟩ : ∃ y, l[i]? = some y := ⟨l[i], List.getElem?_eq_getElem hlt⟩
      rw [hy, Option.map_some, Option.map_some, h y hy]
    · subst hn
      rw [List.getElem?_eq_none (Nat.le_of_not_lt hlt)]
    · rfl
  have hsearch : ∀ l : List α, l.findIdx? p = (l.map p).findIdx? id := fun l => by
    rw [List.findIdx?_map]
    rfl
  rw [hsearch, hbits, ← hsearch]

/-- The same segments are eligible, and the same serve the logical segments. -/
structure State.SameService (s t : State) : Prop where
  segs : t.rc.segs.length = s.rc.segs.length
  eligible : ∀ p, t.eligible p = s.eligible p
  physOf : ∀ g, t.physOf g = s.physOf g

theorem State.SameService.of_rc {s t : State} (h : t.rc = s.rc) : s.SameService t where
  segs := by rw [h]
  eligible p := by
    have hseg := State.seg_congr (s := s) (t := t) (by rw [h]) p
    rw [State.eligible, hseg, State.eligible]
  physOf g := by
    unfold State.physOf State.entryOf State.entryIndex State.entryAt
    rw [h]

theorem State.SameService.trans {s t u : State} (h : s.SameService t) (h' : t.SameService u) : s.SameService u :=
  ⟨h'.segs.trans h.segs, fun p => (h'.eligible p).trans (h.eligible p), fun g => (h'.physOf g).trans (h.physOf g)⟩

/-- The tables alone count. -/
theorem State.SameService.after {s t u : State} (h : t.SameService u) (hrc : t.rc = s.rc) : s.SameService u :=
  (State.SameService.of_rc hrc).trans h

/-- The next eligible segment is found among the same. -/
theorem State.SameService.nextEligible {s t : State} (h : s.SameService t) (p : Nat) : t.nextEligible p = s.nextEligible p := by
  rw [State.nextEligible, h.segs, funext h.eligible, State.nextEligible]

section
variable {s : State} {i n : Nat} {e : CopyingEntry}

/-- A spare is not eligible, bound or not. -/
theorem State.eligible_bindTarget (hn : s.lowestSpare = some n) (p : Nat) : (State.bindTarget i e n s).eligible p = s.eligible p := by
  have hspare := State.lowestSpare_role hn
  have hseg : (State.bindTarget i e n s).seg p = (State.setRole n .spareBound s).seg p := State.seg_congr (by simp) p
  rw [State.eligible, hseg, State.seg_setRole, State.eligible]
  split_ifs with hp
  · rw [hp.1, hspare]
    rfl
  · rfl

/-- The segment that serves `k` is looked up in the entry found, whose current alone it takes. -/
theorem State.physOf_of_entries {s t : State} {k : Nat} (hindex : t.entryIndex k = s.entryIndex k)
    (hentry : ∀ j, s.entryIndex k = some j → (t.entryAt j).current? = (s.entryAt j).current?) : t.physOf k = s.physOf k := by
  unfold State.physOf State.entryOf
  rw [hindex]
  cases hj : s.entryIndex k with
  | none => rfl
  | some j =>
    dsimp only
    rw [hentry j hj]

/-- The entry of a start names the segment that serves already (R22). -/
theorem State.physOf_bindTarget {g : Nat} {o : RemapOrigin} (h : s.startEntry g o = some (i, e)) (k : Nat) :
    (State.bindTarget i e n s).physOf k = s.physOf k := by
  have hremap : (State.bindTarget i e n s).rc.remap = s.rc.remap.set i (.copying { e with target := n, cursor := 0, poisoned := 0 }) := by
    simp
  obtain ⟨hnone, hfree, rfl⟩ | ⟨a, hactive, hlogical, rfl⟩ := State.startEntry_spec h
  · by_cases hk : k = g
    · subst hk
      rw [State.physOf_of_none hnone]
      cases hj : (State.bindTarget i ⟨k, k, 0, 0, o, 0, 0, .free⟩ n s).entryIndex k with
      | none => exact State.physOf_of_none hj
      | some j =>
        obtain ⟨y, hy, hyk⟩ := State.entryIndex_some hj
        have hat : (State.bindTarget i ⟨k, k, 0, 0, o, 0, 0, .free⟩ n s).entryAt j = y := by
          simp only [State.entryAt, List.getD_eq_getElem?_getD, hy, Option.getD_some]
        rw [State.physOf, State.entryOf, hj]
        dsimp only
        rw [hat]
        rw [hremap, List.getElem?_set] at hy
        split_ifs at hy
        · cases hy
          rfl
        · exact absurd hyk (State.entryIndex_none.mp hnone y (List.mem_of_getElem? hy))
    · refine State.physOf_of_entries ?_ fun j hj => ?_
      · unfold State.entryIndex
        rw [hremap]
        refine findIdx?_set_of_eq fun y hy => ?_
        cases hfree.symm.trans hy
        simp [RemapEntry.logical?, Ne.symm hk]
      · obtain ⟨y, hy, hyk⟩ := State.entryIndex_some hj
        have hij : i ≠ j := fun hij => by
          subst hij
          cases hfree.symm.trans hy
          cases hyk
        simp only [State.entryAt, hremap, List.getD_eq_getElem?_getD, List.getElem?_set_ne hij]
  · refine State.physOf_of_entries ?_ fun j _ => ?_
    · unfold State.entryIndex
      rw [hremap]
      refine findIdx?_set_of_eq fun y hy => ?_
      cases hactive.symm.trans hy
      simp [RemapEntry.logical?, hlogical]
    · unfold State.entryAt
      rw [hremap, List.getD_eq_getElem?_getD, List.getD_eq_getElem?_getD, List.getElem?_set]
      split_ifs with hj hlt
      · subst hj
        rw [hactive]
        rfl
      · subst hj
        rw [List.getElem?_eq_none (Nat.le_of_not_lt hlt)]
      · rfl

theorem bindTarget_sameService {g : Nat} {o : RemapOrigin} (hn : s.lowestSpare = some n) (h : s.startEntry g o = some (i, e)) :
    s.SameService (State.bindTarget i e n s) where
  segs := by simp
  eligible := State.eligible_bindTarget hn
  physOf := State.physOf_bindTarget h

theorem beginMigration_sameService (x : RetireEntry) (rest : List RetireEntry) (hn : s.lowestSpare = some n) :
    s.SameService (State.beginMigration x rest n s) := by
  cases he : s.startEntry x.logical x.origin.remap with
  | none => exact .of_rc (by rw [State.beginMigration_noEntry rest n he])
  | some ie =>
    rw [State.beginMigration_eq (i := ie.1) (e := ie.2) he]
    exact (bindTarget_sameService (s := { s with me := { s.me with queue := rest, state := .copyRead false, step := .raised } }) hn
      he).after rfl

end

theorem startFrom_sameService (q : List RetireEntry) (s : State) : s.SameService (State.startFrom q s) := by
  induction q generalizing s with
  | nil => exact .of_rc rfl
  | cons x rest ih =>
    cases hfill : s.inRemainingFill x.logical with
    | true => exact .of_rc (by rw [State.startFrom_waits hfill])
    | false =>
      cases hn : s.lowestSpare with
      | none =>
        rw [State.startFrom_drops hfill hn]
        exact (ih (State.setCause .sparesExhausted s)).after rfl
      | some n =>
        rw [State.startFrom_begins hfill hn]
        exact (beginMigration_sameService (s := { s with me := { s.me with queue := x :: rest } }) x rest hn).after rfl

theorem migrationStart_sameService (s : State) : s.SameService s.migrationStart := by
  unfold State.migrationStart
  split_ifs
  · exact startFrom_sameService _ s
  · exact .of_rc rfl

theorem retireOffer_sameService (p : Nat) (s : State) : s.SameService (State.retireOffer p s) := by
  unfold State.retireOffer
  split
  · exact .of_rc rfl
  next g _ =>
    split_ifs
    · exact .of_rc rfl
    · exact .of_rc rfl
    · exact .of_rc rfl
    · exact .of_rc rfl
    · exact (migrationStart_sameService (State.appendRetire g .auto s)).after rfl

/-- The words of a read change the Remap Controller by their retire offer alone. -/
theorem OffersRetirement.sameService {p : Nat} {word : Nat → StoredWord} {ws : List Nat} {u t : State} (h : OffersRetirement p word ws u t) :
    u.SameService t := by
  obtain ⟨hmoves, hstays⟩ := h
  by_cases hstay : ¬(∃ w ∈ ws, classify (word w) = .uncorrectable) ∨
      ((u.health p).state = .untracked ∨ ∃ reason, (u.health p).state = .alarm reason)
  · exact .of_rc (hstays hstay).2
  · rw [not_or, not_not] at hstay
    obtain ⟨hunc, hopen⟩ := hstay
    have hoffered := retireOffer_sameService p { u with aa := { u.aa with holdOff := t.aa.holdOff } }
    obtain ⟨-, hrc, -⟩ := hmoves hunc hopen
    exact (hoffered.trans (.of_rc hrc)).after rfl

end Sys2Proof.Machine
end

-- ==== Proofs: PatrolReads ====
section
/-! SUPPORT. A completed patrol read: its line handled, the cursor moved, and a FILL or VERIFY that waited for it started (R61, R92 to R95, R97). -/

namespace Sys2Proof.Machine

/-! ## A line handled for a sweep (R93, R94) -/

/-- A sweep's steps on a line, on the words `L` of it. -/
theorem State.handleSweepLine_of_words (o : FaultOrigin) (op : PortOp) (s : State) {L : List (Nat × StoredWord)}
    (h : selectWords (fun _ => true) (State.readLine op s) = L) : State.handleSweepLine o op s =
      State.reportWords (sweepReport o op (s.logicalOf op.segment)) L (State.handleWords true op.segment op.line L s) := by
  subst h
  rfl

/-- CLEAN words leave everything as it was. -/
theorem State.handleSweepLine_of_clean (o : FaultOrigin) (op : PortOp) (s : State)
    (h : ∀ w < 8, classify (Memory.read s.array (op.segment * 32768 + op.line * 8 + w)) = .clean) : State.handleSweepLine o op s = s := by
  have hclean : ∀ w ∈ List.range 8, classify (Memory.read s.array (op.segment * 32768 + op.line * 8 + w)) = .clean := fun w hw =>
    h w (List.mem_range.mp hw)
  have hsel : selectWords (fun _ => true) (State.readLine op s) =
      (List.range 8).map fun w => (w, Memory.read s.array (op.segment * 32768 + op.line * 8 + w)) := selectWords_line _ _ _ _
  rw [State.handleSweepLine_of_words o op s hsel, State.handleWords_of_clean _ _ _ _ hclean, State.reportWords_of_clean _ _ hclean]

/-- What a line's words do, and what they leave. -/
theorem State.handleSweepLine_spec (o : FaultOrigin) (op : PortOp) (s : State) :
    let word := fun w => Memory.read s.array (op.segment * 32768 + op.line * 8 + w)
    let ws := List.range 8
    let k := State.handleSweepLine o op s
    k = { s with
      aa := { s.aa with grant := k.aa.grant, holdOff := k.aa.holdOff }
      rc := k.rc, me := k.me, se := k.se, ru := k.ru, hm := k.hm, fcu := k.fcu, alu := k.alu, mp := k.mp } ∧
    ReadEffects op.segment word ws s k ∧ OffersInOrder op.segment op.line word ws s k ∧
    ReportsLowest (fun k w => ⟨k, o, some (⟨op.segment, op.line, w⟩, syndromeByte (word w)), s.logicalOf op.segment, none⟩) word ws s k := by
  intro word ws k
  let mk := sweepReport o op (s.logicalOf op.segment)
  let handled := State.handleWords true op.segment op.line (ws.map fun w => (w, word w)) s
  have hk : k = State.reportWords mk (ws.map fun w => (w, word w)) handled :=
    State.handleSweepLine_of_words o op s (selectWords_line _ _ _ _)
  obtain ⟨hkeep, hdone⟩ := State.reportWords_alu mk (ws.map fun w => (w, word w)) handled
  have hascend : ws.Pairwise (· < ·) := List.pairwise_lt_range
  rw [hk]
  refine ⟨State.eq_of_fields ?_, ?_, ?_, ?_⟩
  · have hfair : handled.aa.fairness = s.aa.fairness := State.handleWords_fairness _ _ _ _ _
    simp [handled]
    rw [← hfair]
  · have hleft : State.reportWords mk (ws.map fun w => (w, word w)) handled = { handled with
        fcu := (State.reportWords mk (ws.map fun w => (w, word w)) handled).fcu
        alu := (State.reportWords mk (ws.map fun w => (w, word w)) handled).alu
        lli := handled.lli, aa := { handled.aa with grant := handled.aa.grant } } := State.eq_of_fields (by simp)
    rw [hleft]
    exact (State.handleWords_effects true op.segment op.line word ws s).carried (m := s.array) hkeep hdone
  · have hru : (State.reportWords mk (ws.map fun w => (w, word w)) handled).ru = handled.ru := by simp
    exact hru.trans (State.handleWords_offers _ _ _ _ _)
  · exact (State.reportWords_reports mk (fun _ _ _ => rfl) word ws hascend handled).carried (by simp [handled]) (by simp [handled]) rfl rfl

/-- With no patrol read pending, the words move the patrol timer at most. -/
theorem RechecksPatrol.timer {p : Nat} {word : Nat → StoredWord} {ws : List Nat} {u t : State} (h : RechecksPatrol p word ws u t)
    (hnone : u.se.patrolPending = .none) : t.se = { u.se with patrolTimer := t.se.patrolTimer } := by
  obtain ⟨hends, hstays⟩ := h
  by_cases he : EndsCalibration p word ws u
  · obtain ⟨hse, -, hpending⟩ := hends he
    have hkept : t.se.patrolPending = u.se.patrolPending := hpending (.inl (by simp [hnone]))
    rwa [hkept] at hse
  · rw [hstays he]

/-! ## The cursor's advance (R92) -/

theorem State.advanceCursor_next {op : PortOp} (h : op.line < 4095) (s : State) :
    s.advanceCursor op = State.setCursor op.segment (op.line + 1) s := if_pos (Nat.succ_lt_succ h)

theorem State.advanceCursor_beyond {op : PortOp} (h : 4095 ≤ op.line) (s : State) :
    s.advanceCursor op = s.cursorBeyond op.segment := if_neg (Nat.not_lt.mpr (Nat.succ_le_succ h))

theorem State.patrolLine_eligible {op : PortOp} {s : State} (h : s.eligible op.segment = true) :
    s.patrolLine op = State.advanceCursor op (State.handleSweepLine .patrol op s) := if_pos h

theorem State.patrolLine_not {op : PortOp} {s : State} (h : ¬s.eligible op.segment = true) : s.patrolLine op = s.cursorBeyond op.segment :=
  if_neg h

/-! ## A sweep that waited for the read (R61, R95, R97) -/

theorem State.startWaitingSweep_patrol {s : State} (h : s.se.mode = .patrol) : s.startWaitingSweep = s := by
  simp only [State.startWaitingSweep, h]

theorem State.startWaitingSweep_fill {s : State} {run : SweepRun} (h : s.se.mode = .fill run) (hpos : run.pos = none) :
    s.startWaitingSweep = State.startFillSegment run run.first s := by
  simp only [State.startWaitingSweep, h, hpos, Option.isNone_none, if_true]

theorem State.startWaitingSweep_verify {s : State} {run : SweepRun} (h : s.se.mode = .verify run) (hstep : run.step = .none) :
    s.startWaitingSweep = { s with se := { s.se with mode := .verify { run with step := .raised } } } := by
  simp only [State.startWaitingSweep, h, hstep, if_true]

/-- A start writes the sweep's mode, and for a FILL the Line Link's slots. -/
theorem State.startWaitingSweep_eq (s : State) : s.startWaitingSweep = { s with
    lli := s.startWaitingSweep.lli, se := { s.se with mode := s.startWaitingSweep.se.mode } } := by
  have hse : s.startWaitingSweep.se = { s.se with mode := s.startWaitingSweep.se.mode } := by
    unfold State.startWaitingSweep
    split
    · rfl
    · split_ifs
      · simp [State.startFillSegment]
      · rfl
    · split_ifs <;> rfl
  refine State.eq_of_fields ?_
  rw [hse]
  simp

/-- The demand operation not yet issued is tested against the FILL's first segment, and the first write raised (R61, R97). -/
theorem State.startWaitingSweep_starts {u s : State} {run : SweepRun} (h : s.se.mode = .fill run) (hpos : run.pos = none)
    (hlli : s.lli = u.lli) (htr : s.translate = u.translate) : HoldRetested (some run.first) u s.startWaitingSweep ∧
      s.startWaitingSweep.se.mode = .fill { run with pos := some ⟨run.first, s.physOf run.first, 0⟩, step := .raised } := by
  rw [State.startWaitingSweep_fill h hpos]
  refine ⟨State.retestHold_retests (v := { s with se := { s.se with
    mode := .fill { run with pos := some ⟨run.first, s.physOf run.first, 0⟩, step := .raised } } }) hlli htr rfl rfl, ?_⟩
  simp [State.startFillSegment]

/-! ## PATROL_READ_COMPLETE (R92) -/

/-- A patrol read's completion handles its line, with no read pending any more, and lets a sweep that waited start. -/
theorem exec_patrolReadComplete {op : PortOp} {s u : State} (flips : LineFlips) (hs : s.settle = u) (hg : u.aa.grant = some op)
    (hreq : op.requester = .sweep) (hdel : op.deliver = true) (hp : u.se.patrolPending = .outstanding) :
    exec (.patrolReadComplete flips) s = .next (State.freePort (State.startWaitingSweep (State.patrolLine op
      { u with array := Memory.flipLine u.array op.segment op.line flips, se := { u.se with patrolPending := .none } }))) := by
  rw [exec_eq, show effect (.patrolReadComplete flips) (found (.patrolReadComplete flips) s) = u.completePatrol flips
    from by rw [← hs]; rfl]
  simp only [State.completePatrol, State.delivered_of hg hreq hdel, hp]
  rfl

/-- What becomes of the sweep's mode and of the Line Link as a sweep that waited for the read starts, in the state `u`. -/
structure State.SweepResumed (u : State) (lli : LineLink) (mode : SweepMode) : Prop where
  patrol : u.se.mode = .patrol → mode = .patrol ∧ lli = u.lli
  fill : ∀ run, u.se.mode = .fill run → run.pos = none → HoldRetested (some run.first) u { u with lli := lli } ∧
    mode = .fill { run with pos := some ⟨run.first, u.physOf run.first, 0⟩, step := .raised }
  verify : ∀ run, u.se.mode = .verify run → run.step = .none → lli = u.lli ∧ mode = .verify { run with step := .raised }

/-- What follows the line handled: the cursor set, a sweep that waited started, the port FREE. -/
theorem State.sweepResumed_of {u k : State} (p n : Nat) (hlli : k.lli = u.lli) (htr : k.translate = u.translate)
    (hmode : k.se.mode = u.se.mode) (hphys : ∀ g, k.physOf g = u.physOf g) : ∃ lli mode, u.SweepResumed lli mode ∧
      State.freePort (State.startWaitingSweep (State.setCursor p n k)) = { k with
        lli := lli
        se := { k.se with mode := mode, cursorSegment := p, cursorLine := n }
        aa := { k.aa with grant := none } } := by
  let c := State.setCursor p n k
  refine ⟨c.startWaitingSweep.lli, c.startWaitingSweep.se.mode, ⟨fun h => ?_, fun run h hpos => ?_, fun run h hstep => ?_⟩, ?_⟩
  · rw [State.startWaitingSweep_patrol (s := c) (hmode.trans h)]
    exact ⟨hmode.trans h, hlli⟩
  · obtain ⟨hheld, hstarted⟩ := State.startWaitingSweep_starts (s := c) (hmode.trans h) hpos hlli htr
    rw [← hphys]
    exact ⟨hheld, hstarted⟩
  · rw [State.startWaitingSweep_verify (s := c) (hmode.trans h) hstep]
    exact ⟨hlli, rfl⟩
  · exact congrArg State.freePort c.startWaitingSweep_eq

/-- A patrol read's line: handled where its segment is eligible, and the cursor set past it. -/
theorem State.patrolLine_eq (op : PortOp) (s : State) : ∃ p n,
    s.patrolLine op = State.setCursor p n (if s.eligible op.segment then State.handleSweepLine .patrol op s else s) ∧
    (s.eligible op.segment = true → op.line < 4095 → p = op.segment ∧ n = op.line + 1) ∧
    (¬s.eligible op.segment = true ∨ 4095 ≤ op.line → p = (s.nextEligible op.segment).getD op.segment ∧ n = 0) := by
  by_cases he : s.eligible op.segment = true
  · rw [State.patrolLine_eligible he, if_pos he]
    by_cases hline : op.line < 4095
    · exact ⟨_, _, State.advanceCursor_next hline _, fun _ _ => ⟨rfl, rfl⟩, fun h => absurd h (by simp [he, hline])⟩
    · obtain ⟨-, ⟨-, -, -, -, -, hretire⟩, -⟩ := State.handleSweepLine_spec .patrol op s
      refine ⟨_, _, State.advanceCursor_beyond (Nat.le_of_not_lt hline) _, fun _ h => absurd h hline, fun _ => ⟨?_, rfl⟩⟩
      rw [hretire.sameService.nextEligible]
  · rw [State.patrolLine_not he, if_neg he]
    exact ⟨_, _, rfl, fun h => absurd h he, fun _ => ⟨rfl, rfl⟩⟩

/-- Handled or not, the line leaves the sweep but for its timer, the Line Link, and what is eligible and serves. -/
theorem State.patrolLine_frame_of (op : PortOp) {s k : State} (hnone : s.se.patrolPending = .none)
    (hk : (if s.eligible op.segment then State.handleSweepLine .patrol op s else s) = k) :
    k = { s with
      aa := { s.aa with grant := k.aa.grant, holdOff := k.aa.holdOff }
      se := { s.se with patrolTimer := k.se.patrolTimer }
      rc := k.rc, me := k.me, ru := k.ru, hm := k.hm, fcu := k.fcu, alu := k.alu, mp := k.mp } ∧
    s.SameService k ∧ k.rc.geometry = s.rc.geometry ∧ k.hm.epochTimer = s.hm.epochTimer := by
  split_ifs at hk
  · obtain ⟨hframe, ⟨-, -, hcal, -, hpatrol, hretire⟩, -⟩ := State.handleSweepLine_spec .patrol op s
    rw [hk] at hframe hcal hpatrol hretire
    have hse := hpatrol.timer hnone
    obtain ⟨hepoch, -⟩ := hcal
    refine ⟨?_, hretire.sameService, by rw [← hk]; simp, hepoch⟩
    rw [← hse]
    exact hframe
  · subst hk
    exact ⟨rfl, .of_rc rfl, rfl, rfl⟩

/-- The state in which a patrol read's line is handled: its changes in the array, and no read pending. -/
def State.patrolRead (m : Memory) (u : State) : State := { u with array := m, se := { u.se with patrolPending := .none } }

/-- What the line's words do to the state in which the line is handled, they do to the state before, and the rest of the completion keeps. -/
theorem ReadEffects.ofPatrol {p : Nat} {word : Nat → StoredWord} {ws : List Nat} {u k : State} {m : Memory}
    (h : ReadEffects p word ws (u.patrolRead m) k) (lli : LineLink) (mode : SweepMode) (a n : Nat) :
    let t : State := { k with
      lli := lli
      se := { k.se with mode := mode, cursorSegment := a, cursorLine := n }
      aa := { k.aa with grant := none } }
    CountsCorrected p word ws u t ∧ HandlesUncorrectable p word ws u t ∧ CountsCalibration p word ws u t ∧
      CompletesCalibrate p word ws u t ∧ OffersRetirement p word ws u t := by
  obtain ⟨hcounts, hmet, hcal, hends, -, hmoves, hstays⟩ := h
  refine ⟨hcounts, hmet, hcal, hends, fun hunc hopen => ?_, hstays⟩
  obtain ⟨hme, hrc, hspare⟩ := hmoves hunc hopen
  have halike : State.StartsAlike { u with aa := { u.aa with holdOff := k.aa.holdOff } }
      { u.patrolRead m with aa := { u.aa with holdOff := k.aa.holdOff } } := ⟨rfl, rfl, rfl, rfl, rfl, rfl, id⟩
  obtain ⟨-, -, hrc', hme', -, -, hspare'⟩ := halike.offer p
  exact ⟨hme.trans hme', hrc.trans hrc', fun hs => hspare (hspare' hs)⟩

end Sys2Proof.Machine

open Sys2Proof Sys2Proof.Machine

/-- Settles O27: the line is handled where its segment is still eligible, and the advance and a start after it find eligibility and moves as they were. -/
theorem patrolReadAdvancesTheCursor : Obligations.PatrolReadAdvancesTheCursor := by
  intro op flips s u hs hg hreq hdel hp array word ws clean moved eligible beyond
  let v : State := u.patrolRead array
  have hexec : exec (.patrolReadComplete flips) s = .next (State.freePort (State.startWaitingSweep (State.patrolLine op v))) :=
    exec_patrolReadComplete flips hs hg hreq hdel hp
  clear_value array
  have heligible : v.eligible op.segment = true ↔ eligible := u.eligible_iff op.segment
  obtain ⟨p, n, hline, hnext, hbeyond⟩ := v.patrolLine_eq op
  rw [heligible] at hnext hbeyond
  have hdone : u.se.mode = .patrol → (eligible → clean) → exec (.patrolReadComplete flips) s = moved p n := fun hmode hclean => by
    have hk : (if v.eligible op.segment then State.handleSweepLine .patrol op v else v) = v := by
      split_ifs with he
      · exact State.handleSweepLine_of_clean .patrol op v (hclean (heligible.mp he))
      · rfl
    rw [hexec, hline, hk, State.startWaitingSweep_patrol (s := State.setCursor p n v) hmode]
    rfl
  refine ⟨fun hmode he hclean hl => ?_, fun hmode he hclean hl => ?_, fun hmode he => ?_, ?_⟩
  · obtain ⟨rfl, rfl⟩ := hnext he hl
    exact hdone hmode fun _ => hclean
  · obtain ⟨hp, hn⟩ := hbeyond (.inr hl)
    rw [hdone hmode fun _ => hclean, hp, hn]
    rfl
  · obtain ⟨hp, hn⟩ := hbeyond (.inl he)
    rw [hdone hmode fun h => absurd h he, hp, hn]
    rfl
  · generalize hk : (if v.eligible op.segment then State.handleSweepLine .patrol op v else v) = k at hline
    obtain ⟨hframe, hservice, hgeo, hepoch⟩ := State.patrolLine_frame_of op (s := v) rfl hk
    have hlli : k.lli = v.lli := congrArg (fun x => x.lli) hframe
    have hmode : k.se.mode = v.se.mode := congrArg (fun x => x.se.mode) hframe
    have hset : k.settings = v.settings := congrArg (fun x => x.settings) hframe
    obtain ⟨lli, mode, ⟨hpatrol, hfill, hverify⟩, ht⟩ :=
      State.sweepResumed_of (u := u) p n hlli (State.translate_congr hset hgeo) hmode hservice.physOf
    rw [hexec, hline, ht]
    refine ⟨_, rfl, ?_, hnext, hbeyond, fun he => ?_, hepoch, fun he => ?_, hpatrol, hfill, hverify⟩
    · exact congrArg (fun x : State => { x with
        lli := lli
        se := { x.se with mode := mode, cursorSegment := p, cursorLine := n }
        aa := { x.aa with grant := none } }) hframe
    · have hkv : k = v := hk.symm.trans (if_neg (mt heligible.mp he))
      rw [hkv]
      exact ⟨rfl, rfl, rfl, rfl, rfl, rfl, rfl, rfl, rfl⟩
    · have hkh : State.handleSweepLine .patrol op v = k := (if_pos (heligible.mpr he)).symm.trans hk
      obtain ⟨-, heffects, hoffers, hreports⟩ := State.handleSweepLine_spec .patrol op v
      rw [hkh] at heffects hoffers hreports
      have halike : v.OffersAlike u := .of_eq rfl rfl
      have hru : OffersInOrder op.segment op.line word ws u k := Eq.trans hoffers (halike.offers op.segment op.line word _)
      obtain ⟨hcounts, hmet, hcal, hends, hretire⟩ := heffects.ofPatrol lli mode p n
      exact ⟨hcounts, hmet, hcal, hends, hretire, hru, hreports.carried rfl rfl rfl rfl⟩

end

-- ==== Proofs: RepairOffers ====
section
/-! SUPPORT. An offer to the Repair Unit, test by test in R80's order. -/

namespace Sys2Proof.Machine

section
variable {a : WordAddr} {s : State}

/-- Entries with other addresses keep their data. -/
theorem replaceRepair_of_absent {q : List RepairEntry} (d : Word) (h : ∀ e ∈ q, e.addr ≠ a) : replaceRepair a d q = q := by
  have hmap : replaceRepair a d q = q.map id := List.map_congr_left fun e he => if_neg (h e he)
  rw [hmap, List.map_id]

/-- The one entry with the address has its data replaced in its place. -/
theorem replaceRepair_of_one {pre post : List RepairEntry} {e : RepairEntry} (d : Word) (he : e.addr = a)
    (h : ∀ x ∈ pre ++ post, x.addr ≠ a) : replaceRepair a d (pre ++ e :: post) = pre ++ ⟨a, d⟩ :: post := by
  have hpre : replaceRepair a d pre = pre := replaceRepair_of_absent d fun x hx => h x (List.mem_append_left _ hx)
  have hpost : replaceRepair a d post = post := replaceRepair_of_absent d fun x hx => h x (List.mem_append_right _ hx)
  unfold replaceRepair at hpre hpost ⊢
  rw [List.map_append, List.map_cons, hpre, hpost, if_pos he]

theorem State.offerRepair_of_notInUse (d : Word) (h : (s.seg a.segment).role ≠ .inUse) : State.offerRepair a d s = s :=
  if_pos (by simpa using h)

theorem State.offerRepair_of_held (d : Word) (hrole : (s.seg a.segment).role = .inUse) (h : ∃ e ∈ s.ru.queue, e.addr = a) :
    State.offerRepair a d s = { s with ru := { s.ru with queue := replaceRepair a d s.ru.queue } } := by
  have hany : (s.ru.queue.any fun e => e.addr == a) = true := by simpa using h
  rw [State.offerRepair, if_neg (by simp [hrole]), if_pos hany]

/-- An address that no entry has: dropped where the queue is full, appended where it is not. -/
theorem State.offerRepair_of_absent (d : Word) (hrole : (s.seg a.segment).role = .inUse) (h : ∀ e ∈ s.ru.queue, e.addr ≠ a) :
    State.offerRepair a d s = if 8 ≤ s.ru.queue.length then State.setCause .repairOverflow s
      else { s with ru := { s.ru with queue := s.ru.queue ++ [⟨a, d⟩] } } := by
  have hany : ¬(s.ru.queue.any fun e => e.addr == a) = true := by simpa using h
  rw [State.offerRepair, if_neg (by simp [hrole]), if_neg hany, show Config.repairQueueEntries = 8 from rfl]

end

end Sys2Proof.Machine

open Sys2Proof Sys2Proof.Machine

/-- Settles O52: an offer by its tests, the segment's role first, then an entry with the address, then the queue's length. -/
theorem repairOffersAreTestedInOrder : Obligations.RepairOffersAreTestedInOrder := by
  rintro a d s _ rfl
  refine ⟨State.offerRepair_of_notInUse d, fun pre e post hrole hqueue he hothers => ?_, fun hrole habsent hfull => ?_,
    fun hrole habsent hroom => ?_⟩
  · have hheld : ∃ x ∈ s.ru.queue, x.addr = a := ⟨e, by simp [hqueue], he⟩
    rw [State.offerRepair_of_held d hrole hheld, hqueue, replaceRepair_of_one d he hothers]
  · have hmask : Cause.repairOverflow.mask = 0x200 := by decide
    rw [State.offerRepair_of_absent d hrole habsent, if_pos hfull, State.setCause, AlertUnit.set, hmask]
  · rw [State.offerRepair_of_absent d hrole habsent, if_neg (Nat.not_le.mpr hroom)]
    exact ⟨rfl, fun hrecord => State.repairRaised_eq_true.mpr ⟨by simp, hrecord⟩⟩

end

-- ==== Proofs: VerifyReads ====
section
/-! SUPPORT. A completed VERIFY read: its line handled as a patrol line, then VERIFY stopped, carried on or completed (R95, R102 to R104). -/

namespace Sys2Proof.Machine

/-! ## The position past a line (R102) -/

theorem nextVerifyPos_line {pos : SweepPos} (s : State) (run : SweepRun) (h : pos.line < 4095) :
    nextVerifyPos s run pos = some { pos with line := pos.line + 1 } := if_pos (Nat.succ_lt_succ h)

theorem nextVerifyPos_segment {pos : SweepPos} {run : SweepRun} (s : State) (h : 4095 ≤ pos.line) (hlast : pos.logical ≠ run.last) :
    nextVerifyPos s run pos = some ⟨pos.logical + 1, s.physOf (pos.logical + 1), 0⟩ := by
  rw [nextVerifyPos, if_neg (Nat.not_lt.mpr (Nat.succ_le_succ h)), if_neg hlast]

theorem nextVerifyPos_last {pos : SweepPos} {run : SweepRun} (s : State) (h : 4095 ≤ pos.line) (hlast : pos.logical = run.last) :
    nextVerifyPos s run pos = none := by
  rw [nextVerifyPos, if_neg (Nat.not_lt.mpr (Nat.succ_le_succ h)), if_pos hlast]

/-! ## What follows the line handled (R102 to R104) -/

/-- Word `w` of the line that an operation reads. -/
def State.readWord (op : PortOp) (s : State) (w : Nat) : StoredWord := Memory.read s.array (op.segment * 32768 + op.line * 8 + w)

/-- The corrected total once the line's CORRECTED words are in it. -/
def State.verifyTotal (run : SweepRun) (op : PortOp) (s : State) : Nat :=
  run.count + (correctedWords (s.readWord op) (List.range 8)).length

/-- VERIFY ended with outcome `o` and results `rs`. -/
def State.verifyEnded (o : CmdOutcome) (rs : List (BitVec 16)) (s : State) : State :=
  State.completeLong o (State.leaveResults rs (State.endSweep s))

/-- VERIFY carried on from position `p` with the total `n`. -/
def State.verifyOn (run : SweepRun) (n : Nat) (p : SweepPos) (s : State) : State :=
  { s with se := { s.se with mode := .verify { run with count := n, pos := some p, step := .raised } } }

section
variable {run : SweepRun} {pos : SweepPos} {op : PortOp} {s : State}

theorem State.verifyWords_eq (op : PortOp) (s : State) : selectWords (fun _ => true) (State.readLine op s) =
    (List.range 8).map fun w => (w, s.readWord op w) := selectWords_line _ _ _ _

/-- The lowest word that cannot be delivered stops VERIFY. -/
theorem State.verifyLine_of_bad {w : Nat} {c : BadClass} (hw : w < 8) (hc : badClass (s.readWord op w) = some c)
    (hlow : ∀ v < w, badClass (s.readWord op v) = none) : s.verifyLine run pos op =
      State.verifyEnded .uncorrectable (verifyStopResults run pos op w c (s.verifyTotal run op)) (s.handleSweepLine .verify op) := by
  obtain ⟨x, hx, hwc⟩ := Option.map_eq_some_iff.mp
    ((firstBad_map_eq_some (s.readWord op) (List.range 8) List.pairwise_lt_range w c).mpr
      ⟨List.mem_range.mpr hw, hc, fun v _ hv => hlow v hv⟩)
  obtain ⟨rfl, rfl⟩ := Prod.mk.inj hwc
  simp only [State.verifyLine, State.verifyWords_eq, hx, countOfClass_map]
  rfl

/-- A line of words that can be delivered carries VERIFY to the next position. -/
theorem State.verifyLine_goesOn {p : SweepPos} (h : ∀ w < 8, badClass (s.readWord op w) = none)
    (hp : nextVerifyPos (s.handleSweepLine .verify op) run pos = some p) :
    s.verifyLine run pos op = State.verifyOn run (s.verifyTotal run op) p (s.handleSweepLine .verify op) := by
  have hnone : firstBad ((List.range 8).map fun w => (w, s.readWord op w)) = none :=
    firstBad_map_eq_none fun w hw => h w (List.mem_range.mp hw)
  simp only [State.verifyLine, State.verifyWords_eq, hnone, hp, countOfClass_map]
  rfl

/-- A line of words that can be delivered, with no position past it, completes VERIFY. -/
theorem State.verifyLine_completes (h : ∀ w < 8, badClass (s.readWord op w) = none)
    (hp : nextVerifyPos (s.handleSweepLine .verify op) run pos = none) :
    s.verifyLine run pos op = State.verifyEnded .ok (verifyOkResults (s.verifyTotal run op)) (s.handleSweepLine .verify op) := by
  have hnone : firstBad ((List.range 8).map fun w => (w, s.readWord op w)) = none :=
    firstBad_map_eq_none fun w hw => h w (List.mem_range.mp hw)
  simp only [State.verifyLine, State.verifyWords_eq, hnone, hp, countOfClass_map]
  rfl

theorem State.verifyTotal_of_clean (run : SweepRun) (h : ∀ w < 8, classify (s.readWord op w) = .clean) : s.verifyTotal run op = run.count := by
  have hnil : correctedWords (s.readWord op) (List.range 8) = [] :=
    List.filter_eq_nil_iff.mpr fun w hw => by simp [h w (List.mem_range.mp hw)]
  rw [State.verifyTotal, hnil, List.length_nil, Nat.add_zero]

theorem State.verifyEnded_eq (o : CmdOutcome) (rs : List (BitVec 16)) (s : State) : s.verifyEnded o rs = { s with
    se := { s.se with mode := .patrol }
    mp := { s.mp with lastOutcome := o, longOutcome := o, busy := false, results := rs }
    alu := s.alu.set .commandDone } := rfl

theorem State.verifyOn_freed (run : SweepRun) (n : Nat) (p : SweepPos) (s : State) :
    (State.freePort (s.verifyOn run n p)).mp = s.mp ∧ (State.freePort (s.verifyOn run n p)).se =
      { s.se with mode := .verify { run with count := n, pos := some p, step := .raised } } := ⟨rfl, rfl⟩

/-- Beside the line's handling, VERIFY writes the sweep's mode and the command block, and sets no cause but COMMAND_DONE. -/
theorem State.verifyLine_eq (run : SweepRun) (pos : SweepPos) (op : PortOp) (s : State) :
    let k := s.handleSweepLine .verify op
    ∃ mode mp alu, s.verifyLine run pos op = { k with se := { k.se with mode := mode }, mp := mp, alu := alu } ∧
      ∀ c, k.alu.isSet c = true → alu.isSet c = true := by
  intro k
  have hset : ∀ c, k.alu.isSet c = true → (k.alu.set .commandDone).isSet c = true := fun c hc => by simp [AlertUnit.isSet_set, hc]
  by_cases hbad : ∃ w ∈ List.range 8, badClass (s.readWord op w) ≠ none
  · obtain ⟨w, hw, hc, hlow⟩ := exists_lowest_bad List.pairwise_lt_range hbad
    obtain ⟨c, hc⟩ := Option.ne_none_iff_exists'.mp hc
    have hw : w < 8 := List.mem_range.mp hw
    rw [State.verifyLine_of_bad hw hc fun v hv => hlow v (List.mem_range.mpr (hv.trans hw)) hv, State.verifyEnded_eq]
    exact ⟨_, _, _, rfl, hset⟩
  · have hall : ∀ w < 8, badClass (s.readWord op w) = none := fun w hw => of_not_not fun hc => hbad ⟨w, List.mem_range.mpr hw, hc⟩
    cases hp : nextVerifyPos k run pos with
    | some p =>
      rw [State.verifyLine_goesOn hall hp]
      exact ⟨_, _, _, rfl, fun _ => id⟩
    | none =>
      rw [State.verifyLine_completes hall hp, State.verifyEnded_eq]
      exact ⟨_, _, _, rfl, hset⟩

end

/-- VERIFY_SWEEP_READ_COMPLETE takes the line's changes into the array and hands the line to VERIFY. -/
theorem exec_verifySweepReadComplete {op : PortOp} {run : SweepRun} {pos : SweepPos} {s u : State} (flips : LineFlips)
    (hs : s.settle = u) (hg : u.aa.grant = some op) (hreq : op.requester = .sweep) (hdel : op.deliver = true)
    (hmode : u.se.mode = .verify run) (hpos : run.pos = some pos) (hstep : run.step = .outstanding) :
    exec (.verifySweepReadComplete flips) s = .next (State.freePort (State.verifyLine run pos op
      { u with array := Memory.flipLine u.array op.segment op.line flips })) := by
  rw [exec_eq, show effect (.verifySweepReadComplete flips) (found (.verifySweepReadComplete flips) s) = u.completeVerify flips
    from by rw [← hs]; rfl]
  simp only [State.completeVerify, State.delivered_of hg hreq hdel, hmode, hpos, hstep]
  rfl

/-! ## What a line's words leave of the sweep and of the command block (R91, R143) -/

section
variable {p : Nat} {word : Nat → StoredWord} {ws : List Nat} {u t : State}

/-- A CALIBRATE that ends writes of the Sweep Engine the patrol timer and the pending read alone. -/
theorem RechecksPatrol.sweepEngine (h : RechecksPatrol p word ws u t) :
    t.se = { u.se with patrolTimer := t.se.patrolTimer, patrolPending := t.se.patrolPending } := by
  obtain ⟨hends, hstays⟩ := h
  by_cases he : EndsCalibration p word ws u
  · exact (hends he).1
  · rw [hstays he]

/-- An outcome and results written after the words stand as if no CALIBRATE had ended in them. -/
theorem CompletesCalibrate.overwritten (h : CompletesCalibrate p word ws u t) (o : CmdOutcome) (rs : List (BitVec 16)) :
    { t.mp with lastOutcome := o, longOutcome := o, busy := false, results := rs } =
      { u.mp with lastOutcome := o, longOutcome := o, busy := false, results := rs } := by
  obtain ⟨hends, hstays⟩ := h
  by_cases he : EndsCalibration p word ws u
  · rw [(hends he).2]
  · rw [(hstays he).1]

/-- Words of which each can be delivered end no CALIBRATE. -/
theorem not_endsCalibration_of_delivered (h : ∀ w ∈ ws, badClass (word w) = none) : ¬EndsCalibration p word ws u := by
  rintro ⟨⟨⟨w, hw, hunc⟩, -⟩, -⟩
  have hbad := badClass_of_uncorrectable hunc
  rw [h w hw] at hbad
  cases hbad

/-- The report stands where more causes are set after it. -/
theorem ReportsLowest.kept {mk : FaultKind → Nat → FaultReport} {t' : State} (h : ReportsLowest mk word ws u t)
    (hfcu : t'.fcu = t.fcu) (hkeep : ∀ c, t.alu.isSet c = true → t'.alu.isSet c = true) : ReportsLowest mk word ws u t' := by
  obtain ⟨hbad, hdelivered⟩ := h
  unfold ReportsLowest
  rw [hfcu]
  refine ⟨fun w hw hlow => ⟨fun hc => ?_, fun hc => ?_⟩, fun hall => ⟨fun w hw hcap hc hlow => ?_, (hdelivered hall).2⟩⟩
  · exact ((hbad w hw hlow).1 hc).imp_right (hkeep _)
  · exact ((hbad w hw hlow).2 hc).imp_right (hkeep _)
  · exact ((hdelivered hall).1 w hw hcap hc hlow).imp_right fun hset hnone => hkeep _ (hset hnone)

/-- What the words do stays as VERIFY writes the sweep's mode and the command block and sets COMMAND_DONE. -/
theorem ReadEffects.ofVerify {k : State} {m : Memory} (h : ReadEffects p word ws { u with array := m } k) {alu : AlertUnit}
    (hkeep : ∀ c, k.alu.isSet c = true → alu.isSet c = true) (mode : SweepMode) (mp : MgmtPort) :
    let t : State := { k with se := { k.se with mode := mode }, mp := mp, alu := alu, aa := { k.aa with grant := none } }
    CountsCorrected p word ws u t ∧ HandlesUncorrectable p word ws u t ∧ CountsCalibration p word ws u t ∧
      OffersRetirement p word ws u t := by
  obtain ⟨hcounts, ⟨hhold, hkept, halarm, hrecord, hothers⟩, hcal, -, -, hmoves, hstays⟩ :=
    h.carried (fcu := k.fcu) (lli := k.lli) (grant := none) (fun _ => id) rfl
  exact ⟨hcounts, ⟨hhold, hkept, fun hm ho => (halarm hm ho).imp_left (hkeep _), hrecord, hothers⟩, hcal,
    fun hm ho => (hmoves hm ho).imp_right fun hrest => hrest.imp_right fun hspare hs => hkeep _ (hspare hs), hstays⟩

end

/-- A VERIFY line handled, on the array `m` with the line's changes in it, and what stands of its effects as VERIFY has gone on, stopped or completed (R93, R94). -/
theorem State.verifyLine_spec (run : SweepRun) (pos : SweepPos) (op : PortOp) (u : State) (m : Memory) :
    let word := fun w => m.read (op.segment * 32768 + op.line * 8 + w)
    let ws := List.range 8
    let t := State.freePort (State.verifyLine run pos op { u with array := m })
    t = { u with
      array := m
      aa := { u.aa with grant := none, holdOff := t.aa.holdOff }
      rc := t.rc, me := t.me, se := t.se, ru := t.ru, hm := t.hm, fcu := t.fcu, alu := t.alu, mp := t.mp } ∧
    CountsCorrected op.segment word ws u t ∧ HandlesUncorrectable op.segment word ws u t ∧ CountsCalibration op.segment word ws u t ∧
    OffersRetirement op.segment word ws u t ∧ OffersInOrder op.segment op.line word ws u t ∧
    ReportsLowest (fun k w => ⟨k, .verify, some (⟨op.segment, op.line, w⟩, syndromeByte (word w)),
      u.logicalOf op.segment, none⟩) word ws u t := by
  intro word ws t
  let v : State := { u with array := m }
  obtain ⟨hframe, heffects, hoffers, hreports⟩ := State.handleSweepLine_spec .verify op v
  obtain ⟨mode, mp, alu, hverify, hkeep⟩ := v.verifyLine_eq run pos op
  obtain ⟨hcounts, hmet, hcal, hretire⟩ := heffects.ofVerify hkeep mode mp
  have halike : v.OffersAlike u := .of_eq rfl rfl
  rw [show t = _ from congrArg State.freePort hverify]
  refine ⟨?_, hcounts, hmet, hcal, hretire, Eq.trans hoffers (halike.offers op.segment op.line word _),
    ReportsLowest.kept (hreports.carried rfl rfl rfl rfl) rfl hkeep⟩
  exact congrArg (fun x : State => { x with
    se := { x.se with mode := mode }, mp := mp, alu := alu, aa := { x.aa with grant := none } }) hframe

end Sys2Proof.Machine

open Sys2Proof Sys2Proof.Machine

/-- Settles O29: the line handled, and then the branches of R102 to R104 by the lowest word that cannot be delivered and by the position. -/
theorem verifyStopsOrGoesOn : Obligations.VerifyStopsOrGoesOn := by
  intro op flips run pos s u hs hg hreq hdel hmode hpos hstep array word ws total delivers
  let v : State := { u with array := array }
  let k : State := State.handleSweepLine .verify op v
  have hexec : exec (.verifySweepReadComplete flips) s = .next (State.freePort (v.verifyLine run pos op)) :=
    exec_verifySweepReadComplete flips hs hg hreq hdel hmode hpos hstep
  clear_value array
  rw [hexec]
  refine ⟨fun hclean => ?_, _, rfl, ?_⟩
  · have htotal : v.verifyTotal run op = run.count := State.verifyTotal_of_clean run hclean
    have hsame : v.handleSweepLine .verify op = v := State.handleSweepLine_of_clean .verify op v hclean
    have hall : ∀ w < 8, badClass (v.readWord op w) = none := fun w hw => badClass_of_clean (hclean w hw)
    refine ⟨fun hl => ?_, fun hl hlast => ?_, fun hl hlast => ?_⟩
    · rw [State.verifyLine_goesOn hall (nextVerifyPos_line _ run hl), hsame, htotal]
      rfl
    · rw [State.verifyLine_goesOn hall (nextVerifyPos_segment _ hl hlast), hsame, htotal]
      rfl
    · rw [State.verifyLine_completes hall (nextVerifyPos_last _ hl hlast), hsame, htotal, State.verifyEnded_eq, AlertUnit.set_commandDone]
      rfl
  · obtain ⟨hframe, hcounts, hmet, hcal, hretire, hoffers, hreports⟩ := State.verifyLine_spec run pos op u array
    obtain ⟨-, ⟨-, -, -, hends, hpatrol, hmoves⟩, -⟩ := State.handleSweepLine_spec .verify op v
    have hdone : ∀ o rs, (State.freePort (State.verifyEnded o rs k)).alu.isSet .commandDone = true := fun o rs => by
      simp [State.verifyEnded_eq, AlertUnit.isSet_set]
    have hquiet : delivers → k.mp = u.mp ∧ ∀ m, { k.se with mode := m } = { u.se with mode := m } := fun hall => by
      have hnone := not_endsCalibration_of_delivered (p := op.segment) (u := v) fun w hw => hall w (List.mem_range.mp hw)
      exact ⟨(hends.2 hnone).1, fun m => congrArg (fun x : SweepEngine => { x with mode := m }) (hpatrol.2 hnone)⟩
    refine ⟨hframe, hcounts, hmet, hcal, hretire, hoffers, hreports, fun w hw c hc hlow => ?_, fun hall hl => ?_, fun hall hl hlast => ?_,
      fun hall hl hlast => ?_⟩
    · rw [State.verifyLine_of_bad (s := v) hw hc hlow]
      refine ⟨?_, hdone _ _, ?_⟩
      · exact congrArg (fun x : SweepEngine => { x with mode := .patrol }) hpatrol.sweepEngine
      · cases c <;> exact hends.overwritten _ _
    · obtain ⟨hmp, hse⟩ := hquiet hall
      obtain ⟨hmp', hse'⟩ := State.verifyOn_freed run total { pos with line := pos.line + 1 } k
      rw [State.verifyLine_goesOn (s := v) hall (nextVerifyPos_line _ run hl)]
      exact ⟨hmp'.trans hmp, hse'.trans (hse _)⟩
    · obtain ⟨hmp, hse⟩ := hquiet hall
      obtain ⟨hmp', hse'⟩ := State.verifyOn_freed run total ⟨pos.logical + 1, u.physOf (pos.logical + 1), 0⟩ k
      rw [State.verifyLine_goesOn (s := v) hall (nextVerifyPos_segment _ hl hlast), hmoves.sameService.physOf]
      exact ⟨hmp'.trans hmp, hse'.trans (hse _)⟩
    · rw [State.verifyLine_completes (s := v) hall (nextVerifyPos_last _ hl hlast)]
      exact ⟨hdone _ _, (hquiet hall).2 _, hends.overwritten _ _⟩

end

-- ==== Proofs: EngineResetAborts ====
section
/-! SUPPORT. The long command that an ENGINE_RESET aborts: its outcome, and the results it leaves by its code (R106, R144, R194). -/

namespace Sys2Proof.Machine

/-- The command block after an ENGINE_RESET that aborts a long command: only the results depend on which one it is. -/
theorem State.engineReset_mp_aborts (s : State) (h : s.mode ≠ .init) (hb : s.mp.busy = true) :
    s.engineReset.mp = { s.mp with
      lastCommand := 0x02, lastOutcome := .ok, longOutcome := .aborted, busy := false, refusedBusy := false
      refusedCommand := 0, results := s.abortResults.mp.results } := by
  have habort : s.abortLong = State.completeLong .aborted s.abortResults := if_pos hb
  have hresults : s.abortResults.mp = { s.mp with results := s.abortResults.mp.results } := by
    unfold State.abortResults
    split_ifs <;> rfl
  have hreset : s.engineReset.mp = { s.abortLong.mp with
      lastCommand := 0x02, lastOutcome := .ok, refusedBusy := false, refusedCommand := 0 } := by
    simp [s.engineReset_eq h]
  rw [hreset, habort]
  exact congrArg (fun m : MgmtPort => { m with
    lastCommand := 0x02, lastOutcome := .ok, longOutcome := .aborted, busy := false, refusedBusy := false
    refusedCommand := 0 }) hresults

section
variable {s : State}

/-- FILL leaves the segments it has filled (R106). -/
theorem State.abortResults_fill {run : SweepRun} (hc : s.mp.longCommand = 0x10) (hm : s.se.mode = .fill run) :
    s.abortResults.mp.results = fillResults run.count := by
  rw [State.abortResults, if_pos hc]
  simp [State.abortedFill, hm]

/-- VERIFY leaves what remains and its corrected total (R106). -/
theorem State.abortResults_verify {run : SweepRun} (hc : s.mp.longCommand = 0x11) (hm : s.se.mode = .verify run) :
    s.abortResults.mp.results = verifyAbortResults run := by
  rw [State.abortResults, if_neg (by simp [hc]), if_pos hc]
  simp [State.abortedVerify, hm]

/-- CALIBRATE leaves its counts (R144). -/
theorem State.abortResults_calibrate (hc : s.mp.longCommand = 0x43) : s.abortResults.mp.results = s.hm.cal.results := by
  rw [State.abortResults, if_neg (by simp [hc]), if_neg (by simp [hc]), if_pos hc]
  rfl

/-- QUIESCE writes no results. -/
theorem State.abortResults_quiesce (hc : s.mp.longCommand = 0x22) : s.abortResults.mp.results = s.mp.results := by
  simp [State.abortResults, hc]

end

/-- The layout of an aborted VERIFY that has a position (R196). -/
theorem verifyAbortResults_at {run : SweepRun} {pos : SweepPos} (h : run.pos = some pos) : verifyAbortResults run =
    [0xFFFF, 0xFFFF, 0xFFFF, 0xFFFF, BitVec.ofNat 16 (run.last + 1 - pos.logical),
      BitVec.ofNat 16 run.count, BitVec.ofNat 16 (run.count / 65536), 0xFFFF] := by
  rw [verifyAbortResults, h]
  rfl

end Sys2Proof.Machine

open Sys2Proof Sys2Proof.Machine

/-- Settles O11: the command block of the abort, and the results by the code of the long command. -/
theorem engineResetAbortsTheLongCommand : Obligations.EngineResetAbortsTheLongCommand := by
  intro s u hs hmode hbusy
  have hexec : exec .engineReset s = .next u.engineReset := by
    rw [exec_eq, ← hs]
    rfl
  have hmp := u.engineReset_mp_aborts hmode hbusy
  obtain ⟨-, -, -, -, -, halu, -⟩ := u.engineReset_blocks hmode
  refine ⟨_, hexec, ?_⟩
  rw [hmp, halu]
  refine ⟨rfl, rfl, rfl, rfl, rfl, AlertUnit.isSet_resetSeen _ _, fun run hc hm => ?_, fun run pos hc hm hpos => ?_, fun hc => ?_,
    State.abortResults_quiesce⟩
  · exact State.abortResults_fill hc hm
  · exact (State.abortResults_verify hc hm).trans (verifyAbortResults_at hpos)
  · exact State.abortResults_calibrate hc

end

-- ==== Proofs: PatrolTick ====
section
/-! SUPPORT. PATROL_TICK: the next eligible segment, and the table of R91. -/

namespace Sys2Proof.Machine

/-! ## The next eligible segment (R91, R92) -/

section
variable {s : State} {c p : Nat}

/-- The search from `c`: the segments above it in rising order, then those from 0 up to `c` itself. -/
theorem State.nextEligible_eq (s : State) (c : Nat) : s.nextEligible c =
    ((List.range' (c + 1) (s.rc.segs.length - (c + 1))).find? s.eligible).or
      ((List.range (min (c + 1) s.rc.segs.length)).find? s.eligible) := by
  rw [State.nextEligible, List.find?_append, List.take_range, List.range_eq_range', List.drop_range', Nat.zero_add, Nat.mul_one]

/-- Nothing eligible above `c`: the first half of the search finds nothing. -/
theorem State.find_above_none (h : ∀ q, c < q → s.eligible q = false) :
    (List.range' (c + 1) (s.rc.segs.length - (c + 1))).find? s.eligible = none :=
  List.find?_eq_none.mpr fun q hq => by simp [h q (List.mem_range'_1.mp hq).1]

/-- The lowest eligible segment above `c` comes first. -/
theorem State.nextEligible_above (hp : s.eligible p = true) (hc : c < p) (hq : ∀ q, c < q → q < p → s.eligible q = false) :
    s.nextEligible c = some p := by
  have hlt := s.lt_of_eligible p hp
  have hfound : (List.range' (c + 1) (s.rc.segs.length - (c + 1))).find? s.eligible = some p := by
    rw [List.find?_range'_eq_some, List.mem_range'_1]
    exact ⟨hp, by omega, fun q hcq hqp => by simp [hq q hcq hqp]⟩
  rw [State.nextEligible_eq, hfound, Option.some_or]

/-- With none above `c` the search wraps to the lowest eligible segment. -/
theorem State.nextEligible_wraps (hp : s.eligible p = true) (habove : ∀ q, c < q → s.eligible q = false)
    (hq : ∀ q < p, s.eligible q = false) : s.nextEligible c = some p := by
  have hlt := s.lt_of_eligible p hp
  have hpc : p ≤ c := Nat.le_of_not_lt fun h => by simp [habove p h] at hp
  have hfound : (List.range (min (c + 1) s.rc.segs.length)).find? s.eligible = some p := by
    rw [List.find?_range_eq_some, List.mem_range]
    exact ⟨hp, by omega, fun q hqp => by simp [hq q hqp]⟩
  rw [State.nextEligible_eq, State.find_above_none habove, hfound, Option.none_or]

theorem State.nextEligible_none (h : ∀ q, s.eligible q = false) : s.nextEligible c = none := by
  rw [State.nextEligible_eq, State.find_above_none fun q _ => h q, Option.none_or]
  exact List.find?_eq_none.mpr fun q _ => by simp [h q]

end

/-! ## The table of R91 -/

/-- The patrol is active, field by field (R90). -/
theorem State.patrolActive_iff (s : State) : s.patrolActive = true ↔
    s.mode = .online ∧ s.se.mode = .patrol ∧ s.me.quiesced = false ∧ s.pace ≠ 0 := by
  unfold State.patrolActive State.inPatrol
  cases s.se.mode <;> simp [and_assoc]

section
variable {s : State}

theorem State.tickAction_inactive (h : ¬s.patrolActive = true) : s.tickAction = s := by
  simp [State.tickAction, h]

theorem State.tickAction_pending (h : s.se.patrolPending ≠ .none) : s.tickAction = s := by
  simp [State.tickAction, h]

theorem State.tickAction_cursor (ha : s.patrolActive = true) (hp : s.se.patrolPending = .none)
    (he : s.eligible s.se.cursorSegment = true) : s.tickAction = State.raisePatrol s.se.cursorSegment s.se.cursorLine s := by
  simp [State.tickAction, ha, hp, he]

theorem State.tickAction_next {p : Nat} (ha : s.patrolActive = true) (hp : s.se.patrolPending = .none)
    (he : ¬s.eligible s.se.cursorSegment = true) (hn : s.nextEligible s.se.cursorSegment = some p) :
    s.tickAction = State.raisePatrol p 0 s := by
  simp [State.tickAction, ha, hp, he, hn]

theorem State.tickAction_noneEligible (ha : s.patrolActive = true) (hp : s.se.patrolPending = .none)
    (h : ∀ p, s.eligible p = false) : s.tickAction = s := by
  simp [State.tickAction, ha, hp, h, State.nextEligible_none h]

theorem State.endPatrolTimer_running {n : Nat} (h : s.se.patrolTimer = some n) :
    s.endPatrolTimer = s.tickAction.restartPatrolTimer := by
  simp only [State.endPatrolTimer, h]

end

end Sys2Proof.Machine

open Sys2Proof Sys2Proof.Machine

/-- Settles O34, by the rows of R91's table and, where the cursor's segment is not eligible, by where the next eligible one lies. -/
theorem patrolTickRaisesARead : Obligations.PatrolTickRaisesARead := by
  intro n s u hs htimer timer lost raised active eligible
  have hactive : u.patrolActive = true ↔ active := u.patrolActive_iff
  have heligible : ∀ p, u.eligible p = true ↔ eligible p := u.eligible_iff
  have hnot : ∀ {p}, ¬eligible p → u.eligible p = false := fun h => Bool.eq_false_iff.mpr (mt (heligible _).mp h)
  have hexec : exec .patrolTick s = .next u.tickAction.restartPatrolTimer := by
    rw [← State.endPatrolTimer_running htimer, ← hs]
    rfl
  have hlost : u.tickAction = u → exec .patrolTick s = lost := fun h => by
    rw [hexec, h]
    rfl
  have hraised : ∀ p l, u.tickAction = State.raisePatrol p l u → exec .patrolTick s = raised p l := fun p l h => by
    rw [hexec, h]
    rfl
  refine ⟨fun ha => hlost (State.tickAction_inactive (mt hactive.mp ha)), fun hp => hlost (State.tickAction_pending hp),
    fun ha hp he => hraised _ _ (State.tickAction_cursor (hactive.mpr ha) hp ((heligible _).mpr he)),
    fun p ha hp he _ hep hcp hq => hraised p 0 (State.tickAction_next (hactive.mpr ha) hp (mt (heligible _).mp he) ?_),
    fun p ha hp he hep habove hq => hraised p 0 (State.tickAction_next (hactive.mpr ha) hp (mt (heligible _).mp he) ?_),
    fun ha hp hnone => hlost (State.tickAction_noneEligible (hactive.mpr ha) hp fun p => hnot (hnone p))⟩
  · exact State.nextEligible_above ((heligible p).mpr hep) hcp fun q hcq hqp => hnot (hq q hcq hqp)
  · exact State.nextEligible_wraps ((heligible p).mpr hep) (fun q hcq => hnot (habove q hcq)) fun q hqp => hnot (hq q hqp)

end

-- ==== Proofs: VerifyStart ====
section
/-! SUPPORT. The command VERIFY: its checks in order, and its first read (R91, R95, R101). -/

namespace Sys2Proof.Machine

/-! ## The checks (R101) -/

section
variable {s : State} {f n : Nat}

/-- The range check, with a count of 0 read as reaching L. -/
theorem State.badRange_iff (s : State) (f : Nat) (c : BitVec 16) : (s.numL ≤ f ∨ s.numL < s.rangeEnd f c.toNat) ↔
    ¬(f < s.numL ∧ f + (if c = 0 then s.numL - f else c.toNat) ≤ s.numL) := by
  rw [not_and_or, not_lt, not_le]
  refine or_congr_right' fun hf => ?_
  rw [State.rangeEnd_eq c (Nat.le_of_not_le hf)]

/-- Every segment that serves the logical segments from `f` up to `last` is filled. -/
def State.FilledFrom (s : State) (f last : Nat) : Prop := ∀ g, f ≤ g → g < last → (s.seg (s.physOf g)).filled = true

theorem State.anyUnfilled_iff (s : State) (f last : Nat) :
    ((List.range (last - f)).any fun k => !(s.seg (s.physOf (f + k))).filled) = true ↔ ¬s.FilledFrom f last := by
  simp only [State.FilledFrom, List.any_eq_true, List.mem_range, Bool.not_eq_true', not_forall]
  constructor
  · rintro ⟨k, hk, hempty⟩
    exact ⟨f + k, by omega, by omega, by simp [hempty]⟩
  · rintro ⟨g, hfg, hg, hempty⟩
    exact ⟨g - f, by omega, by simpa [Nat.add_sub_cancel' hfg] using hempty⟩

theorem State.checkVerify_offline (h : s.mode ≠ .online) : s.checkVerify f n = some .notOnline := by
  simp [State.checkVerify, h]

theorem State.checkVerify_badRange (h : s.mode = .online) (hrange : s.numL ≤ f ∨ s.numL < s.rangeEnd f n) :
    s.checkVerify f n = some .badParameter := by
  simp [State.checkVerify, h, hrange]

theorem State.checkVerify_unfilled (h : s.mode = .online) (hrange : ¬(s.numL ≤ f ∨ s.numL < s.rangeEnd f n))
    (hfilled : ¬s.FilledFrom f (s.rangeEnd f n)) : s.checkVerify f n = some .notFilled := by
  unfold State.checkVerify
  rw [if_neg (by simp [h]), if_neg hrange]
  exact if_pos ((s.anyUnfilled_iff f _).mpr hfilled)

theorem State.checkVerify_starts (h : s.mode = .online) (hrange : ¬(s.numL ≤ f ∨ s.numL < s.rangeEnd f n))
    (hfilled : s.FilledFrom f (s.rangeEnd f n)) : s.checkVerify f n = none := by
  unfold State.checkVerify
  rw [if_neg (by simp [h]), if_neg hrange]
  exact if_neg fun h' => (s.anyUnfilled_iff f _).mp h' hfilled

end

section
variable {s : State}

theorem State.takeVerify_refused {o : CmdOutcome} (h : s.checkVerify s.mp.param0.toNat s.mp.param1.toNat = some o) :
    s.takeVerify = State.leaveResults noResults (State.answerLong 0x11 o s) := by
  rw [State.takeVerify, h]

theorem State.takeVerify_starts (h : s.checkVerify s.mp.param0.toNat s.mp.param1.toNat = none) :
    s.takeVerify = State.startVerify s.mp.param0.toNat s.mp.param1.toNat s := by
  rw [State.takeVerify, h]

end

/-! ## The start (R91, R95, R101) -/

/-- Of a pending patrol read, once a RAISED one is withdrawn, only an outstanding one is left (R91). -/
theorem pending_withdrawn (x : OpStep) :
    (if x = .raised then OpStep.none else x) = if x = .outstanding then .outstanding else .none := by
  cases x <;> rfl

/-- The VERIFY stands at line 0 of its first segment, and its read is raised unless a patrol read is outstanding. -/
theorem State.startVerify_eq (f n : Nat) (s : State) : State.startVerify f n s =
    { State.startLong 0x11 s with se := { s.se with
      mode := .verify ⟨f, s.rangeEnd f n - 1, 0, some ⟨f, s.physOf f, 0⟩,
        if s.se.patrolPending = .outstanding then .none else .raised⟩
      patrolPending := if s.se.patrolPending = .outstanding then .outstanding else .none } } := by
  rw [← pending_withdrawn]
  exact State.recheckPatrol_suspended rfl

end Sys2Proof.Machine

open Sys2Proof Sys2Proof.Machine

/-- Settles O43, by R101's conditions in their order. -/
theorem verifyIsCheckedAndStarts : Obligations.VerifyIsCheckedAndStarts := by
  intro s u hs hbusy hinit f L n inRange filled refused
  have htaken : exec .verify s = .next (State.takeVerify u.clearRefusal) := exec_taken rfl hs hinit hbusy
  have hrefused : ∀ o, u.checkVerify f u.mp.param1.toNat = some o → exec .verify s = refused o := by
    intro o ho
    rw [htaken, State.takeVerify_refused (s := u.clearRefusal) ho]
    refine congrArg _ (State.eq_of_fields ?_)
    simp [AlertUnit.set_commandDone, noResults, hbusy]
  have hbound : f < L → u.rangeEnd f u.mp.param1.toNat = f + n := fun h => State.rangeEnd_eq _ (Nat.le_of_lt h)
  have hrange : (u.numL ≤ f ∨ u.numL < u.rangeEnd f u.mp.param1.toNat) ↔ ¬inRange := u.badRange_iff f _
  have hfilled : inRange → (u.FilledFrom f (u.rangeEnd f u.mp.param1.toNat) ↔ filled) := fun h => by
    rw [hbound h.1]
    exact Iff.rfl
  refine ⟨fun hmode => hrefused _ (State.checkVerify_offline hmode),
    fun hmode h => hrefused _ (State.checkVerify_badRange hmode (hrange.mpr h)),
    fun hmode h hf => hrefused _ (State.checkVerify_unfilled hmode (fun h' => hrange.mp h' h) (mt (hfilled h).mp hf)),
    fun hmode h hf => ?_⟩
  have hcheck : u.checkVerify f u.mp.param1.toNat = none :=
    State.checkVerify_starts hmode (fun h' => hrange.mp h' h) ((hfilled h).mpr hf)
  have hlast : u.clearRefusal.rangeEnd f u.mp.param1.toNat = f + n := hbound h.1
  rw [htaken, State.takeVerify_starts (s := u.clearRefusal) hcheck, State.startVerify_eq]
  refine ⟨_, rfl, rfl, rfl, ?_⟩
  rw [← hlast]
  rfl

end

-- ==== Proofs: Quiesce ====
section
/-! SUPPORT. QUIESCE and RESUME: the quiesced flag, and the patrol read that a QUIESCE withdraws (R91, R166, R167). -/

namespace Sys2Proof.Machine

section
variable {s : State}

/-- With the part quiesced the patrol is not active, so a RAISED read is withdrawn (R90, R91). -/
theorem State.setQuiesced_true (s : State) : State.setQuiesced true s = { s with
    me := { s.me with quiesced := true }
    se := { s.se with patrolPending := if s.se.patrolPending = .raised then .none else s.se.patrolPending } } := by
  refine State.eq_of_fields ?_
  simp [State.setQuiesced, State.recheckPatrol_se, State.patrolActive]

/-- A QUIESCE waits for the ME and for the Repair Queue (R166). -/
theorem State.quiet_iff (s : State) : s.quiet = true ↔ s.me.state = .idle ∧ s.ru.queue = [] := by
  simp [State.quiet]

/-- The flag and the patrol are no part of what a QUIESCE waits for. -/
theorem State.quiet_setQuiesced (b : Bool) (s : State) : (State.setQuiesced b s).quiet = s.quiet := by
  simp [State.quiet, State.setQuiesced]

theorem State.takeQuiesce_notOnline (h : s.mode ≠ .online) : s.takeQuiesce = State.answerLong 0x22 .notOnline s := by
  simp [State.takeQuiesce, h]

theorem State.takeQuiesce_quiet (h : s.mode = .online) (hq : s.quiet = true) :
    s.takeQuiesce = State.answerLong 0x22 .ok (State.setQuiesced true s) := by
  simp [State.takeQuiesce, h, State.quiet_setQuiesced, hq]

theorem State.takeQuiesce_waits (h : s.mode = .online) (hq : ¬s.quiet = true) :
    s.takeQuiesce = State.startLong 0x22 (State.setQuiesced true s) := by
  simp [State.takeQuiesce, h, State.quiet_setQuiesced, hq]

theorem State.takeResume_notOnline (h : s.mode ≠ .online) : s.takeResume = State.completeImmediate 0x23 .notOnline s := by
  simp [State.takeResume, h]

theorem State.takeResume_online (h : s.mode = .online) :
    s.takeResume = State.completeImmediate 0x23 .ok (State.setQuiesced false s) := by
  simp [State.takeResume, h]

end

end Sys2Proof.Machine

open Sys2Proof Sys2Proof.Machine

/-- Settles O46: outside ONLINE both are answered at once; in ONLINE QUIESCE by whether the part is quiet already, and RESUME at once. -/
theorem quiesceAndResumeSetTheFlag : Obligations.QuiesceAndResumeSetTheFlag := by
  intro s u hs hbusy hmode alu done resumed patrol quiet
  have hquiesce : exec .quiesce s = .next u.clearRefusal.takeQuiesce := exec_taken rfl hs hmode hbusy
  have hresume : exec .resume s = .next u.clearRefusal.takeResume := exec_taken rfl hs hmode hbusy
  have hquiet : u.clearRefusal.quiet = true ↔ quiet := u.clearRefusal.quiet_iff
  have halu : u.alu.set .commandDone = alu := AlertUnit.set_commandDone u.alu
  refine ⟨fun hoff => ?_, fun hon hq => ?_, fun hon hq => ?_, fun hoff => ?_, fun hon => ?_⟩
  · rw [hquiesce, State.takeQuiesce_notOnline (s := u.clearRefusal) hoff]
    refine congrArg _ (State.eq_of_fields ?_)
    simp [halu, done, hbusy]
  · rw [hquiesce, State.takeQuiesce_quiet (s := u.clearRefusal) hon (hquiet.mpr hq), State.setQuiesced_true]
    refine congrArg _ (State.eq_of_fields ?_)
    simp [halu, done, hbusy, patrol]
  · rw [hquiesce, State.takeQuiesce_waits (s := u.clearRefusal) hon (mt hquiet.mp hq), State.setQuiesced_true]
    rfl
  · rw [hresume, State.takeResume_notOnline (s := u.clearRefusal) hoff]
    rfl
  · rw [hresume, State.takeResume_online (s := u.clearRefusal) hon]
    refine ⟨_, rfl, State.eq_of_fields ?_, ?_⟩
    · simp [State.setQuiesced, resumed]
    · simp [State.setQuiesced, State.recheckPatrol_se]

end

-- ==== Proofs: Calibrate ====
section
/-! SUPPORT. CALIBRATE: the records taken, BASELINE entered, the timers, and the end at once with no record taken (R89, R91, R135 to R138, R143). -/

namespace Sys2Proof.Machine

/-! ## The records taken (R136, R137) -/

/-- A FOLLOWER in WATCH behind `p`, by its role and state. -/
theorem HealthRecord.watchesBehind_iff (r : HealthRecord) (p : Nat) : r.watchesBehind p = true ↔
    ∃ weight a snap, r.role = .follower p weight ∧ r.state = .watch a snap := by
  obtain ⟨state, role, _⟩ := r
  cases role <;> cases state <;> simp [HealthRecord.watchesBehind, HealthRole.ref?, HealthState.activation]

theorem HealthRecord.isReference_iff (r : HealthRecord) : r.isReference = true ↔ r.role = .reference := by
  obtain ⟨state, role, _⟩ := r
  cases role <;> simp [HealthRecord.isReference]

/-- A record of the Health Table is a FOLLOWER of `p` in WATCH. -/
def State.Watched (s : State) (p : Nat) : Prop := ∃ q < s.hm.table.length, ∃ weight a snap,
  (s.health q).role = .follower p weight ∧ (s.health q).state = .watch a snap

theorem State.watched_iff (s : State) (p : Nat) : (s.hm.table.any fun r => r.watchesBehind p) = true ↔ s.Watched p := by
  rw [List.any_eq_true]
  constructor
  · rintro ⟨r, hr, hw⟩
    obtain ⟨q, hq, rfl⟩ := List.mem_iff_getElem.mp hr
    refine ⟨q, hq, ?_⟩
    rwa [HealthRecord.watchesBehind_iff, ← List.getD_eq_getElem _ (.untracked .independent) hq] at hw
  · rintro ⟨q, hq, hw⟩
    refine ⟨s.hm.table[q], List.getElem_mem hq, ?_⟩
    rw [HealthRecord.watchesBehind_iff, ← List.getD_eq_getElem _ (.untracked .independent) hq]
    exact hw

/-- What CALIBRATE takes (R136). -/
theorem State.calibrates_iff (s : State) (p : Nat) : calibrates s.hm.table p = true ↔
    (s.health p).state = .quiet ∧ ¬((s.health p).role = .reference ∧ s.Watched p) := by
  rw [← State.watched_iff, ← HealthRecord.isReference_iff]
  simp only [calibrates, State.health, Bool.and_eq_true, beq_iff_eq, Bool.not_eq_true', ← Bool.not_eq_true]

/-- The numbers of the records that CALIBRATE takes. -/
def calibratedRecords (table : List HealthRecord) : List Nat := (List.range table.length).filter (calibrates table)

theorem calibratedCount_eq (table : List HealthRecord) : calibratedCount table = (calibratedRecords table).length := rfl

theorem mem_calibratedRecords (table : List HealthRecord) (p : Nat) :
    p ∈ calibratedRecords table ↔ p < table.length ∧ calibrates table p = true := by
  rw [calibratedRecords, List.mem_filter, List.mem_range]

theorem calibratedCount_pos_iff (table : List HealthRecord) :
    0 < calibratedCount table ↔ ∃ p < table.length, calibrates table p = true := by
  rw [calibratedCount_eq, List.length_pos_iff_exists_mem]
  exact exists_congr fun p => mem_calibratedRecords table p

/-- A record taken enters BASELINE, any other stays (R136, R137). -/
theorem calibratedTable_getD (epochs : Nat) {table : List HealthRecord} {p : Nat} (hp : p < table.length) (d : HealthRecord) :
    (calibratedTable epochs table).getD p d = if calibrates table p then (table.getD p (.untracked .independent)).enterBaseline epochs
      else table.getD p (.untracked .independent) := by
  simp [calibratedTable, List.getD_eq_getElem?_getD, hp]

/-! ## The start (R136 to R138) -/

/-- A CALIBRATE under way, before the patrol and the end of the command are looked at. -/
def State.calibrateBegun (s : State) : State :=
  { State.startLong 0x43 s with
    hm := {
      table := calibratedTable s.settings.calEpochs s.hm.table
      epochTimer := some (1000 * 2 ^ s.settings.epochExp)
      cal := ⟨true, calibratedCount s.hm.table, calibratedCount s.hm.table, 0, 0, 0, 0⟩ }
    se := { s.se with patrolTimer := loadTimer s.settings.calInterval } }

theorem State.startCalibrate_eq (s : State) : s.startCalibrate = s.calibrateBegun.recheckPatrol.completeCalibrate := rfl

/-- The tables and the timer of the epochs, whether or not the command ends at once. -/
theorem State.startCalibrate_tables (s : State) : s.startCalibrate.hm.table = calibratedTable s.settings.calEpochs s.hm.table ∧
    s.startCalibrate.hm.epochTimer = some (1000 * 2 ^ s.settings.epochExp) := by
  have hepoch : ∀ t : State, t.completeCalibrate.hm.epochTimer = t.hm.epochTimer := fun t => by
    unfold State.completeCalibrate
    split_ifs <;> simp
  rw [State.startCalibrate_eq, State.completeCalibrate_table, hepoch]
  simp [State.calibrateBegun]

/-- A record of the Health Table once a CALIBRATE has started (R136, R137). -/
theorem State.startCalibrate_health {s : State} {p : Nat} (hp : p < s.hm.table.length) : s.startCalibrate.health p =
    if calibrates s.hm.table p then (s.health p).enterBaseline s.settings.calEpochs else s.health p := by
  obtain ⟨htable, -⟩ := s.startCalibrate_tables
  rw [State.health, htable, calibratedTable_getD _ hp]
  rfl

section
variable {s : State}

/-- With a record taken the command runs. -/
theorem State.startCalibrate_runs (h : 0 < calibratedCount s.hm.table) : s.startCalibrate = s.calibrateBegun.recheckPatrol := by
  rw [State.startCalibrate_eq]
  refine State.completeCalibrate_waits _ fun hends => ?_
  have hcount : s.calibrateBegun.recheckPatrol.hm.cal.baselineCount = calibratedCount s.hm.table := by
    simp [State.calibrateBegun]
  omega

/-- With none it ends at once, and the patrol is looked at again (R135, R143). -/
theorem State.startCalibrate_ends (h : calibratedCount s.hm.table = 0) :
    s.startCalibrate.hm.cal = ⟨false, 0, 0, 0, 0, 0, 0⟩ ∧
    s.startCalibrate.mp = { s.mp with
      lastCommand := 0x43, lastOutcome := .ok, longCommand := 0x43, longOutcome := .ok, busy := false
      results := [0, 0, 0, 0, 0, 0xFFFF, 0xFFFF, 0xFFFF] } ∧
    s.startCalibrate.se.patrolTimer = loadTimer s.settings.patrolInterval ∧ s.startCalibrate.alu = s.alu.set .commandDone ∧
    PatrolRechecked s.calibrateBegun.recheckPatrol s.startCalibrate := by
  have hhm : s.calibrateBegun.recheckPatrol.hm = s.calibrateBegun.hm := by simp
  have hmp : s.calibrateBegun.recheckPatrol.mp = (State.startLong 0x43 s).mp := by simp [State.calibrateBegun]
  have hcal : s.calibrateBegun.hm.cal = ⟨true, 0, 0, 0, 0, 0, 0⟩ := by simp [State.calibrateBegun, h]
  obtain ⟨hhm', hmp', htimer, halu, hlook⟩ := s.calibrateBegun.recheckPatrol.completeCalibrate_ends
    (by rw [hhm, hcal]) (by rw [hhm, hcal])
  rw [State.startCalibrate_eq]
  refine ⟨?_, ?_, ?_, ?_, hlook⟩
  · rw [hhm', hhm, hcal]
  · rw [hmp', hhm, hcal, hmp]
    rfl
  · rw [htimer]
    simp [State.calibrateBegun]
  · rw [halu]
    simp [State.calibrateBegun]

end

/-! ## The patrol looked at (R89, R91) -/

/-- A look at the patrol after its timer was loaded is a look at the patrol. -/
theorem PatrolRechecked.ofTimer {u v t : State} (h : PatrolRechecked v t) (hv : v.se = { u.se with patrolTimer := v.se.patrolTimer }) :
    PatrolRechecked u t := by
  rw [patrolRechecked_iff] at h ⊢
  rw [hv] at h
  exact h

/-- A second look under conditions that are no weaker decides. -/
theorem PatrolRechecked.trans_of_stays {u v t : State} (h : PatrolRechecked u v) (h' : PatrolRechecked v t)
    (hstays : t.PatrolStays → v.PatrolStays) : PatrolRechecked u t := by
  rw [patrolRechecked_iff] at h h' ⊢
  obtain ⟨hse, hnone, hsame⟩ := h
  obtain ⟨hse', hnone', hsame'⟩ := h'
  refine ⟨by rw [hse', hse], fun hr ht => ?_, fun hr => ?_⟩
  · by_cases hv : v.PatrolStays
    · exact hnone' ((hsame (.inr hv)).trans hr) ht
    · have hv := hnone hr hv
      rw [hsame' (.inl (by simp [hv])), hv]
  · have hv := hsame (hr.imp_right hstays)
    rw [hsame' (hr.imp (fun h => by rwa [hv]) id), hv]

/-- With a calibration interval the patrol that may go on after the CALIBRATE may go on during it (R89, R90). -/
theorem State.calibrateBegun_stays {s : State} (hi : s.settings.calInterval ≠ 0) (h : s.startCalibrate.PatrolStays)
    (hmode : s.startCalibrate.se.mode = s.se.mode) (hcursor : s.startCalibrate.se.cursorSegment = s.se.cursorSegment) :
    s.calibrateBegun.recheckPatrol.PatrolStays := by
  obtain ⟨honline, hpatrol, hquiet, -, hrole, hfilled⟩ := h
  have hseg : ∀ p, s.startCalibrate.seg p = s.seg p := State.seg_congr (by simp)
  rw [hseg, hcursor] at hrole hfilled
  rw [hmode] at hpatrol
  have hseg' : ∀ p, s.calibrateBegun.recheckPatrol.seg p = s.seg p := State.seg_congr (by simp [State.calibrateBegun])
  have hmode' : s.calibrateBegun.recheckPatrol.se.mode = s.se.mode := by simp [State.recheckPatrol_se, State.calibrateBegun]
  have hcursor' : s.calibrateBegun.recheckPatrol.se.cursorSegment = s.se.cursorSegment := by
    simp [State.recheckPatrol_se, State.calibrateBegun]
  refine ⟨?_, hmode'.trans hpatrol, ?_, ?_, ?_, ?_⟩
  · simpa [State.calibrateBegun] using honline
  · simpa [State.calibrateBegun] using hquiet
  · simpa [State.calibrateBegun] using hi
  · rwa [hseg', hcursor']
  · rwa [hseg', hcursor']

/-- A CALIBRATE looks at the patrol with its own pace and, if it ends at once, with the other. -/
theorem State.startCalibrate_rechecks {s : State} (hi : s.settings.calInterval ≠ 0) : PatrolRechecked s s.startCalibrate := by
  have hfirst : PatrolRechecked s s.calibrateBegun.recheckPatrol := s.calibrateBegun.recheckPatrol_rechecks.ofTimer rfl
  rcases Nat.eq_zero_or_pos (calibratedCount s.hm.table) with hnone | hsome
  · obtain ⟨-, -, -, -, hsecond⟩ := State.startCalibrate_ends hnone
    have ⟨hse, _⟩ := hfirst
    have ⟨hse', _⟩ := hsecond
    exact hfirst.trans_of_stays hsecond fun hstays =>
      State.calibrateBegun_stays hi hstays (by rw [hse', hse]) (by rw [hse', hse])
  · rw [State.startCalibrate_runs hsome]
    exact hfirst

/-! ## CALIBRATE as taken (R135) -/

theorem State.takeCalibrate_notOnline {s : State} (h : s.mode ≠ .online) :
    s.takeCalibrate = State.leaveResults noResults (State.answerLong 0x43 .notOnline s) := by
  simp [State.takeCalibrate, h]

theorem State.takeCalibrate_online {s : State} (h : s.mode = .online) : s.takeCalibrate = s.startCalibrate := by
  simp [State.takeCalibrate, h]

end Sys2Proof.Machine

open Sys2Proof Sys2Proof.Machine

/-- Settles O50: the records taken are the same for the table, the counts and the end at once. -/
theorem calibrateTakesTheQuietRecords : Obligations.CalibrateTakesTheQuietRecords := by
  intro s u hs hbusy hmode watched takes
  have htaken : exec .calibrate s = .next u.clearRefusal.takeCalibrate := exec_taken rfl hs hmode hbusy
  have htakes : ∀ p, calibrates u.hm.table p = true ↔ takes p := u.calibrates_iff
  refine ⟨fun hoff => ?_, fun hon => ?_⟩
  · rw [htaken, State.takeCalibrate_notOnline (s := u.clearRefusal) hoff]
    refine congrArg _ (State.eq_of_fields ?_)
    simp [AlertUnit.set_commandDone, noResults, hbusy]
  · rw [htaken, State.takeCalibrate_online (s := u.clearRefusal) hon]
    obtain ⟨-, hepoch⟩ := u.clearRefusal.startCalibrate_tables
    refine ⟨_, rfl, State.eq_of_fields (by simp), by simp, hepoch, fun p hp => ?_, fun hi => ?_, fun hsome => ?_, fun hnone => ?_⟩
    · have hrecord := State.startCalibrate_health (s := u.clearRefusal) hp
      exact ⟨fun ht => hrecord.trans (if_pos ((htakes p).mpr ht)), fun ht => hrecord.trans (if_neg (mt (htakes p).mp ht))⟩
    · exact State.startCalibrate_rechecks (s := u.clearRefusal) hi
    · have hpos : 0 < calibratedCount u.hm.table :=
        (calibratedCount_pos_iff _).mpr (hsome.imp fun p => And.imp_right (htakes p).mpr)
      have hcal : u.clearRefusal.calibrateBegun.hm.cal =
          ⟨true, calibratedCount u.hm.table, calibratedCount u.hm.table, 0, 0, 0, 0⟩ := rfl
      rw [State.startCalibrate_runs (s := u.clearRefusal) hpos]
      simp only [State.recheckPatrol_frame, State.recheckPatrol_timer, hcal]
      refine ⟨rfl, rfl, hpos, ⟨calibratedRecords u.hm.table, List.nodup_range.filter _, fun p => ?_, rfl⟩, rfl⟩
      rw [mem_calibratedRecords, htakes]
    · have hzero : calibratedCount u.hm.table = 0 := Nat.eq_zero_of_not_pos fun hpos => by
        obtain ⟨p, hp, ht⟩ := (calibratedCount_pos_iff _).mp hpos
        exact hnone p hp ((htakes p).mp ht)
      obtain ⟨hcal, hmp, htimer, halu, -⟩ := State.startCalibrate_ends (s := u.clearRefusal) hzero
      exact ⟨hmp, halu.trans (AlertUnit.set_commandDone u.alu), hcal, htimer⟩

end

-- ==== Proofs: HealthPass ====
section
/-! SUPPORT. The handling of one record in an epoch's pass, said once: the record it leaves, the cause it sets, its retire offer and what a calibration counts (R111 to R123, R139,
R140). -/

namespace Sys2Proof.Machine

/-! ## The record that a handling leaves (R112 to R123, R139, R140) -/

/-- A BASELINE record with `left` epochs left after its handling: one fewer, or the end of its calibration (R139, R140). -/
def baselinePass (st : Settings) (raw left : Nat) (r : HealthRecord) : HealthRecord :=
  let f := filtered st r.f raw
  if 1 < left then { r with state := .baseline (left - 1), f := f, l := f }
  else if st.calBoundary < f then { r with f := f, l := f }.alarmed .calibration
  else { r with f := f }.quieted f

/-- A WATCH record with activation baseline `a` and snapshot `snap` after its handling (R115 to R120). -/
def watchPass (st : Settings) (raw : Nat) (comp : Int) (a : Nat) (snap : Option Nat) (r : HealthRecord) : HealthRecord :=
  let r' := watchUpdate st raw comp a snap r
  match watchEnd st r' with
  | .stays => r'
  | .alarm => r'.alarmed .threshold
  | .release => r'.quieted r'.f
  | .exit => r'.quieted r'.l

/-- A record after its handling in the pass, by its state (R111). -/
def passRecord (st : Settings) (raw : Nat) (comp : Int) (r : HealthRecord) : HealthRecord :=
  match r.state with
  | .untracked => r
  | .baseline left => baselinePass st raw left r
  | .quiet => (quietPass st raw r).1
  | .watch a snap => watchPass st raw comp a snap r
  | .alarm _ => { r with f := filtered st r.f raw }

section
variable {st : Settings} {raw : Nat} {comp : Int} {r : HealthRecord}

theorem passRecord_untracked (h : r.state = .untracked) : passRecord st raw comp r = r := by rw [passRecord, h]

theorem passRecord_baseline {left : Nat} (h : r.state = .baseline left) : passRecord st raw comp r = baselinePass st raw left r := by
  rw [passRecord, h]

theorem passRecord_quiet (h : r.state = .quiet) : passRecord st raw comp r = (quietPass st raw r).1 := by rw [passRecord, h]

theorem passRecord_watch {a : Nat} {snap : Option Nat} (h : r.state = .watch a snap) :
    passRecord st raw comp r = watchPass st raw comp a snap r := by
  rw [passRecord, h]

theorem passRecord_alarm {reason : AlarmReason} (h : r.state = .alarm reason) :
    passRecord st raw comp r = { r with f := filtered st r.f raw } := by
  rw [passRecord, h]

end

/-- A QUIET record enters WATCH exactly where its handling says so (R114). -/
theorem quietPass_cases (st : Settings) (raw : Nat) {r : HealthRecord} (h : r.state = .quiet) :
    (∃ a snap, (quietPass st raw r).1.state = .watch a snap) ∧ (quietPass st raw r).2 = true ∨
      (quietPass st raw r).1.state = .quiet ∧ (quietPass st raw r).2 = false := by
  unfold quietPass
  extract_lets f d l hit run
  by_cases hrun : st.watchDebounce ≤ run
  · rw [if_pos hrun]
    exact .inl ⟨⟨_, _, rfl⟩, rfl⟩
  · rw [if_neg hrun]
    exact .inr ⟨h, rfl⟩

/-! ## What a handling does beside the record (R114, R118, R123, R124, R140) -/

/-- The cause that the passage of a record's state in the pass sets. -/
def passCause : HealthState → HealthState → Option Cause
  | .quiet, .watch _ _ => some .watchEntered
  | .watch _ _, .alarm .threshold => some .alarmEntered
  | .baseline _, .alarm .calibration => some .calError
  | _, _ => none

/-- The calibration's counts after the passage of a record's state in the pass (R140). -/
def CalState.passed (c : CalState) : HealthState → HealthState → CalState
  | .baseline _, .alarm _ => { c with calAlarms := c.calAlarms + 1, baselineCount := c.baselineCount - 1 }
  | .baseline _, .quiet => { c with returnedQuiet := c.returnedQuiet + 1, baselineCount := c.baselineCount - 1 }
  | _, _ => c

/-- A record in ALARM. -/
def HealthState.isAlarm : HealthState → Bool
  | .alarm _ => true
  | _ => false

/-- The cause set, if there is one. -/
def State.raise : Option Cause → State → State
  | some c, s => State.setCause c s
  | none, s => s

/-- What the passage of record `p` from state `old` to state `new` brings with it: its cause, the offer of a record in ALARM, the calibration's counts. -/
def State.passEffects (p : Nat) (old new : HealthState) (s : State) : State :=
  let t := State.raise (passCause old new) s
  let t := if new.isAlarm then State.retireOffer p t else t
  { t with hm := { t.hm with cal := t.hm.cal.passed old new } }

@[simp] theorem State.raise_fields (c : Option Cause) (s : State) :
    (State.raise c s).mode = s.mode ∧ (State.raise c s).settings = s.settings ∧ (State.raise c s).rc = s.rc ∧
    (State.raise c s).me = s.me ∧ (State.raise c s).se = s.se ∧ (State.raise c s).aa = s.aa ∧ (State.raise c s).hm = s.hm := by
  cases c <;> simp [State.raise]

/-- What a passage brings with it leaves the records and the epoch timer. -/
@[simp] theorem State.passEffects_hm (p : Nat) (old new : HealthState) (s : State) :
    (State.passEffects p old new s).hm = { s.hm with cal := s.hm.cal.passed old new } := by
  unfold State.passEffects
  split <;> simp

/-- A handling that leaves `r'` for record `p`. -/
def State.leavePassed (p : Nat) (r' : HealthRecord) (s : State) : State :=
  State.passEffects p (s.health p).state r'.state (State.putHealth p r' s)

theorem State.leavePassed_eq {p : Nat} {r' : HealthRecord} {s : State} {old new : HealthState} (hold : (s.health p).state = old)
    (hnew : r'.state = new) : State.leavePassed p r' s = State.passEffects p old new (State.putHealth p r' s) := by
  rw [State.leavePassed, hold, hnew]

/-- The record that the handling of `p` leaves. -/
def State.passedRecord (p raw : Nat) (ds : Deltas) (s : State) : HealthRecord :=
  passRecord s.settings raw (compensation ds (s.health p)) (s.health p)

theorem State.putHealth_self (p : Nat) (s : State) : State.putHealth p (s.health p) s = s := by
  have htable : s.hm.table.set p (s.health p) = s.hm.table := by
    refine List.ext_getElem (by simp) fun i _ hi => ?_
    rw [List.getElem_set]
    split_ifs with hp
    · subst hp
      exact List.getD_eq_getElem _ _ hi
    · rfl
  exact congrArg (fun x => { s with hm := { s.hm with table := x } }) htable

/-- A record just replaced enters ALARM as it stands (R124). -/
theorem State.enterAlarm_putHealth {p : Nat} {s : State} (hp : p < s.hm.table.length) (reason : AlarmReason) (r : HealthRecord) :
    State.enterAlarm p reason (State.putHealth p r s) =
      State.retireOffer p (State.setCause reason.cause (State.putHealth p (r.alarmed reason) s)) := by
  have hr : (State.putHealth p r s).health p = r := by simp [State.health_putHealth, hp]
  rw [State.enterAlarm, hr]
  simp [State.putHealth]

/-- Every handling of a record of the table is of that form. -/
theorem State.passOne_eq {p : Nat} {s : State} (hp : p < s.hm.table.length) (raw : Nat) (ds : Deltas) :
    State.passOne p raw ds s = State.leavePassed p (s.passedRecord p raw ds) s := by
  unfold State.passOne State.passedRecord
  dsimp only
  cases h : (s.health p).state with
  | untracked =>
    rw [passRecord_untracked h, State.leavePassed_eq h h, State.putHealth_self]
    rfl
  | alarm reason =>
    have hnew : (passRecord s.settings raw (compensation ds (s.health p)) (s.health p)).state = .alarm reason := by
      rw [passRecord_alarm h]
      exact h
    rw [State.leavePassed_eq h hnew, passRecord_alarm h]
    rfl
  | quiet =>
    rw [passRecord_quiet h]
    dsimp only [State.passQuiet]
    rcases quietPass_cases s.settings raw h with ⟨⟨a, snap, hnew⟩, hentered⟩ | ⟨hnew, hentered⟩ <;>
    · rw [State.leavePassed_eq h hnew, hentered]
      rfl
  | baseline left =>
    rw [passRecord_baseline h]
    dsimp only [State.passBaseline, baselinePass]
    by_cases hleft : 1 < left
    · rw [if_pos hleft, if_neg (by omega), State.leavePassed_eq h rfl]
      rfl
    · rw [if_neg hleft, if_pos (by omega)]
      split_ifs
      · rw [State.leavePassed_eq h rfl, State.calAlarm, State.enterAlarm_putHealth hp]
        rfl
      · rw [State.leavePassed_eq h rfl]
        rfl
  | watch a snap =>
    rw [passRecord_watch h]
    dsimp only [State.passWatch, watchPass]
    cases watchEnd s.settings (watchUpdate s.settings raw (compensation ds (s.health p)) a snap (s.health p)) with
    | alarm =>
      dsimp only
      rw [State.leavePassed_eq h rfl]
      exact State.enterAlarm_putHealth hp .threshold _
    | _ =>
      dsimp only
      rw [State.leavePassed_eq h rfl]
      rfl

/-- A handling of a record that the table does not have changes nothing. -/
theorem State.passOne_of_le {p : Nat} {s : State} (hp : s.hm.table.length ≤ p) (raw : Nat) (ds : Deltas) :
    State.passOne p raw ds s = s := by
  rw [State.passOne, State.health_of_le p s hp]
  rfl

end Sys2Proof.Machine

end

-- ==== Proofs: Ranges ====
section
/-! SUPPORT. Settings and health records within their ranges (R107, R128, R195): every operation on a record keeps it within them, and every effect keeps every record. -/

namespace Sys2Proof.Machine

/-! ## Records within their ranges (R107) -/

/-- The fields of a record lie in their ranges, a FOLLOWER's reference below `n` (R107, R128). -/
structure HealthRecord.Within (n : Nat) (r : HealthRecord) : Prop where
  state : r.state.InRange
  raw : r.raw ≤ 255
  f : r.f ≤ 4095
  l : r.l ≤ 4095
  runCount : r.runCount ≤ 15
  settle : r.settle ≤ 255
  weight : ∀ w, r.role.weight? = some w → w ≤ 8191
  ref : ∀ p, r.role.ref? = some p → p < n

theorem HealthRecord.within_iff (n : Nat) (r : HealthRecord) :
    (r.InRange ∧ ∀ ref, r.role.ref? = some ref → ref < n) ↔ r.Within n := by
  constructor
  · rintro ⟨⟨hstate, hraw, hf, hl, hrun, hsettle, hweight⟩, href⟩
    exact ⟨hstate, hraw, hf, hl, hrun, hsettle, hweight, href⟩
  · intro h
    exact ⟨⟨h.state, h.raw, h.f, h.l, h.runCount, h.settle, h.weight⟩, h.ref⟩

theorem clampHealth_le (x : Int) : clampHealth x ≤ 4095 := by
  unfold clampHealth
  omega

theorem filtered_le (st : Settings) (f raw : Nat) : filtered st f raw ≤ 4095 := clampHealth_le _

theorem quietBaseline_le (st : Settings) (f l : Nat) : quietBaseline st f l ≤ 4095 := clampHealth_le _

theorem runOn_le (r : HealthRecord) (k : RunKind) : runOn r k ≤ 15 := by
  unfold runOn
  split_ifs <;> omega

namespace HealthRecord.Within

variable {n : Nat} {r : HealthRecord}

/-- A record with all counts 0, in a state that has no field. -/
theorem untracked (h : r.Within n) : (HealthRecord.untracked r.role).Within n :=
  ⟨trivial, Nat.zero_le _, Nat.zero_le _, Nat.zero_le _, Nat.zero_le _, Nat.zero_le _, h.weight, h.ref⟩

theorem fresh (h : r.Within n) : (HealthRecord.fresh r.role).Within n :=
  ⟨trivial, Nat.zero_le _, Nat.zero_le _, Nat.zero_le _, Nat.zero_le _, Nat.zero_le _, h.weight, h.ref⟩

theorem independent (n : Nat) : (HealthRecord.untracked .independent).Within n :=
  { state := trivial, raw := Nat.zero_le _, f := Nat.zero_le _, l := Nat.zero_le _, runCount := Nat.zero_le _, settle := Nat.zero_le _
    weight := fun _ h => nomatch h
    ref := fun _ h => nomatch h }

theorem alarmed (h : r.Within n) (reason : AlarmReason) : (r.alarmed reason).Within n :=
  { h with state := trivial, runCount := Nat.zero_le _, settle := Nat.zero_le _ }

theorem quieted (h : r.Within n) {l : Nat} (hl : l ≤ 4095) : (r.quieted l).Within n :=
  { h with state := trivial, l := hl, runCount := Nat.zero_le _, settle := Nat.zero_le _ }

theorem enterBaseline (h : r.Within n) {epochs : Nat} (he : epochs ≤ 64) : (r.enterBaseline epochs).Within n :=
  { h with state := he, raw := Nat.zero_le _, f := Nat.zero_le _, runCount := Nat.zero_le _, settle := Nat.zero_le _ }

theorem putRaw (h : r.Within n) {raw : Nat} (hraw : raw ≤ 255) : { r with raw := raw }.Within n := { h with raw := hraw }

theorem putCounts (h : r.Within n) {f l : Nat} (hf : f ≤ 4095) (hl : l ≤ 4095) : { r with f := f, l := l }.Within n :=
  { h with f := hf, l := hl }

/-! ## The handlings of the pass (R112 to R123, R139, R140) -/

theorem baselinePass (h : r.Within n) (st : Settings) (raw : Nat) {left : Nat} (hleft : left ≤ 64) :
    (Machine.baselinePass st raw left r).Within n := by
  have hf := filtered_le st r.f raw
  unfold Machine.baselinePass
  dsimp only
  split_ifs
  · exact { h with state := (Nat.sub_le _ _).trans hleft, f := hf, l := hf }
  · exact (h.putCounts hf hf).alarmed .calibration
  · exact (h.putCounts hf h.l).quieted hf

theorem quietPass (h : r.Within n) (st : Settings) (raw : Nat) : (Machine.quietPass st raw r).1.Within n := by
  have hf := filtered_le st r.f raw
  have hl := quietBaseline_le st (filtered st r.f raw) r.l
  unfold Machine.quietPass
  extract_lets f d l hit run
  have hrun : run ≤ 15 := by
    show (if hit then runOn r .watch else 0) ≤ 15
    split_ifs
    · exact runOn_le r .watch
    · exact Nat.zero_le _
  by_cases hwatch : st.watchDebounce ≤ run
  · rw [if_pos hwatch]
    exact { h with state := ⟨hf, fun _ hv => nomatch hv⟩, f := hf, l := hl, runCount := Nat.zero_le _, settle := Nat.zero_le _ }
  · rw [if_neg hwatch]
    exact { h with f := hf, l := hl, runCount := hrun }

theorem watchUpdate (h : r.Within n) (st : Settings) (raw : Nat) (comp : Int) (a : Nat) {snap : Option Nat}
    (hsnap : ∀ v, snap = some v → v ≤ 4095) : (Machine.watchUpdate st raw comp a snap r).Within n := by
  unfold Machine.watchUpdate
  extract_lets f l a' settle d snap' alarmHit exitHit
  have hsettle : settle ≤ 255 := by
    show (if ((f : Int) - a').natAbs < st.settleThreshold then min 255 (r.settle + 1) else 0) ≤ 255
    split_ifs
    · exact Nat.min_le_left _ _
    · exact Nat.zero_le _
  have hsnap' : ∀ v, snap' = some v → v ≤ 4095 := by
    intro v hv
    cases snap with
    | some w => exact hsnap v hv
    | none =>
      replace hv : (if st.settleEpochs ≤ settle then some (clampHealth d) else none) = some v := hv
      split_ifs at hv
      cases hv
      exact clampHealth_le d
  have hrun : (if alarmHit then runOn r .alarm else if exitHit then runOn r .exit else 0) ≤ 15 := by
    split_ifs
    · exact runOn_le r .alarm
    · exact runOn_le r .exit
    · exact Nat.zero_le _
  exact { h with
    state := ⟨clampHealth_le _, hsnap'⟩, f := filtered_le st r.f raw, l := clampHealth_le _, runCount := hrun, settle := hsettle }

theorem watchPass (h : r.Within n) (st : Settings) (raw : Nat) (comp : Int) (a : Nat) {snap : Option Nat}
    (hsnap : ∀ v, snap = some v → v ≤ 4095) : (Machine.watchPass st raw comp a snap r).Within n := by
  have hu := h.watchUpdate st raw comp a hsnap
  unfold Machine.watchPass
  dsimp only
  split
  · exact hu
  · exact hu.alarmed .threshold
  · exact hu.quieted hu.f
  · exact hu.quieted hu.l

/-- Whatever its state, a record's handling keeps it within its ranges. -/
theorem passRecord (h : r.Within n) (st : Settings) (raw : Nat) (comp : Int) : (Machine.passRecord st raw comp r).Within n := by
  have hstate := h.state
  cases hr : r.state with
  | untracked => rwa [passRecord_untracked hr]
  | baseline left =>
    rw [hr] at hstate
    rw [passRecord_baseline hr]
    exact h.baselinePass st raw hstate
  | quiet =>
    rw [passRecord_quiet hr]
    exact h.quietPass st raw
  | watch a snap =>
    rw [hr] at hstate
    rw [passRecord_watch hr]
    exact h.watchPass st raw comp a hstate.2
  | alarm reason =>
    rw [passRecord_alarm hr]
    exact { h with f := filtered_le st r.f raw }

end HealthRecord.Within

/-! ## The Health Table within its ranges -/

/-- Every health record lies in its ranges, with references below `n`. -/
def State.RecordsWithin (n : Nat) (s : State) : Prop := ∀ r ∈ s.hm.table, r.Within n

theorem State.rangesOk_iff (s : State) : s.RangesOk ↔ s.settings.Ok ∧ s.RecordsWithin s.numP :=
  and_congr_right fun _ => forall₂_congr fun r _ => r.within_iff s.numP

/-- The records after an engine reset, by the segments' records (R132). -/
theorem State.resetBlocks_records (s : State) : s.resetBlocks.hm.table = List.zipWith healthAfterReset s.rc.engineReset.segs s.hm.table := by
  have htimers : ∀ t : State, t.restartTimers.hm.table = t.hm.table := fun t => by
    unfold State.restartTimers
    split <;> simp
  simp [State.resetBlocks, htimers, HealthMonitor.engineReset]

namespace State.RecordsWithin

variable {n : Nat} {s t : State}

/-- The table alone gives the records. -/
theorem of_table (h : s.RecordsWithin n) (ht : t.hm.table = s.hm.table) : t.RecordsWithin n := by
  rwa [State.RecordsWithin, ht]

theorem health (h : s.RecordsWithin n) (p : Nat) : (s.health p).Within n := by
  by_cases hp : p < s.hm.table.length
  · rw [State.health, List.getD_eq_getElem _ _ hp]
    exact h _ (List.getElem_mem hp)
  · rw [State.health_of_le p s (by omega)]
    exact .independent n

theorem put (h : s.RecordsWithin n) (p : Nat) {r : HealthRecord} (hr : r.Within n) : (State.putHealth p r s).RecordsWithin n := by
  intro x hx
  rcases List.mem_or_eq_of_mem_set hx with hx | rfl
  · exact h x hx
  · exact hr

theorem untrack (h : s.RecordsWithin n) (p : Nat) : (State.untrack p s).RecordsWithin n := h.put p (h.health p).untracked

theorem freshen (h : s.RecordsWithin n) (p : Nat) : (State.freshen p s).RecordsWithin n := h.put p (h.health p).fresh

theorem countCorrected (h : s.RecordsWithin n) (p : Nat) : (State.countCorrected p s).RecordsWithin n := by
  unfold State.countCorrected
  split_ifs
  · exact h.put p ((h.health p).putRaw (Nat.min_le_left _ _))
  · exact h

theorem enterAlarm (h : s.RecordsWithin n) (p : Nat) (reason : AlarmReason) : (State.enterAlarm p reason s).RecordsWithin n :=
  (h.put p ((h.health p).alarmed reason)).of_table (by simp [State.enterAlarm])

theorem uncorrectableReport (h : s.RecordsWithin n) (p : Nat) : (State.uncorrectableReport p s).RecordsWithin n := by
  have halarm := h.enterAlarm p .uncorrectable
  unfold State.uncorrectableReport
  split
  · exact h
  · exact h
  · exact halarm
  · exact halarm
  · exact halarm.of_table (by simp)

/-! ## Reads (R52, R109, R126) -/

theorem handleWords (h : s.RecordsWithin n) (offer : Bool) (p line : Nat) (ws : List (Nat × StoredWord)) :
    (State.handleWords offer p line ws s).RecordsWithin n := by
  induction ws generalizing s with
  | nil => exact h
  | cons x rest ih =>
    obtain ⟨w, x⟩ := x
    unfold State.handleWords
    refine ih ?_
    split
    · exact h
    · exact h
    · exact (h.countCorrected p).of_table (by split_ifs <;> simp)
    · exact (h.of_table (t := s.startHoldOff) (by simp)).uncorrectableReport p

theorem handleSweepLine (h : s.RecordsWithin n) (o : FaultOrigin) (op : PortOp) : (State.handleSweepLine o op s).RecordsWithin n :=
  (h.handleWords true op.segment op.line (selectWords (fun _ => true) (State.readLine op s))).of_table (by simp [State.handleSweepLine])

theorem completeRead (h : s.RecordsWithin n) (flips : LineFlips) : (s.completeRead flips).RecordsWithin n := by
  unfold State.completeRead
  split
  next op r g _ _ _ =>
    have hflip : (State.flipLine op flips s).RecordsWithin n := h.of_table rfl
    exact (hflip.handleWords true op.segment op.line (selectWords r.names (State.readLine op (State.flipLine op flips s)))).of_table
      (by simp [State.finishRead])
  next => exact h

theorem completeMergeRead (h : s.RecordsWithin n) (flips : LineFlips) : (s.completeMergeRead flips).RecordsWithin n := by
  unfold State.completeMergeRead
  split
  next op r g _ _ _ =>
    have hflip : (State.flipLine op flips s).RecordsWithin n := h.of_table rfl
    exact (hflip.handleWords false op.segment op.line
      (selectWords r.partialWord (State.readLine op (State.flipLine op flips s)))).of_table (by simp [State.finishMergeRead])
  next => exact h

theorem patrolLine (h : s.RecordsWithin n) (op : PortOp) : (State.patrolLine op s).RecordsWithin n := by
  unfold State.patrolLine
  split_ifs
  · exact (h.handleSweepLine .patrol op).of_table (by simp)
  · exact h.of_table (by simp)

theorem completePatrol (h : s.RecordsWithin n) (flips : LineFlips) : (s.completePatrol flips).RecordsWithin n := by
  unfold State.completePatrol
  split
  next op _ _ =>
    have hread : State.RecordsWithin n { State.flipLine op flips s with se := { s.se with patrolPending := .none } } := h.of_table rfl
    exact (hread.patrolLine op).of_table (by simp)
  all_goals exact h

theorem completeFill (h : s.RecordsWithin n) : s.completeFill.RecordsWithin n := by
  have hadvance : ∀ run pos (t : State), t.RecordsWithin n → (State.advanceFill run pos t).RecordsWithin n := by
    intro run pos t ht
    have hfresh := (ht.of_table (t := State.setFilled pos.physical true t) rfl).freshen pos.physical
    unfold State.advanceFill State.completeFillSegment
    dsimp only
    split_ifs
    · exact ht.of_table rfl
    · exact hfresh.of_table (by simp)
    · exact hfresh.of_table (by simp)
  unfold State.completeFill
  split
  next op run _ _ =>
    split
    next pos _ _ => exact (hadvance run pos _ (h.of_table (by simp))).of_table rfl
    next => exact h
  next => exact h

theorem verifyLine (h : s.RecordsWithin n) (run : SweepRun) (pos : SweepPos) (op : PortOp) :
    (State.verifyLine run pos op s).RecordsWithin n := by
  have hline := h.handleSweepLine .verify op
  unfold State.verifyLine
  dsimp only
  split
  · exact hline.of_table (by simp)
  · split
    · exact hline.of_table rfl
    · exact hline.of_table (by simp)

theorem completeVerify (h : s.RecordsWithin n) (flips : LineFlips) : (s.completeVerify flips).RecordsWithin n := by
  unfold State.completeVerify
  split
  next op run _ _ =>
    split
    next pos _ _ => exact ((h.of_table (t := State.flipLine op flips s) rfl).verifyLine run pos op).of_table rfl
    next => exact h
  next => exact h

/-! ## The Migration Engine (R127, R153, R162) -/

theorem completeCopyRead (h : s.RecordsWithin n) (flips : LineFlips) : (s.completeCopyRead flips).RecordsWithin n := by
  unfold State.completeCopyRead
  split
  next op i e _ _ =>
    have hflip : (State.flipLine op flips s).RecordsWithin n := h.of_table rfl
    split
    · exact (hflip.handleWords false op.segment op.line
        (selectWords (fun _ => true) (State.readLine op (State.flipLine op flips s)))).of_table (by simp [State.finishCopyRead])
    · split_ifs
      · exact hflip.of_table (by simp)
      · exact h
    all_goals exact h
  next => exact h

theorem commit (h : s.RecordsWithin n) (i : Nat) (e : CopyingEntry) (poisoned : Nat) : (State.commit i e poisoned s).RecordsWithin n := by
  obtain ⟨-, hhm, -⟩ := State.commit_fields i e poisoned s
  have hmoved : (s.moveSegment i e poisoned).RecordsWithin n := h.of_table (by simp)
  have hretired : (State.retireHealth e.current (s.moveSegment i e poisoned)).RecordsWithin n :=
    (hmoved.untrack e.current).of_table (State.retireHealth_table _ _)
  exact (hretired.freshen e.target).of_table (by rw [hhm]; rfl)

theorem completeVerifyRead (h : s.RecordsWithin n) (flips : LineFlips) : (s.completeVerifyRead flips).RecordsWithin n := by
  unfold State.completeVerifyRead
  split
  next op i e _ _ =>
    have hflip : (State.flipLine op flips s).RecordsWithin n := h.of_table rfl
    split
    · unfold State.finishVerifyRead State.endLine
      dsimp only
      split_ifs
      · exact hflip.of_table (by simp)
      · exact hflip.of_table (by simp)
      · exact (hflip.commit i e _).of_table rfl
      · exact hflip.of_table (by simp)
    · split_ifs
      · exact hflip.of_table (by simp)
      · exact h
    all_goals exact h
  next => exact h

/-! ## The pass (R111) -/

theorem passOne (h : s.RecordsWithin n) (p raw : Nat) (ds : Deltas) : (State.passOne p raw ds s).RecordsWithin n := by
  by_cases hp : p < s.hm.table.length
  · rw [State.passOne_eq hp]
    have hrecord : (s.passedRecord p raw ds).Within n := (h.health p).passRecord s.settings raw _
    exact (h.put p hrecord).of_table (by simp [State.leavePassed])
  · rwa [State.passOne_of_le (by omega)]

theorem passOver (h : s.RecordsWithin n) (raws ps : List Nat) (ds : Deltas) : (State.passOver raws ps ds s).RecordsWithin n := by
  induction ps generalizing ds s with
  | nil => exact h
  | cons p rest ih => exact ih (h.passOne p _ ds) _

theorem endEpochTimer (h : s.RecordsWithin n) : s.endEpochTimer.RecordsWithin n := by
  have hraws : s.takeRaws.RecordsWithin n := by
    intro r hr
    obtain ⟨x, hx, rfl⟩ := List.mem_map.mp hr
    exact (h x hx).putRaw (Nat.zero_le _)
  unfold State.endEpochTimer
  split
  · exact (hraws.passOver (s.hm.table.map HealthRecord.raw) (passOrder s.hm.table) []).of_table (by simp [State.epochPass])
  · exact h

/-! ## Commands (R29, R128, R129, R137, R194) -/

/-- A code taken keeps what its body keeps. -/
theorem takeCommand (h : s.RecordsWithin n) (code : Byte) {body : State → State} (hbody : (body s.clearRefusal).RecordsWithin n) :
    (State.takeCommand code body s).RecordsWithin n :=
  State.takeCommand_holds code body s h (h.of_table rfl) hbody

theorem takeRestore (h : s.RecordsWithin n) : s.takeRestore.RecordsWithin n := by
  have hrestore : ∀ g p (t : State), t.RecordsWithin n → (State.doRestore g p t).RecordsWithin n := by
    intro g p t ht
    have htable : (State.doRestore g p t).hm.table = (State.untrack p (State.untrack (t.physOf g) t)).hm.table := by
      unfold State.doRestore
      dsimp only
      simp only [State.recheckPatrol_frame]
      cases t.restoreIndex g <;> rfl
    exact ((ht.untrack (t.physOf g)).untrack p).of_table htable
  unfold State.takeRestore
  dsimp only
  split_ifs
  · exact (hrestore _ _ s h).of_table rfl
  · exact h.of_table rfl

/-- A role that SET_ROLE takes names a segment of the part, with a weight in range (R128). -/
theorem takeSetRole (h : s.RecordsWithin s.numP) : s.takeSetRole.RecordsWithin s.numP := by
  unfold State.takeSetRole
  split_ifs
  · exact h.of_table rfl
  · split
    next role hrole =>
      have hfield : (∀ w, role.weight? = some w → w ≤ 8191) ∧ ∀ ref, role.ref? = some ref → ref < s.numP := by
        unfold State.roleNamed at hrole
        split_ifs at hrole <;> cases hrole <;> simp [HealthRole.weight?, HealthRole.ref?]
        omega
      have hrecord := h.health s.mp.param0.toNat
      have hput : { s.health s.mp.param0.toNat with role := role }.Within s.numP :=
        { hrecord with weight := hfield.1, ref := hfield.2 }
      exact (h.put _ hput).of_table rfl
    next => exact h.of_table rfl

theorem takeReseed (h : s.RecordsWithin n) : s.takeReseed.RecordsWithin n := by
  unfold State.takeReseed
  dsimp only
  split_ifs
  · exact h.of_table rfl
  · exact h.of_table rfl
  · exact h.of_table rfl
  · exact (h.put _ ((h.health _).quieted (h.health _).f)).of_table rfl

theorem takeCalibrate (h : s.RecordsWithin n) (hset : s.settings.Ok) : s.takeCalibrate.RecordsWithin n := by
  unfold State.takeCalibrate
  split_ifs
  · exact h.of_table rfl
  · intro r hr
    rw [s.startCalibrate_tables.1] at hr
    obtain ⟨p, -, rfl⟩ := List.mem_map.mp hr
    have hp : (s.hm.table.getD p (.untracked .independent)).Within n := h.health p
    dsimp only
    split_ifs
    · exact hp.enterBaseline (hset .calEpochs).2
    · exact hp

theorem engineReset (h : s.RecordsWithin n) : s.engineReset.RecordsWithin n := by
  unfold State.engineReset
  split_ifs
  · exact h
  · intro r hr
    replace hr : r ∈ (State.resetBlocks s.abortLong).hm.table := hr
    rw [State.resetBlocks_records, ← List.map_uncurry_zip_eq_zipWith] at hr
    obtain ⟨⟨seg, x⟩, hx, rfl⟩ := List.mem_map.mp hr
    have hxw := h.of_table (t := s.abortLong) (by simp) x (List.of_mem_zip hx).2
    dsimp only [Function.uncurry, healthAfterReset]
    split_ifs
    · exact hxw.fresh
    · exact hxw.untracked

end State.RecordsWithin

/-! ## Settings within their ranges (R195) -/

theorem Setting.clamp_range (x : Setting) (v : Nat) : x.range.1 ≤ x.clamp v ∧ x.clamp v ≤ x.range.2 := by
  have hrange : x.range.1 ≤ x.range.2 := by cases x <;> decide
  unfold Setting.clamp
  omega

theorem applySettings_ok {st : Settings} (h : st.Ok) (online : Bool) (t : Transfer) : (applySettings online t st).Ok := by
  intro x
  rw [applySettings_get, writtenValue]
  split_ifs
  · exact h x
  · split
    · exact x.clamp_range _
    · exact h x

/-! ## Every step -/

/-- Records and settings as they were, under the same geometry. -/
theorem State.RangesOk.congr {s t : State} (h : s.RangesOk) (hset : t.settings = s.settings) (htable : t.hm.table = s.hm.table)
    (hgeo : t.rc.geometry = s.rc.geometry) : t.RangesOk := by
  simpa [State.RangesOk, State.numP, hset, htable, hgeo] using h

/-- Records that stay within their ranges, under the same settings and geometry. -/
theorem State.RangesOk.of_records {s t : State} (h : s.RangesOk) (hset : t.settings = s.settings) (hgeo : t.rc.geometry = s.rc.geometry)
    (hrec : t.RecordsWithin s.numP) : t.RangesOk := by
  have hp : t.numP = s.numP := by rw [State.numP, hgeo, State.numP]
  rw [State.rangesOk_iff, hset, hp]
  exact ⟨h.1, hrec⟩

theorem State.writeSettings_rangesOk {s : State} (h : s.RangesOk) (t : Transfer) : (State.writeSettings t s).RangesOk := by
  cases hack : s.acknowledges t.address with
  | false => rwa [State.writeSettings_ignored hack]
  | true =>
    obtain ⟨hset, -⟩ := State.writeSettings_settings hack
    refine ⟨hset ▸ applySettings_ok h.1 _ t, ?_⟩
    simpa [State.writeSettings_hm hack, State.numP] using h.2

/-- A part that goes online has fresh records, which name no other (R108). -/
theorem State.takeGoOnline_rangesOk {s : State} (h : s.RangesOk) : s.takeGoOnline.RangesOk := by
  unfold State.takeGoOnline
  split_ifs
  · exact h
  · refine (State.rangesOk_iff _).mpr ⟨h.1, fun r hr => ?_⟩
    rw [List.eq_of_mem_replicate (show r ∈ freshHealth s.settings.geomP from hr)]
    exact .independent _
  · exact h

theorem State.powerOn_rangesOk (asel : BitVec 2) (kept : Byte) (s : State) : (s.powerOn asel kept).RangesOk :=
  ⟨Settings.reset_ok, fun _ hr => nomatch hr⟩

/-- The commands that can change a setting, a health record or the geometry. -/
def changesRanges : Instr → Bool
  | .powerOnReset _ _ | .demandReadComplete _ | .demandMergeReadComplete _ | .patrolReadComplete _ | .fillWriteComplete
  | .verifySweepReadComplete _ | .copyReadComplete _ | .verifyReadComplete _ | .epochEnd | .settingsWrite _ | .epochExponentWrite _
  | .patrolIntervalWrite _ _ | .goOnline | .engineReset | .restore | .setRole | .reseed | .calibrate => true
  | _ => false

@[simp] theorem State.takeCommand_records {code : Byte} {body : State → State} {s : State} (h : ∀ t, (body t).hm.table = t.hm.table) :
    (State.takeCommand code body s).hm.table = s.hm.table :=
  State.takeCommand_keeps (fun t => t.hm.table) code body s rfl rfl h

theorem effect_ranges (c : Instr) (s : State) (h : changesRanges c = false) :
    (effect c s).settings = s.settings ∧ (effect c s).hm.table = s.hm.table ∧ (effect c s).rc.geometry = s.rc.geometry := by
  cases c <;> simp [changesRanges, effect] at h ⊢

theorem effect_rangesOk (c : Instr) {s : State} (h : s.RangesOk) : (effect c s).RangesOk := by
  obtain ⟨hset, hrec⟩ := (State.rangesOk_iff s).mp h
  cases hc : changesRanges c with
  | false =>
    obtain ⟨hset, htable, hgeo⟩ := effect_ranges c s hc
    exact h.congr hset htable hgeo
  | true =>
    have hfree : s.clearRefusal.RecordsWithin s.numP := hrec.of_table rfl
    cases c with
    | powerOnReset asel kept => exact s.powerOn_rangesOk asel kept
    | settingsWrite t => exact State.writeSettings_rangesOk h t
    | epochExponentWrite k => exact State.writeSettings_rangesOk h _
    | patrolIntervalWrite which v => exact State.writeSettings_rangesOk h _
    | goOnline => exact s.takeCommand_holds 0x01 _ h h (State.takeGoOnline_rangesOk (s := s.clearRefusal) h)
    | demandReadComplete flips => exact h.of_records (by simp [effect]) (by simp [effect]) (hrec.completeRead flips)
    | demandMergeReadComplete flips => exact h.of_records (by simp [effect]) (by simp [effect]) (hrec.completeMergeRead flips)
    | patrolReadComplete flips => exact h.of_records (by simp [effect]) (by simp [effect]) (hrec.completePatrol flips)
    | fillWriteComplete => exact h.of_records (by simp [effect]) (by simp [effect]) hrec.completeFill
    | verifySweepReadComplete flips => exact h.of_records (by simp [effect]) (by simp [effect]) (hrec.completeVerify flips)
    | copyReadComplete flips => exact h.of_records (by simp [effect]) (by simp [effect]) (hrec.completeCopyRead flips)
    | verifyReadComplete flips => exact h.of_records (by simp [effect]) (by simp [effect]) (hrec.completeVerifyRead flips)
    | epochEnd => exact h.of_records (by simp [effect]) (by simp [effect]) hrec.endEpochTimer
    | engineReset => exact h.of_records (by simp [effect]) (by simp [effect]) hrec.engineReset
    | restore => exact h.of_records (by simp [effect]) (by simp [effect]) (hrec.takeCommand 0x30 hfree.takeRestore)
    | setRole => exact h.of_records (by simp [effect]) (by simp [effect]) (hrec.takeCommand 0x40 hfree.takeSetRole)
    | reseed => exact h.of_records (by simp [effect]) (by simp [effect]) (hrec.takeCommand 0x41 hfree.takeReseed)
    | calibrate => exact h.of_records (by simp [effect]) (by simp [effect]) (hrec.takeCommand 0x43 (hfree.takeCalibrate hset))
    | _ => cases hc

end Sys2Proof.Machine

open Sys2Proof Sys2Proof.Machine

/-- Settles O60: every effect stores settings clamped and leaves records within their ranges, and nothing else touches either. -/
theorem stepsKeepTheRanges : Obligations.StepsKeepTheRanges := by
  intro s t hs h
  refine step_keeps (P := State.RangesOk) (fun s t hst hs => ?_) (fun c s hs => ?_) (fun c s hs => effect_rangesOk c hs) s t hs h
  · rw [hst]
    exact hs.congr rfl rfl rfl
  · exact hs.congr (by simp) (by simp) (by simp)

end

-- ==== Proofs: EpochEnd ====
section
/-! SUPPORT. EPOCH_END: the pass over all records (R111, R121, R122), the causes, offers and counts that it leaves (R114, R118,
R123 to R125, R140), the end of a CALIBRATE (R143). -/

namespace Sys2Proof.Machine

/-! ## One handling, case by case (R113 to R120, R139, R140) -/

section
variable {st : Settings} {raw : Nat} {comp : Int} {a : Nat} {snap : Option Nat} {r : HealthRecord}

theorem watchEnd_alarm (h : r.runKind = .alarm ∧ st.alarmDebounce ≤ r.runCount) : watchEnd st r = .alarm := by
  rw [watchEnd, if_pos h]

/-- The release test of a record in WATCH (R119). -/
def HealthRecord.Releases (st : Settings) (r : HealthRecord) : Prop :=
  ∃ a v, r.state = .watch a (some v) ∧ Int.tdiv ((v : Int) * st.releasePct) 128 < (a : Int) - r.f

theorem watchEnd_release (h : ¬(r.runKind = .alarm ∧ st.alarmDebounce ≤ r.runCount)) (hr : r.Releases st) : watchEnd st r = .release := by
  obtain ⟨a, v, hstate, hlt⟩ := hr
  rw [watchEnd, if_neg h, hstate]
  exact if_pos (decide_eq_true hlt)

theorem watchEnd_unreleased (h : ¬(r.runKind = .alarm ∧ st.alarmDebounce ≤ r.runCount)) (hr : ¬r.Releases st) :
    watchEnd st r = if r.runKind = .exit ∧ st.exitDebounce ≤ r.runCount then .exit else .stays := by
  unfold watchEnd
  dsimp only
  rw [if_neg h]
  refine if_neg fun hreleased => ?_
  split at hreleased
  next a v hstate => exact hr ⟨a, v, hstate, of_decide_eq_true hreleased⟩
  all_goals cases hreleased

theorem watchPass_alarm
    (h : (watchUpdate st raw comp a snap r).runKind = .alarm ∧ st.alarmDebounce ≤ (watchUpdate st raw comp a snap r).runCount) :
    watchPass st raw comp a snap r = (watchUpdate st raw comp a snap r).alarmed .threshold := by
  rw [watchPass, watchEnd_alarm h]

theorem watchPass_release
    (h : ¬((watchUpdate st raw comp a snap r).runKind = .alarm ∧ st.alarmDebounce ≤ (watchUpdate st raw comp a snap r).runCount))
    (hr : (watchUpdate st raw comp a snap r).Releases st) :
    watchPass st raw comp a snap r = (watchUpdate st raw comp a snap r).quieted (watchUpdate st raw comp a snap r).f := by
  rw [watchPass, watchEnd_release h hr]

theorem watchPass_exit
    (h : ¬((watchUpdate st raw comp a snap r).runKind = .alarm ∧ st.alarmDebounce ≤ (watchUpdate st raw comp a snap r).runCount))
    (hr : ¬(watchUpdate st raw comp a snap r).Releases st)
    (he : (watchUpdate st raw comp a snap r).runKind = .exit ∧ st.exitDebounce ≤ (watchUpdate st raw comp a snap r).runCount) :
    watchPass st raw comp a snap r = (watchUpdate st raw comp a snap r).quieted (watchUpdate st raw comp a snap r).l := by
  rw [watchPass, watchEnd_unreleased h hr, if_pos he]

theorem watchPass_stays
    (h : ¬((watchUpdate st raw comp a snap r).runKind = .alarm ∧ st.alarmDebounce ≤ (watchUpdate st raw comp a snap r).runCount))
    (hr : ¬(watchUpdate st raw comp a snap r).Releases st)
    (he : ¬((watchUpdate st raw comp a snap r).runKind = .exit ∧ st.exitDebounce ≤ (watchUpdate st raw comp a snap r).runCount)) :
    watchPass st raw comp a snap r = watchUpdate st raw comp a snap r := by
  rw [watchPass, watchEnd_unreleased h hr, if_neg he]

/-- The run of the alarm condition (R117, R118). -/
theorem watchUpdate_alarm_iff (n : Nat) :
    ((watchUpdate st raw comp a snap r).runKind = .alarm ∧ n ≤ (watchUpdate st raw comp a snap r).runCount) ↔
      (st.alarmThreshold : Int) ≤ (filtered st r.f raw : Int) - healthStep r.l comp ∧ n ≤ runOn r .alarm := by
  by_cases halarm : (st.alarmThreshold : Int) ≤ (filtered st r.f raw : Int) - healthStep r.l comp
  · simp [watchUpdate, halarm]
  · by_cases hexit : (filtered st r.f raw : Int) - healthStep r.l comp < (st.watchThreshold : Int) - st.hysteresis <;>
      simp [watchUpdate, halarm, hexit]

/-- The run of the exit condition, which the alarm condition breaks (R117, R120). -/
theorem watchUpdate_exit_iff (n : Nat) :
    ((watchUpdate st raw comp a snap r).runKind = .exit ∧ n ≤ (watchUpdate st raw comp a snap r).runCount) ↔
      ¬(st.alarmThreshold : Int) ≤ (filtered st r.f raw : Int) - healthStep r.l comp ∧
        (filtered st r.f raw : Int) - healthStep r.l comp < (st.watchThreshold : Int) - st.hysteresis ∧ n ≤ runOn r .exit := by
  by_cases halarm : (st.alarmThreshold : Int) ≤ (filtered st r.f raw : Int) - healthStep r.l comp
  · simp [watchUpdate, halarm]
  · by_cases hexit : (filtered st r.f raw : Int) - healthStep r.l comp < (st.watchThreshold : Int) - st.hysteresis <;>
      simp [watchUpdate, halarm, hexit]

/-- A record in WATCH whose snapshot is `snap`, if it has one, is released by that snapshot (R119). -/
theorem HealthRecord.releases_iff (h : r.state = .watch a snap) :
    r.Releases st ↔ ∃ v, snap = some v ∧ Int.tdiv ((v : Int) * st.releasePct) 128 < (a : Int) - r.f := by
  constructor
  · rintro ⟨b, v, hstate, hlt⟩
    rw [h] at hstate
    cases hstate
    exact ⟨v, rfl, hlt⟩
  · rintro ⟨v, rfl, hlt⟩
    exact ⟨a, v, h, hlt⟩

/-- The run of a QUIET record's watch condition (R114). -/
def quietRun (st : Settings) (raw : Nat) (r : HealthRecord) : Nat :=
  if (st.watchThreshold : Int) ≤ (filtered st r.f raw : Int) - r.l then runOn r .watch else 0

theorem quietPass_enters (h : st.watchDebounce ≤ quietRun st raw r) : (quietPass st raw r).1 =
    ⟨.watch (filtered st r.f raw) none, r.role, r.raw, filtered st r.f raw, quietBaseline st (filtered st r.f raw) r.l, 0, .none, 0⟩ :=
  congrArg Prod.fst (if_pos h)

theorem quietPass_stays (h : quietRun st raw r < st.watchDebounce) : (quietPass st raw r).1 =
    ⟨r.state, r.role, r.raw, filtered st r.f raw, quietBaseline st (filtered st r.f raw) r.l, quietRun st raw r,
      if (st.watchThreshold : Int) ≤ (filtered st r.f raw : Int) - r.l then .watch else .none, r.settle⟩ :=
  congrArg Prod.fst (if_neg (Nat.not_le.mpr h))

end

theorem quietPass_keeps (st : Settings) (raw : Nat) (r : HealthRecord) :
    (quietPass st raw r).1.role = r.role ∧ (quietPass st raw r).1.raw = r.raw := by
  rcases Nat.lt_or_ge (quietRun st raw r) st.watchDebounce with h | h
  · rw [quietPass_stays h]
    exact ⟨rfl, rfl⟩
  · rw [quietPass_enters h]
    exact ⟨rfl, rfl⟩

/-- A handling leaves role and raw count (R111, R128). -/
theorem passRecord_keeps (st : Settings) (raw : Nat) (comp : Int) (r : HealthRecord) :
    (passRecord st raw comp r).role = r.role ∧ (passRecord st raw comp r).raw = r.raw := by
  cases h : r.state with
  | untracked => rw [passRecord_untracked h]; exact ⟨rfl, rfl⟩
  | baseline left =>
    rw [passRecord_baseline h]
    unfold baselinePass
    dsimp only
    split_ifs <;> exact ⟨rfl, rfl⟩
  | quiet => rw [passRecord_quiet h]; exact quietPass_keeps st raw r
  | watch a snap =>
    rw [passRecord_watch h]
    unfold watchPass
    dsimp only
    split <;> exact ⟨rfl, rfl⟩
  | alarm reason => rw [passRecord_alarm h]; exact ⟨rfl, rfl⟩

/-! ## What the passage of one record brings with it -/

theorem passCause_eq_some (x y : HealthState) (c : Cause) : passCause x y = some c ↔
    c = .watchEntered ∧ x = .quiet ∧ (∃ a snap, y = .watch a snap) ∨
    c = .alarmEntered ∧ (∃ a snap, x = .watch a snap) ∧ y = .alarm .threshold ∨
    c = .calError ∧ (∃ left, x = .baseline left) ∧ y = .alarm .calibration := by
  unfold passCause
  split
  · simp [eq_comm]
  · simp [eq_comm]
  · simp [eq_comm]
  next hwatch halarm hcal =>
    refine iff_of_false (by simp) ?_
    rintro (⟨-, rfl, a, snap, rfl⟩ | ⟨-, ⟨a, snap, rfl⟩, rfl⟩ | ⟨-, ⟨left, rfl⟩, rfl⟩)
    · exact hwatch a snap rfl rfl
    · exact halarm a snap rfl rfl
    · exact hcal left rfl rfl

theorem passCause_ne (x y : HealthState) : passCause x y ≠ some .sparesExhausted ∧ passCause x y ≠ some .commandDone := by
  simp [passCause_eq_some]

section
variable {c : Cause} (hc : c ≠ .sparesExhausted)
include hc

theorem State.startFrom_isSet (q : List RetireEntry) (s : State) : (State.startFrom q s).alu.isSet c = s.alu.isSet c := by
  induction q generalizing s with
  | nil => rfl
  | cons h rest ih =>
    unfold State.startFrom
    split_ifs
    · rfl
    · split
      · simp
      · rw [ih]
        simp [AlertUnit.isSet_set, hc.symm]

/-- An offer sets no cause but SPARES_EXHAUSTED (R125, R151). -/
theorem State.retireOffer_isSet (p : Nat) (s : State) : (State.retireOffer p s).alu.isSet c = s.alu.isSet c := by
  unfold State.retireOffer
  split
  · rfl
  · split_ifs
    · rfl
    · rfl
    · simp [AlertUnit.isSet_set, hc.symm]
    · rfl
    · unfold State.migrationStart
      split_ifs
      · exact State.startFrom_isSet hc _ _
      · rfl

/-- Every other cause is set by a passage alone. -/
theorem State.passEffects_isSet (p : Nat) (old new : HealthState) (s : State) :
    (State.passEffects p old new s).alu.isSet c = true ↔ s.alu.isSet c = true ∨ passCause old new = some c := by
  have hraise : (State.raise (passCause old new) s).alu.isSet c = true ↔ s.alu.isSet c = true ∨ passCause old new = some c := by
    cases passCause old new with
    | none => simp [State.raise]
    | some d => simp [State.raise, AlertUnit.isSet_set]
  unfold State.passEffects
  dsimp only
  split_ifs
  · rwa [State.retireOffer_isSet hc]
  · exact hraise

end

/-- An offer finds the same in both states, SPARES_EXHAUSTED among it (R125, R151). -/
def State.OffersSame (s t : State) : Prop := s.StartsAlike t ∧ t.StartsAlike s

namespace State.OffersSame

variable {s t v : State}

theorem trans (h : s.OffersSame t) (h' : t.OffersSame v) : s.OffersSame v := ⟨h.1.trans h'.1, h'.2.trans h.2⟩

theorem offer (h : s.OffersSame t) (p : Nat) : (State.retireOffer p s).OffersSame (State.retireOffer p t) := ⟨h.1.offer p, h.2.offer p⟩

/-- The records and the calibration do not matter to an offer. -/
theorem ofHealth (s : State) (hm : HealthMonitor) : s.OffersSame { s with hm := hm } :=
  ⟨⟨rfl, rfl, rfl, rfl, rfl, rfl, id⟩, rfl, rfl, rfl, rfl, rfl, rfl, id⟩

theorem raise (s : State) {c : Option Cause} (hc : c ≠ some .sparesExhausted) : s.OffersSame (State.raise c s) := by
  have hset : (State.raise c s).alu.isSet .sparesExhausted = s.alu.isSet .sparesExhausted := by
    cases c with
    | none => rfl
    | some d => simpa [State.raise, AlertUnit.isSet_set] using fun h => absurd (congrArg some h) hc
  exact ⟨⟨by simp, by simp, by simp, by simp, by simp, by simp, fun h => hset.trans h⟩, by simp, by simp, by simp, by simp, by simp, by simp,
    fun h => hset.symm.trans h⟩

/-- A passage offers the retirement of a record in ALARM, and nothing where the record is in no ALARM. -/
theorem passEffects (h : s.OffersSame t) (p : Nat) (old new : HealthState) :
    (if new.isAlarm then State.retireOffer p s else s).OffersSame (State.passEffects p old new t) := by
  have hraise := h.trans (raise t (passCause_ne old new).1)
  unfold State.passEffects
  split_ifs
  · exact (hraise.offer p).trans (ofHealth _ _)
  · exact hraise.trans (ofHealth _ _)

end State.OffersSame

/-! ## What the pass makes of each record (R111, R121, R122) -/

/-- Record `p` once its raw count is taken (step 1 of R111). -/
def State.cleared (u : State) (p : Nat) : HealthRecord := { u.health p with raw := 0 }

@[simp] theorem State.cleared_fields (u : State) (p : Nat) : (u.cleared p).state = (u.health p).state ∧
    (u.cleared p).role = (u.health p).role ∧ (u.cleared p).l = (u.health p).l := ⟨rfl, rfl, rfl⟩

/-- The record `p` handled with its raw count taken and its baseline compensated by `comp`. -/
def State.passedWith (u : State) (comp : Int) (p : Nat) : HealthRecord :=
  passRecord u.settings (u.health p).raw comp (u.cleared p)

/-- The change of L that record `x` feeds to its followers (R121). -/
def State.fedChange (u : State) (x : Nat) : Int :=
  if x < u.hm.table.length ∧ (u.health x).isReference = true then baselineChange (u.health x) (u.passedWith 0 x) else 0

/-- The compensation of record `p` (R122). -/
def State.compensated (u : State) (p : Nat) : Int :=
  match (u.health p).role with
  | .follower ref weight => Int.tdiv (u.fedChange ref * weight) 4096
  | .independent => 0
  | .reference => 0

/-- Record `p` after the pass. -/
def State.passed (u : State) (p : Nat) : HealthRecord := u.passedWith (u.compensated p) p

theorem State.passed_role (u : State) (p : Nat) : (u.passed p).role = (u.health p).role := (passRecord_keeps _ _ _ _).1

theorem State.passed_raw (u : State) (p : Nat) : (u.passed p).raw = 0 := (passRecord_keeps _ _ _ _).2

theorem State.passed_reference {u : State} {p : Nat} (h : (u.health p).isReference = true) : u.passed p = u.passedWith 0 p := by
  rw [HealthRecord.isReference_iff] at h
  rw [State.passed, State.compensated, h]

/-- The REFERENCE records among `ps`. -/
def State.references (u : State) (ps : List Nat) : List Nat := ps.filter fun p => (u.health p).isReference

/-- The retire offers of those of `ps` that end in ALARM, in their order (R123, R124). -/
def State.offers (u : State) (ps : List Nat) : State :=
  (ps.filter fun p => (u.passed p).state.isAlarm).foldl (fun x p => State.retireOffer p x) u

/-- The calibration's counts after the passages of `ps` (R140). -/
def State.calAfter (u : State) (ps : List Nat) : CalState :=
  ps.foldl (fun c p => c.passed (u.health p).state (u.passed p).state) u.hm.cal

theorem State.offers_append (u : State) (ps : List Nat) (p : Nat) : u.offers (ps ++ [p]) =
    if (u.passed p).state.isAlarm then State.retireOffer p (u.offers ps) else u.offers ps := by
  rw [State.offers, List.filter_append, List.foldl_append]
  by_cases h : (u.passed p).state.isAlarm = true <;> simp [h, State.offers]

theorem State.keeps_offers (u : State) (ps : List Nat) : u.KeepsCauses (u.offers ps) := by
  have hfold : ∀ (qs : List Nat) (s : State), s.KeepsCauses (qs.foldl (fun x p => State.retireOffer p x) s) := by
    intro qs
    induction qs with
    | nil => exact fun s => .of_alu rfl
    | cons q rest ih => exact fun s => (State.keeps_retireOffer q s).trans (ih _)
  exact hfold _ u

theorem State.calAfter_append (u : State) (ps : List Nat) (p : Nat) :
    u.calAfter (ps ++ [p]) = (u.calAfter ps).passed (u.health p).state (u.passed p).state := by
  simp [State.calAfter]

/-! ## The order of the pass (R111) -/

theorem passOrder_eq (u : State) : passOrder u.hm.table =
    u.references (List.range u.hm.table.length) ++ (List.range u.hm.table.length).filter fun p => !(u.health p).isReference := rfl

theorem passOrder_perm (table : List HealthRecord) : (passOrder table).Perm (List.range table.length) :=
  List.filter_append_perm _ _

theorem passOrder_nodup (table : List HealthRecord) : (passOrder table).Nodup :=
  (passOrder_perm table).nodup_iff.mpr List.nodup_range

theorem mem_passOrder (table : List HealthRecord) (p : Nat) : p ∈ passOrder table ↔ p < table.length := by
  rw [(passOrder_perm table).mem_iff, List.mem_range]

/-- When the turn of a record comes that is no REFERENCE, all REFERENCE records have had theirs. -/
theorem State.references_done {u : State} {done rest : List Nat} {p : Nat} (h : done ++ p :: rest = passOrder u.hm.table)
    (hp : (u.health p).isReference = false) (x : Nat) :
    x ∈ u.references done ↔ x < u.hm.table.length ∧ (u.health x).isReference = true := by
  rw [State.references, List.mem_filter]
  refine and_congr_left fun hx => ⟨fun hd => ?_, fun hlt => ?_⟩
  · rw [← mem_passOrder, ← h]
    exact List.mem_append_left _ hd
  · have hmem : x ∈ u.references (List.range u.hm.table.length) := List.mem_filter.mpr ⟨List.mem_range.mpr hlt, hx⟩
    rw [passOrder_eq, List.append_eq_append_iff] at h
    rcases h with ⟨mid, hdone, hrest⟩ | ⟨mid, hdone, -⟩
    · cases mid with
      | nil =>
        rw [List.append_nil] at hdone
        rwa [← hdone]
      | cons y mid =>
        have hy : p ∈ u.references (List.range u.hm.table.length) := by
          obtain ⟨rfl, -⟩ := List.cons.inj hrest
          rw [hdone]
          simp
        have href := (List.mem_filter.mp hy).2
        rw [hp] at href
        cases href
    · rw [hdone]
      exact List.mem_append_left _ hmem

/-- The change noted for one of `xs`, and 0 for any other. -/
theorem Deltas.of_map (g : Nat → Int) (xs : List Nat) (x : Nat) : Deltas.of (xs.map fun p => (p, g p)) x = if x ∈ xs then g x else 0 := by
  induction xs with
  | nil => rfl
  | cons y ys ih =>
    unfold Deltas.of at ih ⊢
    by_cases hy : y = x
    · simp [hy]
    · have hyx : (y == x) = false := by simpa using hy
      rw [List.map_cons, List.find?_cons]
      simp only [hyx, ih, List.mem_cons, Ne.symm hy, false_or]

/-! ## The pass, one record after the other -/

/-- The pass that started from `u` has handled `done` and has still to handle `todo`; `ds` are the changes noted so far. -/
structure State.Passing (u : State) (done todo : List Nat) (ds : Deltas) (s : State) : Prop where
  order : done ++ todo = passOrder u.hm.table
  settings : s.settings = u.settings
  length : s.hm.table.length = u.hm.table.length
  record : ∀ p, s.health p = if p ∈ done then u.passed p else u.cleared p
  deltas : ds = (u.references done).map fun p => (p, baselineChange (u.health p) (u.passed p))
  offered : (u.offers done).OffersSame s
  cal : s.hm.cal = u.calAfter done
  causes : ∀ c, c ≠ .sparesExhausted → (s.alu.isSet c = true ↔
    u.alu.isSet c = true ∨ ∃ p ∈ done, passCause (u.health p).state (u.passed p).state = some c)

namespace State.Passing

variable {u s : State} {done todo rest : List Nat} {ds : Deltas} {p : Nat}

/-- Before the first record the raw counts are taken. -/
theorem start (u : State) : u.Passing [] (passOrder u.hm.table) [] u.takeRaws where
  order := rfl
  settings := rfl
  length := by simp
  record p := by
    rw [if_neg List.not_mem_nil, State.cleared]
    by_cases hp : p < u.hm.table.length
    · simp [State.health, State.takeRaws, List.getD_eq_getElem?_getD, hp]
    · have hp' : u.takeRaws.hm.table.length ≤ p := by simpa using hp
      rw [State.health_of_le p _ hp', State.health_of_le p u (by omega)]
      rfl
  deltas := rfl
  offered := .ofHealth u _
  cal := rfl
  causes c _ := by simp

theorem fresh (h : u.Passing done (p :: rest) ds s) : p ∉ done := by
  have hnodup := passOrder_nodup u.hm.table
  rw [← h.order] at hnodup
  exact fun hp => (List.nodup_append.mp hnodup).2.2 p hp p (by simp) rfl

theorem lt (h : u.Passing done (p :: rest) ds s) : p < u.hm.table.length := by
  rw [← mem_passOrder, ← h.order]
  simp

theorem health_next (h : u.Passing done (p :: rest) ds s) : s.health p = u.cleared p := by
  rw [h.record, if_neg h.fresh]

/-- The compensation that the changes noted so far give the next record. -/
theorem compensation_next (h : u.Passing done (p :: rest) ds s) : compensation ds (s.health p) = u.compensated p := by
  rw [h.health_next]
  simp only [compensation, State.compensated, State.cleared_fields]
  cases hrole : (u.health p).role with
  | independent => rfl
  | reference => rfl
  | follower ref weight =>
    have hno : (u.health p).isReference = false := by simp [HealthRecord.isReference, hrole]
    have href : ds.of ref = u.fedChange ref := by
      have hdone := State.references_done h.order hno ref
      rw [h.deltas, Deltas.of_map, State.fedChange]
      by_cases hx : ref < u.hm.table.length ∧ (u.health ref).isReference = true
      · rw [if_pos (hdone.mpr hx), if_pos hx, State.passed_reference hx.2]
      · rw [if_neg (mt hdone.mp hx), if_neg hx]
    simp only [href]

/-- The next handling leaves the record that the pass makes of it. -/
theorem passOne_next (h : u.Passing done (p :: rest) ds s) :
    State.passOne p ((u.hm.table.map HealthRecord.raw).getD p 0) ds s = State.leavePassed p (u.passed p) s := by
  have hlt : p < s.hm.table.length := h.length ▸ h.lt
  have hraw : (u.hm.table.map HealthRecord.raw).getD p 0 = (u.health p).raw := by
    simp [State.health, List.getD_eq_getElem?_getD, h.lt]
  rw [State.passOne_eq hlt, State.passedRecord, h.compensation_next, h.settings, hraw, h.health_next]
  rfl

/-- One record more. -/
theorem step (h : u.Passing done (p :: rest) ds s) :
    let t := State.passOne p ((u.hm.table.map HealthRecord.raw).getD p 0) ds s
    u.Passing (done ++ [p]) rest (noteDelta ds p (s.health p) (t.health p)) t := by
  intro t
  have ht : t = State.passEffects p (u.health p).state (u.passed p).state (State.putHealth p (u.passed p) s) := by
    rw [← State.leavePassed_eq (by rw [h.health_next, (u.cleared_fields p).1]) rfl]
    exact h.passOne_next
  have hrecord : ∀ q, t.health q = if q ∈ done ++ [p] then u.passed q else u.cleared q := by
    intro q
    have htable : t.health q = (State.putHealth p (u.passed p) s).health q := State.health_congr (by rw [ht, State.passEffects_hm]) q
    rw [htable, State.health_putHealth, h.record]
    by_cases hq : q = p
    · subst hq
      rw [if_pos ⟨rfl, h.length ▸ h.lt⟩, if_pos (by simp)]
    · simp [hq]
  refine ⟨by simp [← h.order], ?_, ?_, hrecord, ?_, ?_, ?_, fun c hc => ?_⟩
  · simpa [t] using h.settings
  · simpa [t] using h.length
  · have hnew : t.health p = u.passed p := by simp [hrecord]
    rw [h.health_next, hnew, h.deltas, State.references, State.references, List.filter_append, List.map_append]
    simp only [noteDelta, State.cleared_fields]
    cases hrole : (u.health p).role with
    | reference => simp [HealthRecord.isReference, hrole, baselineChange]
    | independent => simp [HealthRecord.isReference, hrole]
    | follower ref weight => simp [HealthRecord.isReference, hrole]
  · rw [State.offers_append, ht]
    exact (h.offered.trans (.ofHealth s _)).passEffects p _ _
  · rw [State.calAfter_append, ht, State.passEffects_hm]
    exact congrArg (fun c => CalState.passed c _ _) h.cal
  · have halu : (State.putHealth p (u.passed p) s).alu = s.alu := rfl
    rw [ht, State.passEffects_isSet hc, halu, h.causes c hc]
    simp [or_and_right, exists_or, or_assoc]

/-- All that are left. -/
theorem finish (h : u.Passing done todo ds s) :
    ∃ ds', u.Passing (passOrder u.hm.table) [] ds' (State.passOver (u.hm.table.map HealthRecord.raw) todo ds s) := by
  induction todo generalizing done ds s with
  | nil =>
    have horder := h.order
    rw [List.append_nil] at horder
    exact ⟨ds, horder ▸ h⟩
  | cons p rest ih => exact ih h.step

end State.Passing

/-! ## Records after the pass, by their states (R112 to R123, R139, R140) -/

section
variable {u : State} {p : Nat}

/-- F after the pass (R112). -/
def State.newF (u : State) (p : Nat) : Nat := filtered u.settings (u.health p).f (u.health p).raw

theorem State.passed_untracked (h : (u.health p).state = .untracked) : u.passed p = u.cleared p := passRecord_untracked h

theorem State.passed_alarm {reason : AlarmReason} (h : (u.health p).state = .alarm reason) :
    u.passed p = { u.cleared p with f := u.newF p } := passRecord_alarm h

theorem State.passed_enters (h : (u.health p).state = .quiet)
    (hrun : u.settings.watchDebounce ≤ quietRun u.settings (u.health p).raw (u.health p)) :
    u.passed p = ⟨.watch (u.newF p) none, (u.health p).role, 0, u.newF p, quietBaseline u.settings (u.newF p) (u.health p).l, 0, .none, 0⟩ :=
  (passRecord_quiet (r := u.cleared p) h).trans (quietPass_enters hrun)

theorem State.passed_quiet (h : (u.health p).state = .quiet)
    (hrun : quietRun u.settings (u.health p).raw (u.health p) < u.settings.watchDebounce) :
    u.passed p = ⟨.quiet, (u.health p).role, 0, u.newF p, quietBaseline u.settings (u.newF p) (u.health p).l,
      quietRun u.settings (u.health p).raw (u.health p),
      if (u.settings.watchThreshold : Int) ≤ (u.newF p : Int) - (u.health p).l then .watch else .none, (u.health p).settle⟩ := by
  rw [← h]
  exact (passRecord_quiet (r := u.cleared p) h).trans (quietPass_stays hrun)

section
variable {left : Nat} (h : (u.health p).state = .baseline left)
include h

theorem State.passed_baseline (hleft : 1 < left) : u.passed p =
    ⟨.baseline (left - 1), (u.health p).role, 0, u.newF p, u.newF p, (u.health p).runCount, (u.health p).runKind, (u.health p).settle⟩ :=
  (passRecord_baseline (r := u.cleared p) h).trans (if_pos hleft)

theorem State.passed_fails (hleft : left ≤ 1) (hf : u.settings.calBoundary < u.newF p) :
    u.passed p = ⟨.alarm .calibration, (u.health p).role, 0, u.newF p, u.newF p, 0, .none, 0⟩ :=
  (passRecord_baseline (r := u.cleared p) h).trans ((if_neg (Nat.not_lt.mpr hleft)).trans (if_pos hf))

theorem State.passed_returns (hleft : left ≤ 1) (hf : u.newF p ≤ u.settings.calBoundary) :
    u.passed p = ⟨.quiet, (u.health p).role, 0, u.newF p, u.newF p, 0, .none, 0⟩ :=
  (passRecord_baseline (r := u.cleared p) h).trans ((if_neg (Nat.not_lt.mpr hleft)).trans (if_neg (Nat.not_lt.mpr hf)))

end

/-- A record in WATCH after steps 1 to 7 of R115. -/
def State.updated (u : State) (p a : Nat) (snap : Option Nat) : HealthRecord :=
  watchUpdate u.settings (u.health p).raw (u.compensated p) a snap (u.cleared p)

theorem State.passed_watch {a : Nat} {snap : Option Nat} (h : (u.health p).state = .watch a snap) :
    u.passed p = watchPass u.settings (u.health p).raw (u.compensated p) a snap (u.cleared p) := passRecord_watch h

end

/-! ## The calibration after the pass (R140) -/

/-- The pass takes record `p` out of BASELINE. -/
def State.leaves (u : State) (p : Nat) : Bool :=
  match (u.health p).state with
  | .baseline left => left ≤ 1
  | _ => false

/-- One handling's part in the counts. -/
theorem State.cal_passed (u : State) (c : CalState) (p : Nat) : c.passed (u.health p).state (u.passed p).state =
    if u.leaves p then
      if u.settings.calBoundary < u.newF p then { c with calAlarms := c.calAlarms + 1, baselineCount := c.baselineCount - 1 }
      else { c with returnedQuiet := c.returnedQuiet + 1, baselineCount := c.baselineCount - 1 }
    else c := by
  unfold State.leaves
  cases h : (u.health p).state with
  | baseline left =>
    by_cases hleft : 1 < left
    · rw [State.passed_baseline h hleft]
      simp [CalState.passed, Nat.not_le.mpr hleft]
    · by_cases hf : u.settings.calBoundary < u.newF p
      · rw [State.passed_fails h (by omega) hf]
        simp [CalState.passed, Nat.not_lt.mp hleft, hf]
      · rw [State.passed_returns h (by omega) (by omega)]
        simp [CalState.passed, Nat.not_lt.mp hleft, hf]
  | _ => simp [CalState.passed]

/-- Counts taken over a list, one by one. -/
theorem CalState.foldl_counts (leaves fails : Nat → Bool) (ps : List Nat) (c : CalState) :
    (ps.foldl (fun c p => if leaves p then
        if fails p then { c with calAlarms := c.calAlarms + 1, baselineCount := c.baselineCount - 1 }
        else { c with returnedQuiet := c.returnedQuiet + 1, baselineCount := c.baselineCount - 1 }
      else c) c) = { c with
        calAlarms := c.calAlarms + ((ps.filter leaves).filter fails).length
        returnedQuiet := c.returnedQuiet + ((ps.filter leaves).length - ((ps.filter leaves).filter fails).length)
        baselineCount := c.baselineCount - (ps.filter leaves).length } := by
  induction ps generalizing c with
  | nil => rfl
  | cons p rest ih =>
    have hle : ((rest.filter leaves).filter fails).length ≤ (rest.filter leaves).length := List.length_filter_le _ _
    rw [List.foldl_cons, ih]
    cases hl : leaves p with
    | false => simp [hl]
    | true =>
      cases hf : fails p with
      | true =>
        simp [hl, hf, -List.filter_filter]
        omega
      | false =>
        simp [hl, hf, -List.filter_filter]
        omega

/-- The counts after the whole pass. -/
theorem State.calAfter_pass (u : State) :
    let leaving := (List.range u.hm.table.length).filter u.leaves
    let failing := (leaving.filter fun p => u.settings.calBoundary < u.newF p).length
    u.calAfter (passOrder u.hm.table) = { u.hm.cal with
      calAlarms := u.hm.cal.calAlarms + failing
      returnedQuiet := u.hm.cal.returnedQuiet + (leaving.length - failing)
      baselineCount := u.hm.cal.baselineCount - leaving.length } := by
  have hperm := (passOrder_perm u.hm.table).filter u.leaves
  have hfold := CalState.foldl_counts u.leaves (fun p => u.settings.calBoundary < u.newF p) (passOrder u.hm.table) u.hm.cal
  rw [hperm.length_eq, (hperm.filter _).length_eq] at hfold
  simpa [State.calAfter, State.cal_passed] using hfold

/-! ## The epoch's end (R110, R111, R143) -/

/-- The state that the last record's handling leaves. -/
def State.passDone (u : State) : State :=
  State.passOver (u.hm.table.map HealthRecord.raw) (passOrder u.hm.table) [] u.takeRaws

theorem State.passDone_passing (u : State) : ∃ ds, u.Passing (passOrder u.hm.table) [] ds u.passDone := (State.Passing.start u).finish

theorem State.passDone_frame (u : State) : u.passDone.mp = u.mp ∧ u.passDone.se = u.se ∧ u.passDone.settings = u.settings := by
  simp [State.passDone]

theorem State.endEpochTimer_eq {u : State} {n : Nat} (h : u.hm.epochTimer = some n) :
    u.endEpochTimer = u.passDone.completeCalibrate.restartEpochTimer := by
  rw [State.endEpochTimer, h]
  rfl

section
variable {u : State}

theorem State.passDone_health {p : Nat} (hp : p < u.hm.table.length) : u.passDone.health p = u.passed p := by
  obtain ⟨ds, h⟩ := u.passDone_passing
  rw [h.record, if_pos ((mem_passOrder _ _).mpr hp)]

/-- The causes that the whole pass sets (R114, R118, R124, R125, R140). -/
theorem State.passDone_isSet (c : Cause) : u.passDone.alu.isSet c = true ↔ u.alu.isSet c = true ∨
    (∃ p < u.hm.table.length, passCause (u.health p).state (u.passed p).state = some c) ∨
    c = .sparesExhausted ∧ (u.offers (passOrder u.hm.table)).alu.isSet .sparesExhausted = true := by
  obtain ⟨ds, h⟩ := u.passDone_passing
  by_cases hc : c = .sparesExhausted
  · subst hc
    have hkeeps : u.KeepsCauses (u.offers (passOrder u.hm.table)) := State.keeps_offers _ _
    have hno : ¬∃ p < u.hm.table.length, passCause (u.health p).state (u.passed p).state = some .sparesExhausted :=
      fun ⟨_, _, hp⟩ => (passCause_ne _ _).1 hp
    obtain ⟨⟨-, -, -, -, -, -, hto⟩, -, -, -, -, -, -, hfrom⟩ := h.offered
    exact ⟨fun hs => .inr (.inr ⟨rfl, hfrom hs⟩),
      fun hs => hto (hs.elim (hkeeps _) fun hs => hs.elim (fun hs => absurd hs hno) And.right)⟩
  · rw [h.causes c hc]
    simp [hc, mem_passOrder]

/-- The passages that set a cause, cause by cause. -/
theorem passCause_entered (n : Nat) (old new : Nat → HealthState) (c : Cause) :
    (∃ p < n, passCause (old p) (new p) = some c) ↔
    c = .watchEntered ∧ (∃ p < n, old p = .quiet ∧ ∃ a snap, new p = .watch a snap) ∨
    c = .alarmEntered ∧ (∃ p < n, (∃ a snap, old p = .watch a snap) ∧ new p = .alarm .threshold) ∨
    c = .calError ∧ (∃ p < n, (∃ left, old p = .baseline left) ∧ new p = .alarm .calibration) := by
  simp only [passCause_eq_some]
  constructor
  · rintro ⟨p, hp, ⟨hc, hx⟩ | ⟨hc, hx⟩ | ⟨hc, hx⟩⟩
    · exact .inl ⟨hc, p, hp, hx⟩
    · exact .inr (.inl ⟨hc, p, hp, hx⟩)
    · exact .inr (.inr ⟨hc, p, hp, hx⟩)
  · rintro (⟨hc, p, hp, hx⟩ | ⟨hc, p, hp, hx⟩ | ⟨hc, p, hp, hx⟩)
    · exact ⟨p, hp, .inl ⟨hc, hx⟩⟩
    · exact ⟨p, hp, .inr (.inl ⟨hc, hx⟩)⟩
    · exact ⟨p, hp, .inr (.inr ⟨hc, hx⟩)⟩

/-- The pass's last record ends a running CALIBRATE (R143). -/
def State.EndsWithPass (u : State) : Prop :=
  (u.calAfter (passOrder u.hm.table)).active = true ∧ (u.calAfter (passOrder u.hm.table)).baselineCount = 0

/-- What the end of the epoch leaves, in terms of the pass (R111, R143). -/
theorem State.endEpochTimer_spec {n : Nat} (hn : u.hm.epochTimer = some n) :
    let t := u.endEpochTimer
    let cal := u.calAfter (passOrder u.hm.table)
    (∀ p < u.hm.table.length, t.health p = u.passed p) ∧ t.hm.epochTimer = some (1000 * 2 ^ u.settings.epochExp) ∧
    t.me = (u.offers (passOrder u.hm.table)).me ∧ t.rc = (u.offers (passOrder u.hm.table)).rc ∧
    (∀ c, t.alu.isSet c = true ↔ u.passDone.alu.isSet c = true ∨ c = .commandDone ∧ u.EndsWithPass) ∧
    (¬u.EndsWithPass → t.hm.cal = cal ∧ t.mp = u.mp ∧ t.se = u.se) ∧
    (u.EndsWithPass → t.hm.cal = { cal with active := false } ∧
      t.mp = { u.mp with lastOutcome := .ok, longOutcome := .ok, busy := false, results := cal.results } ∧ PatrolRechecked u t ∧
      t.se.patrolTimer = loadTimer u.settings.patrolInterval) := by
  intro t cal
  have ht : t = u.passDone.completeCalibrate.restartEpochTimer := State.endEpochTimer_eq hn
  obtain ⟨hmp, hse, hset⟩ := u.passDone_frame
  obtain ⟨ds, hpass⟩ := u.passDone_passing
  obtain ⟨⟨-, -, hrc, hme, -⟩, -⟩ := hpass.offered
  have hcal : u.passDone.hm.cal = cal := hpass.cal
  have hrecord : ∀ p < u.hm.table.length, t.health p = u.passed p := fun p hp => by
    rw [← State.passDone_health hp]
    exact State.health_congr (by rw [ht]; simp) p
  refine ⟨hrecord, by simp [ht, hset], by simpa [ht] using hme, by simpa [ht] using hrc, ?_⟩
  by_cases hends : u.EndsWithPass
  · obtain ⟨hhm', hmp', htimer', halu', hlook⟩ := u.passDone.completeCalibrate_ends (hcal ▸ hends.1) (hcal ▸ hends.2)
    refine ⟨fun c => ?_, fun hno => absurd hends hno, fun _ => ⟨?_, ?_, ?_, ?_⟩⟩
    · have halu : t.alu = u.passDone.alu.set .commandDone := by simp [ht, halu']
      rw [halu, AlertUnit.isSet_set, Bool.or_eq_true, beq_iff_eq, eq_comm (a := Cause.commandDone), and_iff_left hends]
    · rw [ht, ← hcal]
      simp [hhm']
    · rw [ht, ← hcal]
      simp [hmp', hmp]
    · exact hlook.congr hse.symm (by simp [ht]) (by simp [ht]) (by simp [ht]) (by simp [ht]) (by simp [ht]) (by simp [ht])
    · simp [ht, htimer', hset]
  · have hwaits := u.passDone.completeCalibrate_waits (hcal ▸ hends)
    rw [hwaits] at ht
    refine ⟨fun c => by simp [ht, hends], fun _ => ?_, fun hyes => absurd hyes hends⟩
    simp [ht, hcal, hmp, hse]

/-- The change that a record feeds, read off the state after the pass (R121). -/
theorem State.fedChange_eq {t : State} (ht : ∀ p < u.hm.table.length, t.health p = u.passed p) (x : Nat) : u.fedChange x =
    if x < u.hm.table.length ∧ (u.health x).role = .reference then baselineChange (u.health x) (t.health x) else 0 := by
  simp only [State.fedChange, HealthRecord.isReference_iff]
  split_ifs with hx
  · rw [ht x hx.1, State.passed_reference ((HealthRecord.isReference_iff _).mpr hx.2)]
  · rfl

end

/-! ## A retire offer (R125) -/

section
variable {p g : Nat} {s : State} (hg : s.logicalOf p = some g)
include hg

/-- The conditions of R125, tested in their order. -/
theorem State.retireOffer_eq : State.retireOffer p s =
    if !s.settings.autoRetire then s
    else if s.queuedForRetire g || s.isCopying g then s
    else if s.lowestSpare.isNone then State.setCause .sparesExhausted s
    else if Config.retireQueueEntries ≤ s.me.queue.length then s
    else State.migrationStart (State.appendRetire g .auto s) := by
  rw [State.retireOffer, hg]

theorem State.retireOffer_off (hauto : s.settings.autoRetire = false) : State.retireOffer p s = s := by
  rw [State.retireOffer_eq hg, if_pos (by simp [hauto])]

variable (hauto : s.settings.autoRetire = true)
include hauto

theorem State.retireOffer_claimed (hc : (s.queuedForRetire g || s.isCopying g) = true) : State.retireOffer p s = s := by
  rw [State.retireOffer_eq hg, if_neg (by simp [hauto]), if_pos hc]

variable (hc : ¬(s.queuedForRetire g || s.isCopying g) = true)
include hc

theorem State.retireOffer_exhausted (hs : s.lowestSpare.isNone = true) : State.retireOffer p s = State.setCause .sparesExhausted s := by
  rw [State.retireOffer_eq hg, if_neg (by simp [hauto]), if_neg hc, if_pos hs]

variable (hs : ¬s.lowestSpare.isNone = true)
include hs

theorem State.retireOffer_full (hfull : Config.retireQueueEntries ≤ s.me.queue.length) : State.retireOffer p s = s := by
  rw [State.retireOffer_eq hg, if_neg (by simp [hauto]), if_neg hc, if_neg hs, if_pos hfull]

theorem State.retireOffer_starts (hroom : s.me.queue.length < Config.retireQueueEntries) :
    State.retireOffer p s = State.migrationStart (State.appendRetire g .auto s) := by
  rw [State.retireOffer_eq hg, if_neg (by simp [hauto]), if_neg hc, if_neg hs, if_neg (Nat.not_le.mpr hroom)]

end

theorem State.lowestSpare_isNone (s : State) : s.lowestSpare.isNone = true ↔ ¬∃ x ∈ s.rc.segs, x.role = .spareFree := by
  simp [State.lowestSpare]

theorem State.setCause_sparesExhausted (s : State) :
    State.setCause .sparesExhausted s = { s with alu := { s.alu with causes := s.alu.causes ||| 0x004 } } := by
  have hmask : Cause.sparesExhausted.mask = 0x004 := by decide
  rw [State.setCause, AlertUnit.set, hmask]

end Sys2Proof.Machine

open Sys2Proof Sys2Proof.Machine

/-- Settles O35: the pass is followed record by record in its order; what each handling brings with it adds up to the causes, offers
and counts of the whole. -/
theorem epochEndFiltersEveryRecord : Obligations.EpochEndFiltersEveryRecord := by
  refine ⟨fun n s u hs htimer => ?_, fun p s t ht => ?_⟩
  · obtain ⟨hrecord, hepoch, hme, hrc, hcauses, hgoes, hends⟩ := State.endEpochTimer_spec htimer
    obtain ⟨henables, hmaster⟩ := AlertUnit.switches_inj (a := u.endEpochTimer.alu) (b := u.alu) (by simp)
    have hframe : u.endEpochTimer = { u with
        hm := u.endEpochTimer.hm, me := u.endEpochTimer.me, rc := u.endEpochTimer.rc, alu := u.endEpochTimer.alu
        se := u.endEpochTimer.se, mp := u.endEpochTimer.mp } := State.eq_of_fields (by simp)
    have hlength : u.endEpochTimer.hm.table.length = u.hm.table.length := by simp
    have hexec : exec .epochEnd s = .next u.endEpochTimer := by
      rw [← hs]
      rfl
    generalize u.endEpochTimer = t at *
    refine ⟨t, hexec, hframe, hlength, hepoch, ?_⟩
    intro st clamp F counted
    refine ⟨fun p hp => ?_, ?_⟩
    · intro old new
      have hnew : new = u.passed p := hrecord p hp
      clear_value new
      subst hnew
      refine ⟨u.passed_raw p, u.passed_role p, State.passed_untracked, fun hq => ?_, fun left hb => ?_, fun a snap hw => ?_,
        fun reason ha => State.passed_alarm ha⟩
      · exact ⟨State.passed_enters hq, State.passed_quiet hq⟩
      · exact ⟨State.passed_baseline hb, State.passed_fails hb, State.passed_returns hb⟩
      · intro change comp
        have hchange : ∀ x, change x = u.fedChange x := fun x => by
          rw [State.fedChange_eq hrecord]
          refine if_congr Iff.rfl ?_ rfl
          unfold baselineChange
          cases (u.health x).state <;> rfl
        have hcomp : comp = u.compensated p := by
          show (match (u.health p).role with
            | .follower ref weight => Int.tdiv (change ref * weight) 4096
            | .independent => 0
            | .reference => 0) = _
          rw [State.compensated]
          cases (u.health p).role <;> simp [hchange]
        clear_value comp
        subst hcomp
        intro L a' settle d snap' alarmHit exitHit alarms releases exits
        have hpassed := State.passed_watch hw
        have halarms : alarms ↔ (u.updated p a snap).runKind = .alarm ∧ st.alarmDebounce ≤ (u.updated p a snap).runCount :=
          (watchUpdate_alarm_iff (a := a) (snap := snap) (r := u.cleared p) _).symm
        have hreleases : releases ↔ (u.updated p a snap).Releases st :=
          (HealthRecord.releases_iff (r := u.updated p a snap) (a := a') (snap := snap') rfl).symm
        have hexits : exits ↔ (u.updated p a snap).runKind = .exit ∧ st.exitDebounce ≤ (u.updated p a snap).runCount :=
          (watchUpdate_exit_iff (a := a) (snap := snap) (r := u.cleared p) _).symm
        rw [halarms, hreleases, hexits]
        exact ⟨fun ha => hpassed.trans (watchPass_alarm ha), fun ha hr => hpassed.trans (watchPass_release ha hr),
          fun ha hr he => hpassed.trans (watchPass_exit ha hr he), fun ha hr he => hpassed.trans (watchPass_stays ha hr he)⟩
    · intro ps order alarmed offered leaving failing cal ends entered
      have halarmed : alarmed = order.filter fun p => (u.passed p).state.isAlarm := by
        refine List.filter_congr fun p hp => ?_
        rw [hrecord p ((mem_passOrder _ _).mp hp)]
        cases (u.passed p).state <;> rfl
      have hoffered : offered = u.offers (passOrder u.hm.table) := by
        show alarmed.foldl _ u = _
        rw [halarmed]
        rfl
      have hcal : u.calAfter (passOrder u.hm.table) = cal := u.calAfter_pass
      have hiff : u.EndsWithPass ↔ ends := by rw [State.EndsWithPass, hcal]
      rw [hcal] at hgoes hends
      rw [hiff] at hgoes hends
      rw [hoffered]
      refine ⟨hme, hrc, fun c => ?_, henables, hmaster, hgoes, hends⟩
      have hpassage : (∃ p < u.hm.table.length, passCause (u.health p).state (u.passed p).state = some c) ↔
          ∃ p < u.hm.table.length, passCause (u.health p).state (t.health p).state = some c :=
        exists_congr fun p => and_congr_right fun hp => by rw [hrecord p hp]
      rw [hcauses, State.passDone_isSet, hpassage, passCause_entered, hiff]
      simp only [or_assoc]
      rfl
  · subst ht
    refine ⟨fun hnone => by rw [State.retireOffer, hnone], fun g hg => ?_⟩
    intro claimed spare
    have hclaimed : (s.queuedForRetire g || s.isCopying g) = true ↔ claimed := by
      rw [Bool.or_eq_true, State.queuedForRetire_iff, State.isCopying_iff]
    have hspare : s.lowestSpare.isNone = true ↔ ¬spare := s.lowestSpare_isNone
    exact ⟨State.retireOffer_off hg, fun hauto hc => State.retireOffer_claimed hg hauto (hclaimed.mpr hc),
      fun hauto hc hs => (State.retireOffer_exhausted hg hauto (mt hclaimed.mp hc) (hspare.mpr hs)).trans s.setCause_sparesExhausted,
      fun hauto hc hs => State.retireOffer_full hg hauto (mt hclaimed.mp hc) (mt hspare.mp (not_not_intro hs)),
      fun hauto hc hs hroom =>
        congrArg Host.Outcome.next (State.retireOffer_starts hg hauto (mt hclaimed.mp hc) (mt hspare.mp (not_not_intro hs)) hroom).symm⟩

end

-- ==== Proofs: RolesAndReseeds ====
section
/-! SUPPORT. SET_ROLE and RESEED as they are taken (R128, R129). -/

namespace Sys2Proof.Machine

/-! ## SET_ROLE (R128) -/

section
variable {s : State} {p role ref weight : Nat}

/-- What R128 asks of a FOLLOWER's parameters. -/
def State.FollowerOk (s : State) (p ref weight : Nat) : Prop :=
  ref < s.numP ∧ ref ≠ p ∧ (s.health ref).role = .reference ∧ weight ≤ 8191

theorem State.followerOk_iff (s : State) (p ref weight : Nat) : s.FollowerOk p ref weight ↔
    ¬(s.numP ≤ ref ∨ ref = p ∨ (s.health ref).isReference = false ∨ 8191 < weight) := by
  rw [State.FollowerOk, ← HealthRecord.isReference_iff]
  simp

theorem State.roleNamed_independent (hp : p < s.numP) : s.roleNamed p 0 ref weight = some .independent := by
  rw [State.roleNamed, if_neg (by omega), if_pos rfl]

theorem State.roleNamed_reference (hp : p < s.numP) : s.roleNamed p 1 ref weight = some .reference := by
  rw [State.roleNamed, if_neg (by omega), if_neg (by decide), if_pos rfl]

theorem State.roleNamed_follower (hp : p < s.numP) (h : s.FollowerOk p ref weight) :
    s.roleNamed p 2 ref weight = some (.follower ref weight) := by
  rw [State.roleNamed, if_neg (by omega), if_neg (by decide), if_neg (by decide), if_pos rfl, if_neg ((s.followerOk_iff p ref weight).mp h)]

/-- A segment, a role or a reference that SET_ROLE does not take (R128, R192). -/
theorem State.roleNamed_none (h : s.numP ≤ p ∨ 2 < role ∨ role = 2 ∧ ¬s.FollowerOk p ref weight) : s.roleNamed p role ref weight = none := by
  unfold State.roleNamed
  rw [State.followerOk_iff, not_not] at h
  split_ifs with hp h0 h1 h2 hbad
  · rfl
  · omega
  · omega
  · rfl
  · exact absurd (h.resolve_left hp) (by simp [h2, hbad])
  · rfl

theorem State.takeSetRole_notOnline (h : s.mode ≠ .online) : s.takeSetRole = State.completeImmediate 0x40 .notOnline s := by
  simp [State.takeSetRole, h]

theorem State.takeSetRole_none (h : s.mode = .online)
    (hrole : s.roleNamed s.mp.param0.toNat s.mp.param1.toNat s.mp.param2.toNat s.mp.param3.toNat = none) :
    s.takeSetRole = State.completeImmediate 0x40 .badParameter s := by
  simp [State.takeSetRole, h, hrole]

theorem State.takeSetRole_some (h : s.mode = .online) {named : HealthRole}
    (hrole : s.roleNamed s.mp.param0.toNat s.mp.param1.toNat s.mp.param2.toNat s.mp.param3.toNat = some named) :
    s.takeSetRole = State.completeImmediate 0x40 .ok
      (State.putHealth s.mp.param0.toNat { s.health s.mp.param0.toNat with role := named } s) := by
  simp [State.takeSetRole, h, hrole]

/-! ## RESEED (R129) -/

theorem State.takeReseed_notOnline (h : s.mode ≠ .online) : s.takeReseed = State.completeImmediate 0x41 .notOnline s := by
  simp [State.takeReseed, h]

theorem State.takeReseed_beyond (h : s.mode = .online) (hp : s.numP ≤ s.mp.param0.toNat) :
    s.takeReseed = State.completeImmediate 0x41 .badParameter s := by
  simp [State.takeReseed, h, hp]

theorem State.takeReseed_untracked (h : s.mode = .online) (hp : s.mp.param0.toNat < s.numP)
    (hstate : (s.health s.mp.param0.toNat).state = .untracked) : s.takeReseed = State.completeImmediate 0x41 .notFilled s := by
  simp [State.takeReseed, h, Nat.not_le.mpr hp, HealthRecord.tracked, hstate]

theorem State.takeReseed_tracked (h : s.mode = .online) (hp : s.mp.param0.toNat < s.numP)
    (hstate : (s.health s.mp.param0.toNat).state ≠ .untracked) : s.takeReseed = State.completeImmediate 0x41 .ok
      (State.putHealth s.mp.param0.toNat ((s.health s.mp.param0.toNat).quieted (s.health s.mp.param0.toNat).f) s) := by
  simp [State.takeReseed, h, Nat.not_le.mpr hp, HealthRecord.tracked, hstate]

end

end Sys2Proof.Machine

open Sys2Proof Sys2Proof.Machine

/-- Settles O49: the conditions of R128 and R129 decide which of the command's answers is taken. -/
theorem rolesAndReseedsChangeOneRecord : Obligations.RolesAndReseedsChangeOneRecord := by
  intro s u hs hbusy hmode p role ref weight taken put followerOk
  have hset : exec .setRole s = .next u.clearRefusal.takeSetRole := exec_taken rfl hs hmode hbusy
  have hreseed : exec .reseed s = .next u.clearRefusal.takeReseed := exec_taken rfl hs hmode hbusy
  have hnamed : ∀ {r}, u.mode = .online → u.roleNamed p role ref weight = some r →
      exec .setRole s = taken 0x40 .ok (put { u.health p with role := r }) := fun hon hr => by
    rw [hset, State.takeSetRole_some (s := u.clearRefusal) hon hr]
    rfl
  refine ⟨fun hoff => ?_, fun hon hbad => ?_, fun hon hp hrole => ?_, fun hon hp hrole => ?_, fun hon hp hrole hok => ?_,
    fun hoff => ?_, fun hon hp => ?_, fun hon hp hstate => ?_, fun hon hp hstate => ?_⟩
  · rw [hset, State.takeSetRole_notOnline (s := u.clearRefusal) hoff]
    rfl
  · rw [hset, State.takeSetRole_none (s := u.clearRefusal) hon (State.roleNamed_none hbad)]
    rfl
  · exact hnamed hon (by rw [hrole]; exact State.roleNamed_independent hp)
  · exact hnamed hon (by rw [hrole]; exact State.roleNamed_reference hp)
  · exact hnamed hon (by rw [hrole]; exact State.roleNamed_follower hp hok)
  · rw [hreseed, State.takeReseed_notOnline (s := u.clearRefusal) hoff]
    rfl
  · rw [hreseed, State.takeReseed_beyond (s := u.clearRefusal) hon hp]
    rfl
  · rw [hreseed, State.takeReseed_untracked (s := u.clearRefusal) hon hp hstate]
    rfl
  · rw [hreseed, State.takeReseed_tracked (s := u.clearRefusal) hon hp hstate]
    rfl

end

-- ==== Proofs: VerifiedLine ====
section
/-! SUPPORT. A verified line that is not the last: the redo, or the cursor's advance (R156, R157). -/

namespace Sys2Proof.Machine

section
variable {i : Nat} {e : CopyingEntry} {b : List StoreWord} {s : State}

/-- A line under a redo mark is copied again (R157). -/
theorem State.endLine_redo : State.endLine i e b true s = State.setMe (.copyRead false) .raised s := rfl

/-- A line without a redo mark counts, and the next line's copy read is raised (R157). -/
theorem State.endLine_advances (h : e.cursor < 4095) : State.endLine i e b false s =
    State.setMe (.copyRead false) .raised
      (State.setEntry i (.copying { e with cursor := e.cursor + 1, poisoned := e.poisoned + linePoison b }) s) := by
  have hcur : e.cursor + 1 < 4096 := by omega
  simp [State.endLine, hcur]

end

end Sys2Proof.Machine

open Sys2Proof Sys2Proof.Machine

/-- Settles O31: no word of the line fails, so the line ends, by its redo mark. -/
theorem verifiedLineAdvancesTheCursor : Obligations.VerifiedLineAdvancesTheCursor := by
  intro op flips i e b redo s u hs hg hreq hdel hc hst hb array hpass
  have hnil : failingWords b (State.readLine op { u with array := array }) = [] :=
    failingWords_nil b hb array op.segment op.line hpass
  have hexec : exec (.verifyReadComplete flips) s =
      .next (State.freePort (State.endLine i e b redo { u with array := array })) := by
    rw [exec_verifyRead hs hg hreq hdel hc hst, State.finishVerifyRead_passed hnil]
  refine ⟨fun hredo => ?_, fun hredo hcur => ?_⟩
  · rw [hexec, hredo, State.endLine_redo]
    rfl
  · rw [hexec, hredo, State.endLine_advances hcur]
    rfl

end

-- ==== Proofs: Retire ====
section
/-! SUPPORT. RETIRE: the conditions of R148 in their order, and the entry that it appends. -/

namespace Sys2Proof.Machine

/-! ## The outcome of RETIRE (R148) -/

section
variable {s : State} {g : Nat}

theorem State.checkRetire_notOnline (h : s.mode ≠ .online) : s.checkRetire g = .notOnline := by
  simp [State.checkRetire, h]

section
variable (hon : s.mode = .online)
include hon

theorem State.checkRetire_badParameter (hg : s.numL ≤ g) : s.checkRetire g = .badParameter := by
  simp [State.checkRetire, hon, hg]

section
variable (hg : g < s.numL)
include hg

theorem State.checkRetire_claimed (hc : (s.queuedForRetire g || s.isCopying g) = true) : s.checkRetire g = .segmentBusy := by
  rw [State.checkRetire, if_neg (by simp [hon]), if_neg (Nat.not_le.mpr hg), if_pos hc]

section
variable (hc : ¬(s.queuedForRetire g || s.isCopying g) = true)
include hc

theorem State.checkRetire_unclaimed : s.checkRetire g =
    if Config.retireQueueEntries ≤ s.me.queue.length then .queueFull else if s.lowestSpare.isNone then .noSpare else .ok := by
  rw [State.checkRetire, if_neg (by simp [hon]), if_neg (Nat.not_le.mpr hg), if_neg hc]

theorem State.checkRetire_full (hfull : Config.retireQueueEntries ≤ s.me.queue.length) : s.checkRetire g = .queueFull := by
  rw [State.checkRetire_unclaimed hon hg hc, if_pos hfull]

theorem State.checkRetire_noSpare (hroom : s.me.queue.length < Config.retireQueueEntries) (hs : s.lowestSpare.isNone = true) :
    s.checkRetire g = .noSpare := by
  rw [State.checkRetire_unclaimed hon hg hc, if_neg (Nat.not_le.mpr hroom), if_pos hs]

theorem State.checkRetire_ok (hroom : s.me.queue.length < Config.retireQueueEntries) (hs : ¬s.lowestSpare.isNone = true) :
    s.checkRetire g = .ok := by
  rw [State.checkRetire_unclaimed hon hg hc, if_neg (Nat.not_le.mpr hroom), if_neg hs]

end

end

end

end

/-- RETIRE is answered at once with the outcome of its checks; OK alone queues the segment (R148). -/
theorem State.takeRetire_of_check {s : State} {o : CmdOutcome} (h : s.checkRetire s.mp.param0.toNat = o) : s.takeRetire =
    State.completeImmediate 0x20 o (if o = .ok then State.appendRetire s.mp.param0.toNat .manual s else s) := by
  rw [State.takeRetire, h]

end Sys2Proof.Machine

open Sys2Proof Sys2Proof.Machine

/-- Settles O44: each of R148's conditions, the earlier ones failed, gives the outcome that RETIRE answers with. -/
theorem retireIsCheckedInOrder : Obligations.RetireIsCheckedInOrder := by
  intro s u hs hbusy hmode g copying answered
  have htaken : ∀ o, u.checkRetire g = o → exec .retire s = .next (State.completeImmediate 0x20 o
      (if o = .ok then State.appendRetire g .manual u.clearRefusal else u.clearRefusal)) := fun o ho => by
    rw [exec_taken (c := .retire) rfl hs hmode hbusy, State.takeRetire_of_check (s := u.clearRefusal) ho]
    rfl
  have hclaimed : (u.queuedForRetire g || u.isCopying g) = true ↔ (∃ x ∈ u.me.queue, x.logical = g) ∨ copying := by
    rw [Bool.or_eq_true, State.queuedForRetire_iff, State.isCopying_iff]
  have hspare : u.lowestSpare.isNone = true ↔ ∀ x ∈ u.rc.segs, x.role ≠ .spareFree := by
    rw [State.lowestSpare_isNone]
    simp
  refine ⟨fun hoff => ?_, fun hon hg => ?_, fun hon hg hc => ?_, fun hon hg hc hfull => ?_, fun hon hg hc hroom hnone => ?_,
    fun hon hg hc hroom ⟨x, hx, hfree⟩ => ?_⟩
  · rw [htaken _ (State.checkRetire_notOnline hoff)]
    rfl
  · rw [htaken _ (State.checkRetire_badParameter hon hg)]
    rfl
  · rw [htaken _ (State.checkRetire_claimed hon hg (hclaimed.mpr hc))]
    rfl
  · rw [htaken _ (State.checkRetire_full hon hg (mt hclaimed.mp hc) hfull)]
    rfl
  · rw [htaken _ (State.checkRetire_noSpare hon hg (mt hclaimed.mp hc) hroom (hspare.mpr hnone))]
    rfl
  · rw [htaken _ (State.checkRetire_ok hon hg (mt hclaimed.mp hc) hroom fun h => hspare.mp h x hx hfree)]
    rfl

end

-- ==== Proofs: QuiesceComplete ====
section
/-! SUPPORT. The completion of a waiting QUIESCE (R166). -/

namespace Sys2Proof.Machine

/-- The long command of code `k` is running (R191). -/
theorem State.running_iff (k : Byte) (s : State) : s.running k = true ↔ s.mp.busy = true ∧ s.mp.longCommand = k := by
  simp [State.running]

/-- A QUIESCE is waiting and the engines are at rest (R166). -/
theorem State.quiesceDue_iff (s : State) : (s.running 0x22 && s.quiet) = true ↔
    s.mp.busy = true ∧ s.mp.longCommand = 0x22 ∧ s.me.state = .idle ∧ s.ru.queue = [] := by
  rw [Bool.and_eq_true, State.running_iff, State.quiet_iff, and_assoc]

theorem State.quiesceComplete_due {s : State} (h : (s.running 0x22 && s.quiet) = true) :
    s.quiesceComplete = State.completeLong .ok s := if_pos h

theorem State.quiesceComplete_notDue {s : State} (h : ¬(s.running 0x22 && s.quiet) = true) : s.quiesceComplete = s := if_neg h

end Sys2Proof.Machine

open Sys2Proof Sys2Proof.Machine

/-- Settles O37: the event is due exactly when a QUIESCE waits with the engines at rest. -/
theorem quiesceWaitsForTheEngines : Obligations.QuiesceWaitsForTheEngines := by
  intro s
  have hexec : exec .quiesceComplete s = .next s.quiesceComplete := exec_eq _ s
  refine ⟨fun hbusy hcode hidle hqueue => ?_, fun hwaits => ?_⟩
  · rw [hexec, State.quiesceComplete_due (s.quiesceDue_iff.mpr ⟨hbusy, hcode, hidle, hqueue⟩), ← AlertUnit.set_commandDone]
    rfl
  · have hnot : ¬(s.running 0x22 && s.quiet) = true := by
      rw [s.quiesceDue_iff]
      simpa only [not_and_or, ne_eq, Bool.not_eq_true] using hwaits
    rw [hexec, State.quiesceComplete_notDue hnot]

end

-- ==== Proofs: FaultReports ====
section
/-! SUPPORT. A fault report as the Fault Capture Unit takes it: the flags of its kind, the record, the cause (R173 to R175). -/

namespace Sys2Proof.Machine

/-! ## The flags of a kind (R172, R173) -/

/-- The seen and again flags of a kind of report (R172). -/
def FaultCapture.flags (u : FaultCapture) : FaultKind → SeenAgain
  | .corrected => u.corrected
  | .uncorrectable => u.uncorrectable
  | .poison => u.poison
  | .noaddr => u.noaddr

theorem FaultCapture.flags_withRecord (u : FaultCapture) (x : Option FaultReport) (k : FaultKind) :
    FaultCapture.flags { u with record := x } k = u.flags k := by
  cases k <;> rfl

theorem FaultCapture.flags_flag (u : FaultCapture) (j k : FaultKind) :
    (u.flag j).flags k = if k = j then (u.flags k).report else u.flags k := by
  cases j <;> cases k <;> rfl

/-- Taken into the record or not, a report updates the flags of its kind. -/
theorem FaultCapture.flags_report (u : FaultCapture) (r : FaultReport) (k : FaultKind) :
    (u.report r).flags k = if k = r.kind then (u.flags k).report else u.flags k := by
  rw [← FaultCapture.flags_flag, FaultCapture.report]
  split
  · exact FaultCapture.flags_withRecord _ _ k
  · rfl

/-! ## The Capture Record (R174) -/

theorem FaultCapture.record_flag (u : FaultCapture) (k : FaultKind) : (u.flag k).record = u.record := by
  cases k <;> rfl

theorem FaultCapture.takes_of_empty {u : FaultCapture} (h : u.record = none) (r : FaultReport) : u.takes r = true := by
  simp [FaultCapture.takes, h]

/-- A record held gives way where it is CORRECTED and the report is not. -/
theorem FaultCapture.takes_iff_of_held {u : FaultCapture} {old : FaultReport} (h : u.record = some old) (r : FaultReport) :
    u.takes r = true ↔ old.kind = .corrected ∧ r.kind ≠ .corrected := by
  simp [FaultCapture.takes, h]

theorem FaultCapture.record_of_takes {u : FaultCapture} {r : FaultReport} (h : u.takes r = true) : (u.report r).record = some r := by
  rw [FaultCapture.report, if_pos h]

theorem FaultCapture.record_of_not_takes {u : FaultCapture} {r : FaultReport} (h : ¬u.takes r = true) :
    (u.report r).record = u.record := by
  rw [FaultCapture.report, if_neg h, FaultCapture.record_flag]

/-! ## The cause (R175) -/

theorem FaultCapture.cause_of_undeliverable {r : FaultReport} (h : r.kind = .uncorrectable ∨ r.kind = .poison) (u : FaultCapture) :
    u.cause r = some .uncorrectableSeen := by
  rcases h with h | h <;> simp [FaultCapture.cause, h]

theorem FaultCapture.cause_of_noaddr {r : FaultReport} (h : r.kind = .noaddr) (u : FaultCapture) : u.cause r = some .noaddrSeen := by
  simp [FaultCapture.cause, h]

theorem FaultCapture.cause_of_corrected {r : FaultReport} (h : r.kind = .corrected) (u : FaultCapture) :
    u.cause r = if u.takes r = true then some .correctedCaptured else none := by
  simp [FaultCapture.cause, h]

theorem State.causes_report_of_cause {r : FaultReport} {s : State} {c : Cause} (h : s.fcu.cause r = some c) :
    (State.report r s).alu.causes = s.alu.causes ||| c.mask := by
  rw [State.report_eq, h]
  rfl

theorem State.causes_report_of_noCause {r : FaultReport} {s : State} (h : s.fcu.cause r = none) :
    (State.report r s).alu.causes = s.alu.causes := by
  rw [State.report_eq, h]

/-- A report touches the Fault Capture Unit and the cause flags alone. -/
theorem State.report_changes (r : FaultReport) (s : State) : State.report r s =
    { s with fcu := (State.report r s).fcu, alu := { s.alu with causes := (State.report r s).alu.causes } } := by
  rw [State.report_eq]
  cases s.fcu.cause r <;> rfl

end Sys2Proof.Machine

open Sys2Proof Sys2Proof.Machine

/-- Settles O53: the flags by the report's kind, the record by whether R174 takes the report, the cause by R175's case. -/
theorem faultReportsAreCaptured : Obligations.FaultReportsAreCaptured := by
  rintro rep s _ rfl flags
  have hflags : flags = FaultCapture.flags := rfl
  have hfcu := State.report_fcu rep s
  have hsame : (State.report rep s).fcu.flags rep.kind = (s.fcu.flags rep.kind).report := by
    rw [hfcu, FaultCapture.flags_report, if_pos rfl]
  rw [hflags]
  refine ⟨State.report_changes rep s, fun k hk => ?_, ?_, ?_, fun hempty => ?_, fun old hold hc hr => ?_, fun old hold hc hr => ?_,
    fun old hold hc => ?_, fun hk => ?_, fun hk => ?_, fun hk hempty => ?_, fun hk hheld => ?_⟩
  · rw [hfcu, FaultCapture.flags_report, if_neg hk]
  · rw [hsame]
    rfl
  · rw [hsame]
    exact Bool.or_eq_true_iff
  · rw [hfcu, FaultCapture.record_of_takes (FaultCapture.takes_of_empty hempty rep)]
  · rw [hfcu, FaultCapture.record_of_takes ((FaultCapture.takes_iff_of_held hold rep).mpr ⟨hc, hr⟩)]
  · have hkept : ¬s.fcu.takes rep = true := fun h => ((FaultCapture.takes_iff_of_held hold rep).mp h).2 hr
    rw [hfcu, FaultCapture.record_of_not_takes hkept, hold]
  · have hkept : ¬s.fcu.takes rep = true := fun h => hc ((FaultCapture.takes_iff_of_held hold rep).mp h).1
    rw [hfcu, FaultCapture.record_of_not_takes hkept, hold]
  · exact State.causes_report_of_cause (FaultCapture.cause_of_undeliverable hk s.fcu)
  · exact State.causes_report_of_cause (FaultCapture.cause_of_noaddr hk s.fcu)
  · refine State.causes_report_of_cause (c := .correctedCaptured) ?_
    rw [FaultCapture.cause_of_corrected hk, if_pos (FaultCapture.takes_of_empty hempty rep)]
  · obtain ⟨old, hold⟩ := Option.ne_none_iff_exists'.mp hheld
    have hkept : ¬s.fcu.takes rep = true := fun h => ((FaultCapture.takes_iff_of_held hold rep).mp h).2 hk
    refine State.causes_report_of_noCause ?_
    rw [FaultCapture.cause_of_corrected hk, if_neg hkept]

end

-- ==== Proofs: Alerts ====
section
/-! SUPPORT. The summary code and the ALERT line (R178, R181): the flags that count, by their bits. -/

namespace Sys2Proof.Machine

/-! ## The flags and their bits (R178) -/

theorem Cause.bit_lt (c : Cause) : c.bit < 12 := by
  cases c <;> decide

/-- Each of the twelve bits is a flag's. -/
theorem Cause.exists_bit_eq : ∀ b < 12, ∃ c : Cause, c.bit = b
  | 0, _ => ⟨.resetSeen, rfl⟩
  | 1, _ => ⟨.uncorrectableSeen, rfl⟩
  | 2, _ => ⟨.sparesExhausted, rfl⟩
  | 3, _ => ⟨.migrationFailed, rfl⟩
  | 4, _ => ⟨.alarmEntered, rfl⟩
  | 5, _ => ⟨.calError, rfl⟩
  | 6, _ => ⟨.noaddrSeen, rfl⟩
  | 7, _ => ⟨.watchEntered, rfl⟩
  | 8, _ => ⟨.correctedCaptured, rfl⟩
  | 9, _ => ⟨.repairOverflow, rfl⟩
  | 10, _ => ⟨.migrationDone, rfl⟩
  | 11, _ => ⟨.commandDone, rfl⟩

/-- Flag `c` is both set and enabled (R181). -/
def AlertUnit.Counts (a : AlertUnit) (c : Cause) : Prop := a.isSet c = true ∧ a.enables.getLsbD c.bit = true

theorem AlertUnit.counts_iff (a : AlertUnit) (c : Cause) : a.Counts c ↔ (a.causes &&& a.enables).getLsbD c.bit = true := by
  rw [BitVec.getLsbD_and, Bool.and_eq_true]
  rfl

/-! ## The summary code and the ALERT line (R181) -/

theorem AlertUnit.summary_of_none {a : AlertUnit} (h : ∀ c, ¬a.Counts c) : a.summary = 0 := by
  have hfind : ((List.range 12).find? fun b => (a.causes &&& a.enables).getLsbD b) = none := by
    refine List.find?_eq_none.mpr fun b hb => ?_
    obtain ⟨c, rfl⟩ := Cause.exists_bit_eq b (List.mem_range.mp hb)
    rw [← a.counts_iff]
    exact h c
  rw [AlertUnit.summary, hfind]

theorem AlertUnit.summary_of_first {a : AlertUnit} {c : Cause} (hc : a.Counts c) (hfirst : ∀ c', c'.bit < c.bit → ¬a.Counts c') :
    a.summary = c.bit + 1 := by
  have hfind : ((List.range 12).find? fun b => (a.causes &&& a.enables).getLsbD b) = some c.bit := by
    refine List.find?_range_eq_some.mpr ⟨(a.counts_iff c).mp hc, List.mem_range.mpr c.bit_lt, fun b hb => ?_⟩
    obtain ⟨c', rfl⟩ := Cause.exists_bit_eq b (hb.trans c.bit_lt)
    rw [Bool.not_eq_true', ← Bool.not_eq_true, ← a.counts_iff]
    exact hfirst c' hb
  rw [AlertUnit.summary, hfind]

theorem AlertUnit.summary_le (a : AlertUnit) : a.summary ≤ 12 := by
  unfold AlertUnit.summary
  split
  next b hb => exact List.mem_range.mp (List.mem_of_find?_eq_some hb)
  next => exact Nat.zero_le 12

/-- Some flag counts exactly where the flags and their enables have a bit in common. -/
theorem AlertUnit.exists_counts_iff (a : AlertUnit) : (∃ c, a.Counts c) ↔ a.causes &&& a.enables ≠ 0 := by
  constructor
  · rintro ⟨c, hc⟩ hzero
    rw [a.counts_iff, hzero] at hc
    simp at hc
  · intro hne
    by_contra hnone
    refine hne (BitVec.eq_of_getLsbD_eq fun b hb => ?_)
    obtain ⟨c, rfl⟩ := Cause.exists_bit_eq b hb
    have hc : ¬a.Counts c := fun hc => hnone ⟨c, hc⟩
    rw [a.counts_iff, Bool.not_eq_true] at hc
    rw [hc]
    exact (BitVec.getLsbD_zero).symm

theorem AlertUnit.asserted_iff (a : AlertUnit) : a.asserted = true ↔ a.master = true ∧ ∃ c, a.Counts c := by
  rw [AlertUnit.asserted, Bool.and_eq_true, bne_iff_ne, a.exists_counts_iff]

end Sys2Proof.Machine

open Sys2Proof Sys2Proof.Machine

/-- Settles O54: the twelve bits searched in order are the flags in their priority. -/
theorem summaryNamesTheMostUrgentCause : Obligations.SummaryNamesTheMostUrgentCause := by
  intro s counts
  exact ⟨AlertUnit.summary_of_none, fun c => AlertUnit.summary_of_first, s.alu.summary_le, s.alu.asserted_iff⟩

end

-- ==== Proofs: AlertWrites ====
section
/-! SUPPORT. ENABLE_WRITE and ACKNOWLEDGE_MASK_WRITE: twelve flags in two bytes, each byte written or not (R179, R180, R186). -/

namespace Sys2Proof.Machine

/-! ## Twelve flags in two bytes (R186) -/

section
variable {n : Nat}

theorem flagPair_low (lo hi : Byte) (h : n < 8) : (flagPair lo hi).getLsbD n = lo.getLsbD n := by
  have h12 : n < 12 := by omega
  rw [flagPair, BitVec.getLsbD_setWidth, BitVec.getLsbD_append]
  simp [h, h12]

theorem flagPair_high (lo hi : Byte) (h : 8 ≤ n) (h12 : n < 12) : (flagPair lo hi).getLsbD n = hi.getLsbD (n - 8) := by
  rw [flagPair, BitVec.getLsbD_setWidth, BitVec.getLsbD_append]
  simp [Nat.not_lt.mpr h, h12]

theorem lowFlags_bit (x : BitVec 12) (h : n < 8) : (lowFlags x).getLsbD n = x.getLsbD n := by
  simp [lowFlags, h]

theorem highFlags_bit (x : BitVec 12) (h : 8 ≤ n) (h12 : n < 12) : (highFlags x).getLsbD (n - 8) = x.getLsbD n := by
  have hlow : n - 8 < 8 := by omega
  simp [highFlags, hlow, Nat.add_sub_cancel' h]

/-! ## The enables after a write (R179) -/

theorem AlertUnit.afterWrite_enables_low (a : AlertUnit) (t : Transfer) (h : n < 8) : (a.afterWrite t).enables.getLsbD n =
    (heldByte t 0x72).elim (a.enables.getLsbD n) (BitVec.getLsbD · n) := by
  rw [AlertUnit.afterWrite, flagPair_low _ _ h]
  cases heldByte t 0x72 with
  | some b => rfl
  | none => exact lowFlags_bit a.enables h

theorem AlertUnit.afterWrite_enables_high (a : AlertUnit) (t : Transfer) (h : 8 ≤ n) (h12 : n < 12) :
    (a.afterWrite t).enables.getLsbD n = (heldByte t 0x73).elim (a.enables.getLsbD n) (BitVec.getLsbD · (n - 8)) := by
  rw [AlertUnit.afterWrite, flagPair_high _ _ h h12]
  cases heldByte t 0x73 with
  | some b => rfl
  | none => exact highFlags_bit a.enables h h12

end

theorem AlertUnit.afterWrite_master (a : AlertUnit) (t : Transfer) :
    (a.afterWrite t).master = (heldByte t 0x74).elim a.master fun b => decide (b ≠ 0) := by
  rw [AlertUnit.afterWrite]
  cases heldByte t 0x74 with
  | some b => simp [bne, beq_eq_decide]
  | none => rfl

/-! ## The acknowledge mask (R180) -/

/-- A bit of a byte that counts as 0 where it is not written. -/
theorem getLsbD_getD_zero (x : Option Byte) (n : Nat) : (x.getD 0).getLsbD n = true ↔ ∃ b, x = some b ∧ b.getLsbD n = true := by
  cases x <;> simp

theorem ackMask_bit (t : Transfer) (c : Cause) : (ackMask t).getLsbD c.bit = true ↔
    ∃ b, heldByte t (if c.bit < 8 then 0x75 else 0x76) = some b ∧ b.getLsbD (if c.bit < 8 then c.bit else c.bit - 8) = true := by
  by_cases h : c.bit < 8
  · rw [ackMask, flagPair_low _ _ h, if_pos h, if_pos h, getLsbD_getD_zero]
  · rw [ackMask, flagPair_high _ _ (Nat.le_of_not_lt h) c.bit_lt, if_neg h, if_neg h, getLsbD_getD_zero]

theorem AlertUnit.isSet_acknowledge (a : AlertUnit) (m : BitVec 12) (c : Cause) :
    (a.acknowledge m).isSet c = true ↔ a.isSet c = true ∧ ¬m.getLsbD c.bit = true := by
  simp [AlertUnit.isSet, AlertUnit.acknowledge, c.bit_lt]

/-- The acknowledge mask reads as 0 (R180, R186). -/
theorem State.fieldByte_ackMask (s : State) : s.fieldByte 0x75 = 0 ∧ s.fieldByte 0x76 = 0 := ⟨rfl, rfl⟩

/-! ## The two writes (R183, R185) -/

section
variable {s : State} {t : Transfer}

theorem State.writeEnables_ignored (h : ¬s.acknowledges t.address = true) : State.writeEnables t s = s := by
  simp [State.writeEnables, h]

theorem State.writeEnables_taken (h : s.acknowledges t.address = true) : State.writeEnables t s =
    { s with alu := s.alu.afterWrite t, mp := { s.mp with index := indexAfter t s.mp.index } } := by
  simp [State.writeEnables, h]

theorem State.writeAck_ignored (h : ¬s.acknowledges t.address = true) : State.writeAck t s = s := by
  simp [State.writeAck, h]

theorem State.writeAck_taken (h : s.acknowledges t.address = true) : State.writeAck t s =
    { s with alu := s.alu.acknowledge (ackMask t), mp := { s.mp with index := indexAfter t s.mp.index } } := by
  simp [State.writeAck, h]

end

end Sys2Proof.Machine

open Sys2Proof Sys2Proof.Machine

/-- Settles O39: a transfer to this part's address by its bytes held, one to another address ignored. -/
theorem enablesAndAcknowledgeAreTakenByByte : Obligations.EnablesAndAcknowledgeAreTakenByByte := by
  rintro t s _ rfl hmode
  have henable : exec (.enableWrite t) s = .next (State.writeEnables t s.settle) := exec_eq _ s
  have hack : exec (.acknowledgeMaskWrite t) s = .next (State.writeAck t s.settle) := exec_eq _ s
  rw [henable, hack]
  refine ⟨fun ht => ?_, fun ht => ?_⟩
  · have htaken := (State.acknowledges_iff hmode t.address).mpr ht
    rw [State.writeEnables_taken htaken, State.writeAck_taken htaken]
    refine ⟨⟨_, rfl, rfl, fun i data hb => indexAfter_of_bytes hb _, rfl, fun n hn => ?_, fun n hn hn12 => ?_, ?_⟩,
      ⟨_, rfl, rfl, fun i data hb => indexAfter_of_bytes hb _, rfl, rfl, fun c => ?_, State.fieldByte_ackMask _⟩⟩
    · rw [AlertUnit.afterWrite_enables_low _ t hn]
      cases heldByte t 0x72 <;> rfl
    · rw [AlertUnit.afterWrite_enables_high _ t hn hn12]
      cases heldByte t 0x73 <;> rfl
    · rw [AlertUnit.afterWrite_master]
      cases heldByte t 0x74 <;> rfl
    · rw [AlertUnit.isSet_acknowledge, ackMask_bit]
  · have hignored := mt (State.acknowledges_iff hmode t.address).mp ht
    rw [State.writeEnables_ignored hignored, State.writeAck_ignored hignored]
    exact ⟨rfl, rfl⟩

end

-- ==== Proofs: CommandCodes ====
section
/-! SUPPORT. The rows that the port starts from a command code, and the three ways such a code is answered (R183, R190, R192). -/

namespace Sys2Proof.Machine

theorem step_cons {c : Instr} {rest : List Instr} {s : State} (h : s.pending = c :: rest) :
    step s = exec c { s with pending := rest } := by
  simp only [step, h]

section
variable {c : Instr} {code : Byte} {s : State}

/-- A row that a code other than 00h starts, but for ENGINE_RESET's, is that code taken by the port (R190). -/
theorem exec_eq_takeCommand (hcode : Laws.codeOf c = some code) (hzero : code ≠ 0) (hreset : c ≠ .engineReset) :
    ∃ body, exec c s = .next (State.takeCommand code body s.settle) := by
  cases c
  case unknownCommand k =>
    cases hcode
    have htaken : State.unknownCode code s.settle =
        State.takeCommand code (State.completeImmediate code .badParameter) s.settle := if_neg hzero
    exact ⟨_, (exec_eq _ s).trans (congrArg _ htaken)⟩
  case engineReset => exact absurd rfl hreset
  all_goals
    cases hcode <;> exact ⟨_, exec_eq _ s⟩

/-- In INIT the port takes no code (R183). -/
theorem exec_of_init (hcode : Laws.codeOf c = some code) (hzero : code ≠ 0) (hreset : c ≠ .engineReset)
    (hmode : s.settle.mode = .init) : exec c s = .next s.settle := by
  obtain ⟨body, hexec⟩ := exec_eq_takeCommand (s := s) hcode hzero hreset
  rw [hexec, State.takeCommand_init code body _ hmode]

/-- While a long command executes a code is refused (R190). -/
theorem exec_of_busy (hcode : Laws.codeOf c = some code) (hzero : code ≠ 0) (hreset : c ≠ .engineReset)
    (hmode : s.settle.mode ≠ .init) (hbusy : s.settle.mp.busy = true) : exec c s = .next (State.refuse code s.settle) := by
  obtain ⟨body, hexec⟩ := exec_eq_takeCommand (s := s) hcode hzero hreset
  rw [hexec, State.takeCommand_busy code body _ hmode hbusy]

end

theorem State.engineReset_init {s : State} (h : s.mode = .init) : s.engineReset = s := by
  simp [State.engineReset, State.mpAnswers, h]

/-- 00h is no command (R190). -/
theorem State.unknownCode_zero (s : State) : State.unknownCode 0 s = s := if_pos rfl

theorem State.unknownCode_free {code : Byte} {s : State} (hzero : code ≠ 0) (hmode : s.mode ≠ .init) (hbusy : s.mp.busy = false) :
    State.unknownCode code s = State.completeImmediate code .badParameter s.clearRefusal := by
  rw [State.unknownCode, if_neg hzero, State.takeCommand_free _ _ _ hmode hbusy]

end Sys2Proof.Machine

open Sys2Proof Sys2Proof.Machine

/-- Settles O1: the front command's arm of a step. -/
theorem stepRunsTheFrontCommand : Obligations.StepRunsTheFrontCommand := fun _ _ _ => step_cons

/-- Settles O40: each listed row is its code taken by the port, and so is an unknown code other than 00h. -/
theorem commandsAreRefusedWhileBusy : Obligations.CommandsAreRefusedWhileBusy := by
  rintro s _ rfl codes
  have hcodes : ∀ x ∈ codes, Laws.codeOf x.1 = some x.2 ∧ x.2 ≠ 0 ∧ x.1 ≠ .engineReset := by decide +zetaReduce
  have hunknown : ∀ code, exec (.unknownCommand code) s = .next (State.unknownCode code s.settle) := fun _ => exec_eq _ s
  have hreset : exec .engineReset s = .next s.settle.engineReset := exec_eq _ s
  refine ⟨fun hmode => ⟨fun x hx => ?_, ?_, fun code => ?_⟩, fun hmode hbusy x hx => ?_, fun hmode hbusy code hzero => ?_,
    fun hmode hbusy code hzero => ?_, ?_⟩
  · obtain ⟨hcode, hzero, hne⟩ := hcodes x hx
    exact exec_of_init hcode hzero hne hmode
  · rw [hreset, State.engineReset_init hmode]
  · by_cases hzero : code = 0
    · rw [hzero, hunknown, State.unknownCode_zero]
    · exact exec_of_init rfl hzero nofun hmode
  · obtain ⟨hcode, hzero, hne⟩ := hcodes x hx
    exact exec_of_busy hcode hzero hne hmode hbusy
  · exact exec_of_busy rfl hzero nofun hmode hbusy
  · rw [hunknown, State.unknownCode_free hzero hmode hbusy]
    rfl
  · rw [hunknown, State.unknownCode_zero]

end

-- ==== Proofs: FieldMap ====
section
/-! SUPPORT. READ_TRANSFER and the field map: what an index reads as, block by block (R183, R184, R186, R187, R195). -/

namespace Sys2Proof.Machine

/-! ## 16-bit fields, low byte first (R183) -/

theorem wordByte_even (ws : List (BitVec 16)) (k : Nat) : wordByte ws (2 * k) = lowByte (ws.getD k 0xFFFF).toNat := by
  simp [wordByte]

theorem wordByte_odd (ws : List (BitVec 16)) (k : Nat) : wordByte ws (2 * k + 1) = highByte (ws.getD k 0xFFFF).toNat := by
  have hhalf : (2 * k + 1) / 2 = k := by omega
  simp [wordByte, hhalf]

theorem lowFlags_eq (x : BitVec 12) : lowFlags x = lowByte x.toNat := by
  rw [lowByte, BitVec.ofNat_toNat]
  rfl

theorem highFlags_eq (x : BitVec 12) : highFlags x = highByte x.toNat := by
  rw [highFlags, highByte, ← BitVec.ofNat_toNat, BitVec.toNat_ushiftRight, Nat.shiftRight_eq_div_pow]

/-- A flag is the number 0 or 1 (R183). -/
theorem ite_eq_toNat (b : Bool) : (if b = true then 1 else 0) = b.toNat := by
  cases b <;> rfl

theorem lowByte_toNat (b : Bool) : lowByte b.toNat = if b = true then 1 else 0 := by
  cases b <;> rfl

/-- The mode byte outside INIT (R186). -/
theorem PartMode.code_of_ne_init {m : PartMode} (h : m ≠ .init) : m.code = if m = .online then 0x02 else 0x01 := by
  cases m with
  | init => exact absurd rfl h
  | config => rfl
  | online => rfl

/-! ## The settings (R195) -/

theorem Settings.fieldByte_index (st : Settings) (x : Setting) : st.fieldByte x.index = lowByte (st.get x) := by
  cases x <;> rfl

theorem Settings.fieldByte_index_succ (st : Settings) {x : Setting} (h : x.wide = true) :
    st.fieldByte (x.index + 1) = highByte (st.get x) := by
  cases x <;> cases h <;> rfl

/-! ## The blocks of the field map (R186) -/

theorem State.fieldByte_result (s : State) {k : Nat} (h : k < 16) : s.fieldByte (0x28 + k) = wordByte s.mp.results k := by
  rw [State.fieldByte, if_neg (by omega), if_neg (by omega), if_neg (by omega), if_neg (by omega), if_pos (by omega),
    Nat.add_sub_cancel_left]

theorem State.fieldByte_setting (s : State) {k : Nat} (hlow : 0x40 ≤ k) (hhigh : k < 0x70) : s.fieldByte k = s.settings.fieldByte k := by
  rw [State.fieldByte, if_neg (by omega), if_neg (by omega), if_neg (by omega), if_neg (by omega), if_neg (by omega),
    if_pos ⟨hlow, hhigh⟩]

theorem Setting.index_bounds (x : Setting) : 0x40 ≤ x.index ∧ x.index + 1 < 0x70 := by
  cases x <;> decide

theorem State.fieldByte_setting_low (s : State) (x : Setting) : s.fieldByte x.index = lowByte (s.settings.get x) := by
  obtain ⟨hlow, hhigh⟩ := x.index_bounds
  rw [s.fieldByte_setting hlow (by omega), Settings.fieldByte_index]

theorem State.fieldByte_setting_high (s : State) {x : Setting} (h : x.wide = true) :
    s.fieldByte (x.index + 1) = highByte (s.settings.get x) := by
  obtain ⟨hlow, hhigh⟩ := x.index_bounds
  rw [s.fieldByte_setting (by omega) hhigh, Settings.fieldByte_index_succ _ h]

/-- The indices between the blocks and above them hold no field (R186). -/
theorem State.fieldByte_gap (s : State) {k : Nat} (h : 0x11 ≤ k ∧ k < 0x18 ∨ 0x38 ≤ k ∧ k < 0x40 ∨ 0x78 ≤ k) : s.fieldByte k = 0xFF := by
  rw [State.fieldByte, if_neg (by omega), if_neg (by omega), if_neg (by omega), if_neg (by omega), if_neg (by omega),
    if_neg (by omega), if_neg (by omega)]

theorem State.fieldByte_afterId (s : State) {k : Nat} (hlow : 0x0A ≤ k) (hhigh : k < 0x10) : s.fieldByte k = 0xFF := by
  rw [State.fieldByte, if_pos hhigh, idByte]
  exact List.getD_eq_default _ _ hlow

/-- The indices that the settings block leaves free (R195). -/
theorem State.fieldByte_betweenSettings (s : State) {k : Nat} (h : k ∈ [0x61, 0x62, 0x63, 0x6F]) : s.fieldByte k = 0xFF := by
  fin_cases h <;> rfl

/-! ## Read transfers (R183, R184) -/

section
variable {s : State} {t : ReadTransfer}

theorem State.readTransfer_ignored (h : ¬s.acknowledges t.address = true) : State.readTransfer t s = s := by
  simp [State.readTransfer, h]

theorem State.readTransfer_taken (h : s.acknowledges t.address = true) : State.readTransfer t s =
    { s with mp := { s.mp with
        readCopy := s.fieldMap
        readBytes := bytesFrom s.fieldMap s.mp.index.toNat t.count
        index := s.mp.index + BitVec.ofNat 8 t.count } } := by
  simp [State.readTransfer, h]

end

theorem bytesFrom_length (copy : List Byte) (i n : Nat) : (bytesFrom copy i n).length = n := by
  simp [bytesFrom]

theorem State.fieldMap_getD (s : State) {k : Nat} (h : k < 256) : s.fieldMap.getD k 0xFF = s.fieldByte k := by
  simp [State.fieldMap, List.getD_eq_getElem?_getD, h]

theorem State.bytesFrom_fieldMap (s : State) {i j n : Nat} (h : j < n) :
    (bytesFrom s.fieldMap i n)[j]? = some (s.fieldByte ((i + j) % 256)) := by
  rw [← s.fieldMap_getD (Nat.mod_lt _ (by decide))]
  simp [bytesFrom, h]

end Sys2Proof.Machine

open Sys2Proof Sys2Proof.Machine

/-- Settles O41: the copy taken at the transfer's end read from the index on, then the field map block by block. -/
theorem readTransferShowsOneMoment : Obligations.ReadTransferShowsOneMoment := by
  intro a n s u hs hmode low high outcome st bytes words unassigned
  have hexec : exec (.readTransfer ⟨a, n⟩) s = .next (State.readTransfer ⟨a, n⟩ u) := hs ▸ exec_eq _ s
  have hack := State.acknowledges_iff hmode a
  have houtcome : ∀ o : CmdOutcome, o.code = outcome o := fun o => by cases o <;> rfl
  have hbytes : bytes = (Setting.all.filter fun x => !x.wide).map fun x => (x.index, st.get x) := by
    simp only [bytes, ite_eq_toNat]
    rfl
  have hwords : words = (Setting.all.filter Setting.wide).map fun x => (x.index, st.get x) := rfl
  refine ⟨fun ha => ?_, fun ha => ?_, rfl, PartMode.code_of_ne_init hmode, ⟨rfl, rfl, rfl, rfl, rfl, rfl, rfl, rfl⟩,
    ⟨rfl, rfl, rfl, houtcome _, rfl, houtcome _, rfl⟩, fun k hk => ⟨?_, ?_⟩, ?_, ?_,
    ⟨lowFlags_eq _, highFlags_eq _, lowFlags_eq _, highFlags_eq _, lowByte_toNat _, rfl, rfl, rfl⟩, ?_⟩
  · rw [hexec, State.readTransfer_ignored (mt hack.mp ha)]
  · rw [hexec, State.readTransfer_taken (hack.mpr ha)]
    exact ⟨_, rfl, rfl, bytesFrom_length _ _ _, fun j hj => u.bytesFrom_fieldMap hj⟩
  · rw [u.fieldByte_result (by omega), wordByte_even]
    rfl
  · have hodd : 0x29 + 2 * k = 0x28 + (2 * k + 1) := by omega
    rw [hodd, u.fieldByte_result (by omega), wordByte_odd]
    rfl
  · rw [hbytes]
    exact List.forall_mem_map.mpr fun x _ => u.fieldByte_setting_low x
  · rw [hwords]
    exact List.forall_mem_map.mpr fun x hx =>
      ⟨u.fieldByte_setting_low x, u.fieldByte_setting_high (List.mem_filter.mp hx).2⟩
  · simp only [unassigned, List.mem_append, List.mem_map, List.mem_range, List.mem_singleton]
    rintro k (((((⟨i, hi, rfl⟩ | ⟨i, hi, rfl⟩) | rfl) | ⟨i, hi, rfl⟩) | hk) | ⟨i, hi, rfl⟩)
    · exact u.fieldByte_afterId (by omega) (by omega)
    · exact u.fieldByte_gap (by omega)
    · rfl
    · exact u.fieldByte_gap (by omega)
    · exact u.fieldByte_betweenSettings hk
    · exact u.fieldByte_gap (by omega)

end
